-- ==== Sys2Proof/Word.lean ====
section
/-! DEFINITION. The words of the links and the segment sets of the map. -/

namespace Sys2Proof

/-- One 16-bit transfer of a link (R169). -/
abbrev Half := BitVec 16

/-- One 32-bit word of a record: two transfers, the low half first (R169). -/
abbrev Word := BitVec 32

/-- A set of segment numbers of one extent, 0 to 31: bit `n` stands for segment `n`, the form R177 gives a
segment set in a record. Union is `|||`, intersection `&&&`, and "a less b" is `a &&& ~~~b`. -/
abbrev SegSet := BitVec 32

/-- The set {0–31} of every segment. -/
abbrev SegSet.all : SegSet := BitVec.allOnes 32

end Sys2Proof
end

