-- ==== Sys2Proof/Config.lean ====
section
/-! DEFINITION. The fixed sizes of the Kestova 2C40: capacities of its tables and queues and the limits of its
fields. The spec gives every one of them; the model needs no free value (see NOTES.md). -/

namespace Sys2Proof.Config

/-- Entries an inbound FIFO holds (R170). -/
def fifoDepth : Nat := 4
/-- Records an outbound queue holds (R171). -/
def outDepth : Nat := 16
/-- Routes the Park List holds (R17, R51). -/
def parkDepth : Nat := 8
/-- Tags of the Route Table, 0 to 31 (R15, R50). -/
def tagCount : Nat := 32
/-- Places of the Watch List (R12). -/
def watchPlaces : Nat := 4096
/-- Entries the Promotion Queue holds (R32, R135). -/
def promoDepth : Nat := 64
/-- Fences and reservations the fenced set holds (R99, R103). -/
def fencePlaces : Nat := 8
/-- Places an epoch timer expiry visits (R36). -/
def sweepStride : Nat := 64
/-- The forget horizon, in epoch steps (R25). -/
def forgetHorizon : Nat := 64
/-- The highest extent number (R1). -/
def maxExtent : Nat := 16777215
/-- The highest sector address (R1). -/
def maxLba : Nat := 4294967295
/-- The top of the heat scale, at which heat saturates (R29). -/
def maxHeat : Nat := 65535
/-- The top of a stream's run length, at which it saturates (R19). -/
def maxRun : Nat := 65535
/-- The top of a STATS counter, at which it saturates (R181). -/
def maxCount : Nat := 4294967295
/-- What the 16-bit epoch counter, epoch stamps and tickets wrap at (R35, R107). -/
def wrap16 : Nat := 65536
/-- The fewest slots GEOMETRY takes (R160). -/
def minSlots : Nat := 256
/-- The most slots; a larger GEOMETRY is clamped to it (R160). -/
def maxSlots : Nat := 65536
/-- Charged failures that make a record stuck (R9). -/
def stuckAt : Nat := 3

end Sys2Proof.Config
end

