-- ==== Sys2Proof/Syntax.lean ====
section
/-! DEFINITION. The commands of the part: one constructor per row of spec/opcode_table.json. -/

namespace Sys2Proof

/-- The three ports, each a link to one master. -/
inductive Port where
  | front
  | flash
  | disk
  deriving DecidableEq, Repr

/-- The commands: the requests the map arbiter takes, what a master does on its link, the timer expiries and the
Scheduler's start event. A request row carries its fields as numbers, each as wide as the record's field (R177:
"taken whole as a number"), so that values out of range can be refused; a segment set is one word. -/
inductive Instr where
  /-- POWER_ON (R158). -/
  | powerOn
  /-- INBOUND_FRAME (R169, R170): the transfers of one frame on port `p`, up to its frame-end mark. -/
  | inboundFrame (p : Port) (halves : List Half)
  /-- RECORD_READ (R171): the master of `p` reads the last half of the head of its outbound queue. -/
  | recordRead (p : Port)
  /-- MALFORMED_ENTRY (R169): the arbiter takes the malformed entry at the head of `p`. -/
  | malformedEntry (p : Port)
  /-- ROUTE (R50): kind 0 READ, 1 WRITE, 2 TRIM. -/
  | route (tag kind lba count : Nat)
  /-- PARKED_ROUTE_READMIT (R52). -/
  | parkedRouteReadmit
  /-- DONE (R67): outcome 0 OK, 1 FAILED. -/
  | done (tag outcome : Nat)
  /-- CLAIM (R79) from port `p`. -/
  | claim (p : Port) (extent : Nat)
  /-- RELEASE (R82) from port `p`. -/
  | release (p : Port) (extent : Nat)
  /-- FLUSH_ALL (R150). -/
  | flushAll
  /-- RETRY_STUCK (R153). -/
  | retryStuck
  /-- SET EPOCH_LEN (R34). -/
  | setEpochLen (v : Nat)
  /-- SET DECAY (R40). -/
  | setDecay (v : Nat)
  /-- SET BANDS (R178): the thresholds T1, T2 and T3. -/
  | setBands (t1 t2 t3 : Nat)
  /-- SET SETTLE (R40). -/
  | setSettle (v : Nat)
  /-- SET PROMOTE_BAND (R40). -/
  | setPromoteBand (v : Nat)
  /-- SET W_RREAD (R40). -/
  | setWRread (v : Nat)
  /-- SET W_RWRITE (R40). -/
  | setWRwrite (v : Nat)
  /-- SET W_SREAD (R40). -/
  | setWSread (v : Nat)
  /-- SET W_SWRITE (R40). -/
  | setWSwrite (v : Nat)
  /-- SET WAKE_BONUS (R40). -/
  | setWakeBonus (v : Nat)
  /-- SET SEQ_RUN (R40). -/
  | setSeqRun (v : Nat)
  /-- SET WINDOW (R41): policy 0 NORMAL, 1 PIN, 2 BOOST, 3 BYPASS. -/
  | setWindow (n base mask policy : Nat) (enable : Bool)
  /-- SET PIN_LIMIT (R48). -/
  | setPinLimit (v : Nat)
  /-- SET ABSORB_RESERVE (R100). -/
  | setAbsorbReserve (v : Nat)
  /-- SET DIRTY_HIGH (R179). -/
  | setDirtyHigh (v : Nat)
  /-- SET DIRTY_LOW (R179). -/
  | setDirtyLow (v : Nat)
  /-- SET ORDER_TIMEOUT (R108). -/
  | setOrderTimeout (v : Nat)
  /-- SET ADVICE_DELAY (R147). -/
  | setAdviceDelay (v : Nat)
  /-- SET FILL_WAKE (R180). -/
  | setFillWake (v : Nat)
  /-- SET PROFILE (R137): 0 MAINS, 1 BATTERY. -/
  | setProfile (v : Nat)
  /-- QUERY of one extent (R182). -/
  | query (extent : Nat)
  /-- QUERY SUMMARY (R183). -/
  | querySummary
  /-- STATS (R181). -/
  | stats (clear : Bool)
  /-- RESTART (R159). -/
  | restart
  /-- GEOMETRY (R160). -/
  | geometry (slots : Nat)
  /-- ADOPT (R162). -/
  | adopt (extent slot : Nat) (valid dirty lost : SegSet)
  /-- ADOPT_END (R164). -/
  | adoptEnd
  /-- REPORT (R127) on the flash or the disk port: status 0 OK, 1 MEDIA_ERROR, 2 NOT_SPINNING. -/
  | report (p : Port) (ticket context status : Nat)
  /-- UNFENCE (R105). -/
  | unfence (slot : Nat)
  /-- SPINDLE (R132): 0 DOWN, 1 RISING, 2 UP, 3 FALLING. -/
  | spindle (state : Nat)
  /-- WINDOW (R133): 0 OPEN, 1 CLOSED. -/
  | window (state : Nat)
  /-- FRONT_LINK_RESET (R166). -/
  | frontLinkReset
  /-- FLASH_LINK_RESET (R167). -/
  | flashLinkReset
  /-- DISK_LINK_RESET (R168). -/
  | diskLinkReset
  /-- EPOCH_TIMER_EXPIRY (R35). -/
  | epochTimerExpiry
  /-- ORDER_TIMER_EXPIRY (R128) of the order timer of one move context. -/
  | orderTimerExpiry (context : Fin 4)
  /-- ADVICE_TIMER_EXPIRY (R148). -/
  | adviceTimerExpiry
  /-- START_EVENT (R141). -/
  | startEvent
  deriving DecidableEq, Repr

end Sys2Proof
end

