-- ==== Sys2Proof/WellFormed.lean ====
section
/-! DEFINITION. When a command is well formed: every operand fits the field of the record that carries it (R177,
R184), a frame holds at least one transfer (R169), and a REPORT comes from a port that carries it (section 10.4). -/

namespace Sys2Proof

/-- `n` fits a field of `width` bits. -/
def fits (width n : Nat) : Bool := n < 2 ^ width

/-- The checks on a command's operands. -/
def Instr.wellFormed : Instr → Bool
  | .powerOn => true
  | .inboundFrame _ halves => !halves.isEmpty
  | .recordRead _ => true
  | .malformedEntry _ => true
  | .route tag kind lba count => fits 8 tag && fits 8 kind && fits 32 lba && fits 32 count
  | .parkedRouteReadmit => true
  | .done tag outcome => fits 8 tag && fits 8 outcome
  | .claim _ extent => fits 32 extent
  | .release _ extent => fits 32 extent
  | .flushAll => true
  | .retryStuck => true
  | .setEpochLen v => fits 32 v
  | .setDecay v => fits 32 v
  | .setBands t1 t2 t3 => fits 32 t1 && fits 32 t2 && fits 32 t3
  | .setSettle v => fits 32 v
  | .setPromoteBand v => fits 32 v
  | .setWRread v => fits 32 v
  | .setWRwrite v => fits 32 v
  | .setWSread v => fits 32 v
  | .setWSwrite v => fits 32 v
  | .setWakeBonus v => fits 32 v
  | .setSeqRun v => fits 32 v
  | .setWindow n base mask policy _ => fits 8 n && fits 32 base && fits 32 mask && fits 32 policy
  | .setPinLimit v => fits 32 v
  | .setAbsorbReserve v => fits 32 v
  | .setDirtyHigh v => fits 32 v
  | .setDirtyLow v => fits 32 v
  | .setOrderTimeout v => fits 32 v
  | .setAdviceDelay v => fits 32 v
  | .setFillWake v => fits 32 v
  | .setProfile v => fits 32 v
  | .query extent => fits 32 extent
  | .querySummary => true
  | .stats _ => true
  | .restart => true
  | .geometry slots => fits 32 slots
  | .adopt extent slot _ _ _ => fits 32 extent && fits 32 slot
  | .adoptEnd => true
  | .report p ticket context status =>
      (p != .front) && fits 16 ticket && fits 8 context && fits 8 status
  | .unfence slot => fits 32 slot
  | .spindle state => fits 8 state
  | .window state => fits 8 state
  | .frontLinkReset => true
  | .flashLinkReset => true
  | .diskLinkReset => true
  | .epochTimerExpiry => true
  | .orderTimerExpiry _ => true
  | .adviceTimerExpiry => true
  | .startEvent => true

end Sys2Proof
end

