-- ==== Sys2Proof/Decode.lean ====
section
/-! DEFINITION. The request records: which command the words of an inbound frame spell, on which port (R169, R177,
R184), total on any words; and after it the encoder, the words a master sends for a request. The rows of
spec/opcode_table.json give no bits, so `decodeTableWord` answers none for every word. -/

namespace Sys2Proof

/-- Bits `hi` to `lo` of a word, as a number. -/
def field (w : Word) (hi lo : Nat) : Nat := w.toNat / 2 ^ lo % 2 ^ (hi + 1 - lo)

/-- The kind code of a record: bits 31–24 of its first word (R177). -/
def kindOf (w : Word) : Nat := field w 31 24

/-- The length in words that a record's first word gives: bits 23–16 (R177). -/
def lengthOf (w : Word) : Nat := field w 23 16

/-- Two transfers make a word, the low half first (R169). -/
def wordOf (lo hi : Half) : Word := hi ++ lo

/-- The words of a frame's transfers; a last odd transfer makes no word. -/
def wordsOf : List Half → List Word
  | lo :: hi :: rest => wordOf lo hi :: wordsOf rest
  | _ => []

/-- The transfers of a record, each word's low half first (R169). -/
def halvesOf (ws : List Word) : List Half :=
  ws.flatMap fun w => [w.extractLsb' 0 16, w.extractLsb' 16 16]

/-- The fixed length of each request kind of a port (section 10.4 and the table of R177), none where the port does
not carry the kind. -/
def requestLength : Port → Nat → Option Nat
  | .front, 0x01 => some 3
  | .front, 0x02 => some 1
  | .front, 0x05 => some 1
  | .front, 0x06 => some 1
  | .front, 0x07 => some 5
  | .front, 0x08 => some 2
  | .front, 0x09 => some 1
  | .front, 0x0A => some 1
  | .flash, 0x0B => some 2
  | .flash, 0x0C => some 6
  | .flash, 0x0D => some 1
  | .flash, 0x0F => some 2
  | .flash, 0x0E => some 2
  | .disk, 0x0E => some 2
  | .disk, 0x10 => some 1
  | .disk, 0x11 => some 1
  | _, 0x03 => some 2
  | _, 0x04 => some 2
  | _, _ => none

/-- The words of a frame, or none where the frame is not well formed (R169): an even number of halves, a request
kind of its port, and the length in the first word and the number of words both that kind's. -/
def frameWords (p : Port) (halves : List Half) : Option (List Word) :=
  let ws := wordsOf halves
  match ws with
  | [] => none
  | w :: _ =>
    match requestLength p (kindOf w) with
    | none => none
    | some n => if halves.length = 2 * n ∧ ws.length = n ∧ lengthOf w = n then some ws else none

/-- The received kind code of a frame, 0 when it holds less than one word (R177, the BAD_FRAME answer). -/
def frameKind (halves : List Half) : Nat :=
  match wordsOf halves with
  | [] => 0
  | w :: _ => kindOf w

/-- The SET row of an item code (R184), none for a code that names no item. `n` is the window number field of the
first word. -/
def decodeSet (n item : Nat) (w1 w2 w3 w4 : Word) : Option Instr :=
  match item with
  | 0x01 => some (.setEpochLen w1.toNat)
  | 0x02 => some (.setDecay w1.toNat)
  | 0x03 => some (.setBands w1.toNat w2.toNat w3.toNat)
  | 0x04 => some (.setSettle w1.toNat)
  | 0x05 => some (.setPromoteBand w1.toNat)
  | 0x06 => some (.setWRread w1.toNat)
  | 0x07 => some (.setWRwrite w1.toNat)
  | 0x08 => some (.setWSread w1.toNat)
  | 0x09 => some (.setWSwrite w1.toNat)
  | 0x0A => some (.setWakeBonus w1.toNat)
  | 0x0B => some (.setSeqRun w1.toNat)
  | 0x0C => some (.setWindow n w1.toNat w2.toNat w3.toNat (field w4 0 0 == 1))
  | 0x0D => some (.setPinLimit w1.toNat)
  | 0x0E => some (.setAbsorbReserve w1.toNat)
  | 0x0F => some (.setDirtyHigh w1.toNat)
  | 0x10 => some (.setDirtyLow w1.toNat)
  | 0x11 => some (.setOrderTimeout w1.toNat)
  | 0x12 => some (.setAdviceDelay w1.toNat)
  | 0x13 => some (.setFillWake w1.toNat)
  | 0x14 => some (.setProfile w1.toNat)
  | _ => none

/-- The command that the words of a request spell on its port (R177, R184), none where the port does not carry the
kind, the number of words is not the kind's, or a SET names no item. -/
def decodeRequest (p : Port) (ws : List Word) : Option Instr :=
  match ws with
  | [] => none
  | w :: rest =>
    match p, kindOf w, rest with
    | .front, 0x01, [w1, w2] => some (.route (field w 7 0) (field w 15 8) w1.toNat w2.toNat)
    | .front, 0x02, [] => some (.done (field w 7 0) (field w 15 8))
    | .front, 0x05, [] => some .flushAll
    | .front, 0x06, [] => some .retryStuck
    | .front, 0x07, [w1, w2, w3, w4] => decodeSet (field w 15 8) (field w 7 0) w1 w2 w3 w4
    | .front, 0x08, [w1] => if field w 0 0 = 1 then some .querySummary else some (.query w1.toNat)
    | .front, 0x09, [] => some (.stats (field w 0 0 == 1))
    | .front, 0x0A, [] => some .restart
    | .flash, 0x0B, [w1] => some (.geometry w1.toNat)
    | .flash, 0x0C, [w1, w2, w3, w4, w5] => some (.adopt w1.toNat w2.toNat w3 w4 w5)
    | .flash, 0x0D, [] => some .adoptEnd
    | .flash, 0x0F, [w1] => some (.unfence w1.toNat)
    | .flash, 0x0E, [w1] => some (.report .flash (field w 15 0) (field w1 31 24) (field w1 7 0))
    | .disk, 0x0E, [w1] => some (.report .disk (field w 15 0) (field w1 31 24) (field w1 7 0))
    | .disk, 0x10, [] => some (.spindle (field w 7 0))
    | .disk, 0x11, [] => some (.window (field w 7 0))
    | p, 0x03, [w1] => some (.claim p w1.toNat)
    | p, 0x04, [w1] => some (.release p w1.toNat)
    | _, _, _ => none

/-- A number as a word. -/
def word (n : Nat) : Word := BitVec.ofNat 32 n

/-- A first word: kind code, length, and the low 16 bits (R177). -/
def headerWord (kind length low : Nat) : Word := word (kind * 2 ^ 24 + length * 2 ^ 16 + low)

/-- The words of a SET request (R184). -/
def setWords (n item : Nat) (v1 v2 v3 v4 : Nat) : Port × List Word :=
  (.front, [headerWord 0x07 5 (n * 2 ^ 8 + item), word v1, word v2, word v3, word v4])

/-- The port and the words a master sends for a request row (R177, R184), none for a row that is no request. -/
def encodeRequest : Instr → Option (Port × List Word)
  | .powerOn => none
  | .inboundFrame _ _ => none
  | .recordRead _ => none
  | .malformedEntry _ => none
  | .route tag kind lba count =>
      some (.front, [headerWord 0x01 3 (kind * 2 ^ 8 + tag), word lba, word count])
  | .parkedRouteReadmit => none
  | .done tag outcome => some (.front, [headerWord 0x02 1 (outcome * 2 ^ 8 + tag)])
  | .claim p extent => some (p, [headerWord 0x03 2 0, word extent])
  | .release p extent => some (p, [headerWord 0x04 2 0, word extent])
  | .flushAll => some (.front, [headerWord 0x05 1 0])
  | .retryStuck => some (.front, [headerWord 0x06 1 0])
  | .setEpochLen v => some (setWords 0 0x01 v 0 0 0)
  | .setDecay v => some (setWords 0 0x02 v 0 0 0)
  | .setBands t1 t2 t3 => some (setWords 0 0x03 t1 t2 t3 0)
  | .setSettle v => some (setWords 0 0x04 v 0 0 0)
  | .setPromoteBand v => some (setWords 0 0x05 v 0 0 0)
  | .setWRread v => some (setWords 0 0x06 v 0 0 0)
  | .setWRwrite v => some (setWords 0 0x07 v 0 0 0)
  | .setWSread v => some (setWords 0 0x08 v 0 0 0)
  | .setWSwrite v => some (setWords 0 0x09 v 0 0 0)
  | .setWakeBonus v => some (setWords 0 0x0A v 0 0 0)
  | .setSeqRun v => some (setWords 0 0x0B v 0 0 0)
  | .setWindow n base mask policy enable =>
      some (setWords n 0x0C base mask policy (if enable then 1 else 0))
  | .setPinLimit v => some (setWords 0 0x0D v 0 0 0)
  | .setAbsorbReserve v => some (setWords 0 0x0E v 0 0 0)
  | .setDirtyHigh v => some (setWords 0 0x0F v 0 0 0)
  | .setDirtyLow v => some (setWords 0 0x10 v 0 0 0)
  | .setOrderTimeout v => some (setWords 0 0x11 v 0 0 0)
  | .setAdviceDelay v => some (setWords 0 0x12 v 0 0 0)
  | .setFillWake v => some (setWords 0 0x13 v 0 0 0)
  | .setProfile v => some (setWords 0 0x14 v 0 0 0)
  | .query extent => some (.front, [headerWord 0x08 2 0, word extent])
  | .querySummary => some (.front, [headerWord 0x08 2 1, word 0])
  | .stats clear => some (.front, [headerWord 0x09 1 (if clear then 1 else 0)])
  | .restart => some (.front, [headerWord 0x0A 1 0])
  | .geometry slots => some (.flash, [headerWord 0x0B 2 0, word slots])
  | .adopt extent slot valid dirty lost =>
      some (.flash, [headerWord 0x0C 6 0, word extent, word slot, valid, dirty, lost])
  | .adoptEnd => some (.flash, [headerWord 0x0D 1 0])
  | .report p ticket context status =>
      some (p, [headerWord 0x0E 2 ticket, word (context * 2 ^ 24 + status)])
  | .unfence slot => some (.flash, [headerWord 0x0F 2 0, word slot])
  | .spindle state => some (.disk, [headerWord 0x10 1 state])
  | .window state => some (.disk, [headerWord 0x11 1 state])
  | .frontLinkReset => none
  | .flashLinkReset => none
  | .diskLinkReset => none
  | .epochTimerExpiry => none
  | .orderTimerExpiry _ => none
  | .adviceTimerExpiry => none
  | .startEvent => none

/-- The command a word spells by the bits of spec/opcode_table.json. The table gives bits for no row (its 98_reader
counts no row with "fixed"), so no word spells a command: the host's command interface is the queue of
`Machine.State`, and requests reach the part as frames (`Instr.inboundFrame`). -/
def decodeTableWord (_nbits _w : Nat) : Option Instr := none

end Sys2Proof
end

