-- ==== Sys2Proof/Machine/State.lean ====
section
/-! DEFINITION. The state of the part, as plain data, and its value at power-on (R158). Counts and lines that the
spec derives from other state (the pinned and pinned-clean counts, reservations, ready and attention lines, the UP
period) are functions in Machine/Ops.lean and the files after it, not fields. -/

namespace Sys2Proof.Machine

/-- The four heat classes, coldest first (R27). -/
inductive Band where
  | b0
  | b1
  | b2
  | b3
  deriving DecidableEq, Repr

/-- The policy of an extent (R41). -/
inductive Policy where
  | normal
  | pin
  | boost
  | bypass
  deriving DecidableEq, Repr

/-- The service state (R156). -/
inductive Service where
  | cold
  | adopting
  | serving
  deriving DecidableEq, Repr

/-- The spindle state (R132). -/
inductive Spindle where
  | down
  | rising
  | up
  | falling
  deriving DecidableEq, Repr

/-- The background window (R133). -/
inductive BgWindow where
  | opened
  | closed
  deriving DecidableEq, Repr

/-- The profile (R137). -/
inductive Profile where
  | mains
  | battery
  deriving DecidableEq, Repr

/-- The kind of a route (R50). -/
inductive RouteKind where
  | read
  | write
  | trim
  deriving DecidableEq, Repr

/-- The kind of a move (R106). -/
inductive MoveKind where
  | fill
  | flush
  deriving DecidableEq, Repr

/-- The state of a resident record (R3). -/
inductive RecordState where
  | filling
  | resident
  | flushing
  deriving DecidableEq, Repr

/-- The owed notice of a resident record (R11). -/
inductive OwedNotice where
  | absent
  | stuck
  | lost (segments : SegSet)
  deriving DecidableEq, Repr

/-- The reason of a SPIN_UP_DEMAND (R145). -/
inductive Reason where
  | dirtyCeiling
  | drain
  | fill
  deriving DecidableEq, Repr

/-- The answer codes (R175). -/
inductive Code where
  | ok
  | waiting
  | busy
  | notReady
  | wrongState
  | badValue
  | badFrame
  | tagInUse
  | unknownTag
  | duplicate
  | notOwner
  | alreadyOwner
  | tableFull
  | stale
  deriving DecidableEq, Repr

/-- The media of a piece, with the slot a FLASH piece lies in (R64). -/
inductive Media where
  | flash (slot : Nat)
  | disk
  | none
  deriving DecidableEq, Repr

/-- One piece of a route answer (R64). -/
structure Piece where
  media : Media
  first : Nat
  count : Nat
  deriving DecidableEq, Repr

/-- A record of an outbound queue (section 10.4): answers, orders and notices. -/
inductive Outbound where
  /-- The answer to a ROUTE (R65, R177). -/
  | routeAnswer (code : Code) (tag : Nat) (forcedWake : Bool) (pieces : List Piece)
  /-- The answer to a DONE (R67, R177). -/
  | doneAnswer (code : Code) (tag : Nat)
  /-- Any other answer: the request's kind code, the answer code, and the words after the first (R177). -/
  | answer (kind : Nat) (code : Code) (words : List Word)
  /-- The answer to a malformed entry, with the received kind code (R169, R177). -/
  | badFrame (kind : Nat)
  | writeSlot (ticket context slot extent : Nat) (segments : SegSet)
  | readSlot (ticket context slot extent : Nat) (segments : SegSet)
  | readExtent (ticket context extent : Nat) (segments : SegSet)
  | writeExtent (ticket context extent : Nat) (segments : SegSet)
  | retireSlot (slot : Nat)
  | cleanMark (slot : Nat) (segments : SegSet)
  | lostMark (slot : Nat) (segments : SegSet)
  | trimMark (slot : Nat) (segments : SegSet)
  | spinUpDemand (reason : Reason)
  | spinDownAdvice
  | stuck (extent : Nat)
  | lost (extent : Nat) (segments : SegSet)
  | drained (count : Nat)
  | claimGranted (extent : Nat)
  deriving DecidableEq, Repr

/-- An entry of an inbound FIFO (R169): the words of a well-formed request as sent, or a malformed entry with the
kind code it was received with. -/
inductive FifoEntry where
  | request (words : List Word)
  | malformed (kind : Nat)
  deriving DecidableEq, Repr

/-- One port's link (R170, R171): the inbound FIFO, the outbound queue, and `driven`, the words the part drove at
the last completed read (the model's own field: what the master has last seen). -/
structure Link where
  fifo : List FifoEntry
  out : List Outbound
  driven : List Word
  deriving DecidableEq, Repr

/-- A link with nothing in it. -/
def Link.empty : Link := { fifo := [], out := [], driven := [] }

/-- The settings that do not depend on S (R179). -/
structure Settings where
  epochLen : Nat
  decay : Nat
  t1 : Nat
  t2 : Nat
  t3 : Nat
  settle : Nat
  promoteBand : Band
  wRread : Nat
  wRwrite : Nat
  wSread : Nat
  wSwrite : Nat
  wakeBonus : Nat
  seqRun : Nat
  orderTimeout : Nat
  adviceDelay : Nat
  fillWake : Nat
  profile : Profile
  deriving DecidableEq, Repr

/-- The defaults of R179. -/
def Settings.defaults : Settings :=
  { epochLen := 255, decay := 2, t1 := 32, t2 := 128, t3 := 1024, settle := 2, promoteBand := .b2,
    wRread := 16, wRwrite := 12, wSread := 2, wSwrite := 0, wakeBonus := 24, seqRun := 1024,
    orderTimeout := 20, adviceDelay := 50, fillWake := 16, profile := .mains }

/-- S and the four settings that depend on it; none of them has a value in COLD (R160, R161). -/
structure Sizes where
  slots : Nat
  pinLimit : Nat
  absorbReserve : Nat
  dirtyHigh : Nat
  dirtyLow : Nat
  deriving DecidableEq, Repr

/-- A policy window (R41). -/
structure PolicyWindow where
  base : Nat
  mask : Nat
  policy : Policy
  enable : Bool
  deriving DecidableEq, Repr

/-- A window at power-on (R41). -/
def PolicyWindow.off : PolicyWindow := { base := 0, mask := 0, policy := .normal, enable := false }

/-- The four heat fields of a resident record or a watch entry (R6). -/
structure Heat where
  heat : Nat
  band : Band
  settle : Nat
  stamp : Nat
  deriving DecidableEq, Repr

/-- A resident record (section 1.3), with its classified policy (R43). -/
structure Resident where
  extent : Nat
  slot : Nat
  state : RecordState
  valid : SegSet
  dirty : SegSet
  lost : SegSet
  pinned : Bool
  heat : Heat
  classified : Policy
  retries : Nat
  stuck : Bool
  drainMark : Bool
  owed : OwedNotice
  deriving DecidableEq, Repr

/-- A watch entry in its numbered place (R12). -/
structure WatchEntry where
  place : Nat
  extent : Nat
  heat : Heat
  deriving DecidableEq, Repr

/-- A used entry of the Stream Table (R19). -/
structure Stream where
  next : Nat
  run : Nat
  deriving DecidableEq, Repr

/-- A Route Table entry (R15): the tag, the kind, the touched extents with the segments the answer routed to FLASH
of each, and the disk flag. -/
structure RouteEntry where
  tag : Nat
  kind : RouteKind
  first : Nat
  firstFlash : SegSet
  second : Option (Nat × SegSet)
  disk : Bool
  deriving DecidableEq, Repr

/-- A parked route: the request as sent (R17). -/
structure Parked where
  tag : Nat
  kind : RouteKind
  lba : Nat
  count : Nat
  deriving DecidableEq, Repr

/-- Who a claim entry stands for (R77): an owner, with its grant-owed flag, or the port it is pending for. -/
inductive Standing where
  | owned (port : Port) (grantOwed : Bool)
  | pending (port : Port)
  deriving DecidableEq, Repr

/-- A Claim Table entry in use (R77). -/
structure ClaimEntry where
  extent : Nat
  standing : Standing
  waiters : List Port
  deriving DecidableEq, Repr

/-- The four clean lists, each from head (least recently touched) to tail (R18, R94), as extents. -/
structure CleanLists where
  b0 : List Nat
  b1 : List Nat
  b2 : List Nat
  b3 : List Nat
  deriving DecidableEq, Repr

/-- A fence of the fenced set (R103): the slot, and the ticket of the WRITE_SLOT that timed out on it. -/
structure Fence where
  slot : Nat
  ticket : Nat
  deriving DecidableEq, Repr

/-- A move's current order (R106, R108): pending, or placed with its ticket and the length of its running order
timer in units of 100 ms. -/
inductive OrderState where
  | pending
  | placed (ticket timer : Nat)
  deriving DecidableEq, Repr

/-- The first or the second order of a move (R106). -/
inductive Phase where
  | reading
  | writing
  deriving DecidableEq, Repr

/-- A FILL in flight (R106, R110). -/
structure FillMove where
  phase : Phase
  fresh : Bool
  extent : Nat
  slot : Nat
  work : SegSet
  validate : SegSet
  order : OrderState
  deriving DecidableEq, Repr

/-- A FLUSH in flight (R106, R118). -/
structure FlushMove where
  phase : Phase
  extent : Nat
  slot : Nat
  work : SegSet
  redirtied : SegSet
  carried : SegSet
  order : OrderState
  deriving DecidableEq, Repr

/-- A move context (R106): IDLE, a move in READING or WRITING, or MARKING with its held CLEAN_MARK. -/
inductive Context where
  | idle
  | fill (m : FillMove)
  | flush (m : FlushMove)
  | marking (slot : Nat) (segments : SegSet)
  deriving DecidableEq, Repr

/-- A record owed to the flash port other than a grant, held where R176 says; the list of them keeps the order they
were produced in. `order c` is the pending order of context c, `mark c` its held CLEAN_MARK, and `retire n` the
RETIRE_SLOT of free slot n (its retire-owed flag, R92). -/
inductive FlashOwed where
  | order (context : Fin 4)
  | mark (context : Fin 4)
  | retire (slot : Nat)
  deriving DecidableEq, Repr

/-- A record owed to the disk port other than a grant (R176), kept in the order they were produced in. -/
inductive DiskOwed where
  | order (context : Fin 4)
  | demand (reason : Reason)
  | advice
  deriving DecidableEq, Repr

/-- The demand flags (R145). -/
structure DemandFlags where
  dirtyCeiling : Bool
  drain : Bool
  fill : Bool
  deriving DecidableEq, Repr

/-- The thirteen counters (section 11.2). -/
structure Stats where
  routes : Nat
  readFlash : Nat
  readDisk : Nat
  writeFlash : Nat
  writeDisk : Nat
  absorbed : Nat
  fillsDone : Nat
  flushesDone : Nat
  evictions : Nat
  forcedWakes : Nat
  spinUpDemands : Nat
  lostSegments : Nat
  orderTimeouts : Nat
  deriving DecidableEq, Repr

/-- Every counter at 0 (R181). -/
def Stats.zero : Stats :=
  { routes := 0, readFlash := 0, readDisk := 0, writeFlash := 0, writeDisk := 0, absorbed := 0, fillsDone := 0,
    flushesDone := 0, evictions := 0, forcedWakes := 0, spinUpDemands := 0, lostSegments := 0, orderTimeouts := 0 }

/-- The state of the part. Extents name records and watch entries in the lists that order them. -/
structure State where
  /-- The commands waiting to happen, first in, first out: the model's own queue, not the part's. -/
  pending : List Instr
  /-- The three links (R170, R171). -/
  front : Link
  flash : Link
  disk : Link
  /-- The map arbiter's rotation pointer (R172). -/
  pointer : Port
  /-- The service state (R156). -/
  service : Service
  /-- S and the settings that depend on it, none in COLD (R160, R161). -/
  sizes : Option Sizes
  /-- The other settings (R179). -/
  settings : Settings
  /-- The eight policy windows (R41). -/
  windows : Vector PolicyWindow 8
  /-- The Residency Table, in ascending slot order (R2). -/
  records : List Resident
  /-- The Route Table, in ascending tag order (R15). -/
  routes : List RouteEntry
  /-- The Park List, oldest first (R17). -/
  parked : List Parked
  /-- The STATS counters (R181). -/
  stats : Stats
  /-- The Watch List's entries, in ascending place order (R12). -/
  watch : List WatchEntry
  /-- The last-touch order of the watch entries, as extents, least recently touched first (R12). -/
  touch : List Nat
  /-- The Stream Table (R19). -/
  streams : Vector (Option Stream) 4
  /-- The Stream Table's use order, most recently used first (R19). -/
  streamUse : List (Fin 4)
  /-- The epoch counter (R35). -/
  epoch : Nat
  /-- The epoch timer: stopped, or running with the EPOCH_LEN of its period (R34). -/
  epochTimer : Option Nat
  /-- The sweep cursor: slot places 0 to S − 1, then watch place w at S + w (R36). -/
  cursor : Nat
  /-- The Claim Table (R77). -/
  claims : Vector (Option ClaimEntry) 8
  /-- The free pool, in ascending order (R92). -/
  free : List Nat
  /-- The clean lists (R94). -/
  clean : CleanLists
  /-- The fences of the fenced set, in the order they were made (R103). -/
  fences : List Fence
  /-- The four move contexts (R106). -/
  contexts : Vector Context 4
  /-- The ticket counter (R107). -/
  tickets : Nat
  /-- The records owed to the flash port, grants apart (R176). -/
  flashOwed : List FlashOwed
  /-- The records owed to the disk port, grants apart (R176). -/
  diskOwed : List DiskOwed
  /-- The spindle state (R132). -/
  spindle : Spindle
  /-- The background window (R133). -/
  bgWindow : BgWindow
  /-- The Promotion Queue, as extents, head first (R135). -/
  promo : List Nat
  /-- The Dirty List, as extents, oldest first (R8). -/
  dirtyList : List Nat
  /-- Urgent mode (R136). -/
  urgent : Bool
  /-- Whether a drain is active (R150). -/
  drain : Bool
  /-- An owed DRAINED notice, with its stuck count (R151). -/
  drainedOwed : Option Nat
  /-- The demand flags (R145). -/
  demands : DemandFlags
  /-- The advice timer: stopped, or running with the ADVICE_DELAY of its period (R147). -/
  adviceTimer : Option Nat
  /-- The advice-sent flag (R134). -/
  adviceSent : Bool
  /-- The last-kind marker (R141). -/
  lastKind : MoveKind
  deriving DecidableEq, Repr

/-- The reasons a step stops with a fault. There is none: the spec gives every command an effect in every state, so
no meaning of the model ends in a fault. -/
inductive Fault where
  deriving DecidableEq, Repr

/-- The reasons a step is refused. -/
inductive Refusal where
  /-- A command without a meaning yet, by its mnemonic. No arm raises it: every command has its meaning. Safe. -/
  | notModelled (mnemonic : String)
  deriving DecidableEq, Repr

/-- The state at power-on (R158), with no command waiting. -/
def State.reset : State :=
  { pending := [], front := .empty, flash := .empty, disk := .empty, pointer := .front, service := .cold,
    sizes := none, settings := .defaults, windows := Vector.replicate 8 .off, records := [], routes := [],
    parked := [], stats := .zero, watch := [], touch := [], streams := Vector.replicate 4 none, streamUse := [],
    epoch := 0, epochTimer := none, cursor := 0, claims := Vector.replicate 8 none, free := [],
    clean := { b0 := [], b1 := [], b2 := [], b3 := [] }, fences := [], contexts := Vector.replicate 4 .idle,
    tickets := 0, flashOwed := [], diskOwed := [], spindle := .down, bgWindow := .opened, promo := [],
    dirtyList := [], urgent := false, drain := false, drainedOwed := none,
    demands := { dirtyCeiling := false, drain := false, fill := false }, adviceTimer := none, adviceSent := false,
    lastKind := .fill }

end Sys2Proof.Machine
end

