-- ==== Sys2Proof/Machine/Ops.lean ====
section
/-! DEFINITION. The named operations every block shares: the links and their outbound queues, lookups in the map,
the filing of a resident record into the lists its contents give it (R8, R18), the Watch List's places and order
(R12), the policy of an extent (R42), room in the outbound queues and the records that can be owed (R176). -/

namespace Sys2Proof.Machine

/-! ### Sets, lists and counters -/

/-- The segment set of the numbers below 32 that satisfy `f`. -/
def segsWhere (f : Nat → Bool) : SegSet :=
  (List.range 32).foldl (fun acc n => if f n then acc ||| BitVec.ofNat 32 (2 ^ n) else acc) 0#32

/-- The number of members of a segment set. -/
def segCount (a : SegSet) : Nat := (List.range 32).countP (fun n => a.getLsbD n)

/-- `a` less `b`. -/
def segLess (a b : SegSet) : SegSet := a &&& ~~~b

/-- Insertion into a list kept in ascending order of a key. -/
def insertBy {α : Type} (key : α → Nat) (x : α) : List α → List α
  | [] => [x]
  | y :: ys => if key x ≤ key y then x :: y :: ys else y :: insertBy key x ys

/-- A list without an element. -/
def without {α : Type} [DecidableEq α] (x : α) (l : List α) : List α := l.filter (fun y => y ≠ x)

/-- A counter's increase, saturating (R181). -/
def addSat (n k : Nat) : Nat := min (n + k) Config.maxCount

/-- A value clamped to a range (R178). -/
def clamp (lo hi v : Nat) : Nat := max lo (min v hi)

/-- Every context number. -/
def allContexts : List (Fin 4) := [0, 1, 2, 3]

/-- Every Claim Table entry number. -/
def allClaims : List (Fin 8) := [0, 1, 2, 3, 4, 5, 6, 7]

/-! ### Bands -/

/-- The place of a band, 0 for B0 to 3 for B3. -/
def Band.rank : Band → Nat
  | .b0 => 0
  | .b1 => 1
  | .b2 => 2
  | .b3 => 3

/-- The band of a number, B3 from 3 up. -/
def Band.ofRank : Nat → Band
  | 0 => .b0
  | 1 => .b1
  | 2 => .b2
  | _ => .b3

/-- The band one below, none below B0 (R95). -/
def Band.below : Band → Option Band
  | .b0 => none
  | .b1 => some .b0
  | .b2 => some .b1
  | .b3 => some .b2

/-- The bands from B0 up to a ceiling, none without one (R95). -/
def bandsUpTo : Option Band → List Band
  | none => []
  | some .b0 => [.b0]
  | some .b1 => [.b0, .b1]
  | some .b2 => [.b0, .b1, .b2]
  | some .b3 => [.b0, .b1, .b2, .b3]

/-- The clean list of a band. -/
def CleanLists.get (c : CleanLists) : Band → List Nat
  | .b0 => c.b0
  | .b1 => c.b1
  | .b2 => c.b2
  | .b3 => c.b3

/-- One change made to each of the four lists. -/
def CleanLists.change (c : CleanLists) (f : Band → List Nat → List Nat) : CleanLists :=
  { b0 := f .b0 c.b0, b1 := f .b1 c.b1, b2 := f .b2 c.b2, b3 := f .b3 c.b3 }

/-! ### Links -/

/-- The link of a port. -/
def State.link (s : State) : Port → Link
  | .front => s.front
  | .flash => s.flash
  | .disk => s.disk

/-- The state with a port's link replaced. -/
def State.setLink (s : State) (p : Port) (l : Link) : State :=
  match p with
  | .front => { s with front := l }
  | .flash => { s with flash := l }
  | .disk => { s with disk := l }

/-- The ready line of a port: asserted while its FIFO holds fewer than 4 entries (R170). -/
def State.readyLine (s : State) (p : Port) : Bool := (s.link p).fifo.length < Config.fifoDepth

/-- The attention line of a port: asserted while its outbound queue holds a record (R171). -/
def State.attentionLine (s : State) (p : Port) : Bool := !(s.link p).out.isEmpty

/-- Whether a port's outbound queue has `n` free places (R171). -/
def State.hasRoom (s : State) (p : Port) (n : Nat) : Bool := (s.link p).out.length + n ≤ Config.outDepth

/-- A record joins the tail of a port's outbound queue, which never holds more than 16 (R171). The admission of
R173 and the tests of R176 keep a place free wherever a record is placed. -/
def State.place (p : Port) (r : Outbound) (s : State) : State :=
  if s.hasRoom p 1 then s.setLink p { s.link p with out := (s.link p).out ++ [r] } else s

/-- The head of a port's FIFO leaves it (R170). -/
def State.popFifo (p : Port) (s : State) : State :=
  s.setLink p { s.link p with fifo := (s.link p).fifo.tail }

/-- A link emptied by its reset (R165). What the master last read stands. -/
def State.clearLink (p : Port) (s : State) : State :=
  s.setLink p { s.link p with fifo := [], out := [] }

/-- The port after a port in the arbiter's order (R172). -/
def portAfter : Port → Port
  | .front => .flash
  | .flash => .disk
  | .disk => .front

/-! ### Sizes, counters, and lookups in the map -/

/-- S, 0 where it has no value. -/
def State.slots (s : State) : Nat := (s.sizes.map (·.slots)).getD 0
/-- PIN_LIMIT, 0 where it has no value. -/
def State.pinLimit (s : State) : Nat := (s.sizes.map (·.pinLimit)).getD 0
/-- ABSORB_RESERVE, 0 where it has no value. -/
def State.absorbReserve (s : State) : Nat := (s.sizes.map (·.absorbReserve)).getD 0
/-- DIRTY_HIGH, 0 where it has no value. -/
def State.dirtyHigh (s : State) : Nat := (s.sizes.map (·.dirtyHigh)).getD 0
/-- DIRTY_LOW, 0 where it has no value. -/
def State.dirtyLow (s : State) : Nat := (s.sizes.map (·.dirtyLow)).getD 0

/-- Whether the part is in SERVING. -/
def State.isServing (s : State) : Bool := s.service == .serving

/-- The resident record of an extent (R2). -/
def State.residentOf (s : State) (e : Nat) : Option Resident := s.records.find? (fun r => r.extent == e)

/-- The resident record holding a slot (R2). -/
def State.residentIn (s : State) (slot : Nat) : Option Resident := s.records.find? (fun r => r.slot == slot)

/-- The watch entry of an extent (R12). -/
def State.watchOf (s : State) (e : Nat) : Option WatchEntry := s.watch.find? (fun w => w.extent == e)

/-- The pinned count (R7). -/
def State.pinnedCount (s : State) : Nat := s.records.countP (fun r => r.pinned)

/-- Whether a record counts in the pinned-clean count (R7, R18). -/
def Resident.isPinnedClean (r : Resident) : Bool :=
  r.pinned && r.dirty == 0#32 && !(r.state == .filling && r.valid == 0#32)

/-- The pinned-clean count (R7). -/
def State.pinnedCleanCount (s : State) : Nat := s.records.countP (fun r => r.isPinnedClean)

/-- Whether there is room for a pinned record (R46). -/
def State.pinRoom (s : State) : Bool := s.pinnedCount < s.pinLimit

/-- The dirty count (R8, R136). -/
def State.dirtyCount (s : State) : Nat := s.dirtyList.length

/-- Whether a Route Table entry touches an extent (R16). -/
def RouteEntry.touches (t : RouteEntry) (e : Nat) : Bool :=
  t.first == e || (match t.second with
    | none => false
    | some (e2, _) => e2 == e)

/-- Whether a Route Table entry holds an extent (R16). -/
def State.held (s : State) (e : Nat) : Bool := s.routes.any (fun t => t.touches e)

/-- The extent of the move in flight in a context; a MARKING context holds no move (R126). -/
def Context.extentInMove : Context → Option Nat
  | .fill m => some m.extent
  | .flush m => some m.extent
  | .idle => none
  | .marking _ _ => none

/-- Whether a move is in flight on an extent (R78). -/
def State.inMove (s : State) (e : Nat) : Bool :=
  allContexts.any (fun c => s.contexts[c].extentInMove == some e)

/-- The state with a context replaced. -/
def State.setContext (c : Fin 4) (x : Context) (s : State) : State :=
  { s with contexts := s.contexts.set c x }

/-- The number of the Claim Table entry of an extent (R77). -/
def State.claimIndex (s : State) (e : Nat) : Option (Fin 8) :=
  allClaims.find? (fun i => (s.claims[i].map (·.extent)) == some e)

/-- Whether an extent has a claim, in any form (R77, R85). -/
def State.claimed (s : State) (e : Nat) : Bool := (s.claimIndex e).isSome

/-- The state with a Claim Table entry replaced. -/
def State.setClaim (i : Fin 8) (x : Option ClaimEntry) (s : State) : State :=
  { s with claims := s.claims.set i x }

/-- Whether window `w` matches an extent: it is enabled and the masked extent equals the masked base (R42). -/
def PolicyWindow.hits (w : PolicyWindow) (e : Nat) : Bool :=
  w.enable && (e &&& w.mask) == (w.base &&& w.mask)

/-- The policy of an extent: that of the first window, in number order, that it matches; NORMAL if none (R42). -/
def State.policyOf (s : State) (e : Nat) : Policy :=
  ((s.windows.toList.find? (fun w => w.hits e)).map (·.policy)).getD .normal

/-- Whether an UP period runs: it begins and ends with the spindle state UP, in SERVING (R134). -/
def State.upPeriod (s : State) : Bool := s.isServing && s.spindle == .up

/-! ### Filing a resident record -/

/-- Which end of a clean list a record joins (R18, R33, R47). -/
inductive ListEnd where
  | head
  | tail
  deriving DecidableEq, Repr

/-- A list with an extent joined at one end. -/
def joinEnd (at_ : ListEnd) (e : Nat) (l : List Nat) : List Nat :=
  match at_ with
  | .head => e :: l
  | .tail => l ++ [e]

/-- The clean list a record's contents give it (R18). -/
def Resident.cleanBand (r : Resident) : Option Band :=
  if r.dirty = 0#32 ∧ r.pinned = false ∧ r.state = .resident then
    some (if r.classified = .bypass then .b0 else r.heat.band)
  else none

/-- A record whose dirty set is {} has no drain mark, no flush retries and is not stuck (R8 to R10). -/
def Resident.settled (r : Resident) : Resident :=
  if r.dirty = 0#32 then { r with drainMark := false, retries := 0, stuck := false } else r

/-- The clean lists with a record in the list its contents give it: it keeps its position in a list it is on, joins
a new one at the given end, and leaves every other (R18). -/
def State.fileClean (at_ : ListEnd) (r : Resident) (s : State) : State :=
  { s with clean := s.clean.change fun b l =>
      if r.cleanBand = some b then (if r.extent ∈ l then l else joinEnd at_ r.extent l) else without r.extent l }

/-- The Dirty List with a record's position: taken at the tail when its dirty set is not {} and it has none, given up
when its dirty set is {} (R8). -/
def State.fileDirty (r : Resident) (s : State) : State :=
  { s with dirtyList :=
      if r.dirty = 0#32 then without r.extent s.dirtyList
      else if r.extent ∈ s.dirtyList then s.dirtyList else s.dirtyList ++ [r.extent] }

/-- The Promotion Queue without a record that has no segment neither valid nor lost (R5, R135). -/
def State.filePromo (r : Resident) (s : State) : State :=
  { s with promo := if r.valid ||| r.lost = SegSet.all then without r.extent s.promo else s.promo }

/-- A record's places in every collection its contents give it. -/
def State.fileLists (at_ : ListEnd) (r : Resident) (s : State) : State :=
  ((s.fileClean at_ r).fileDirty r).filePromo r

/-- A record of the table replaced by its new contents, and its list places brought up to date in the same event. -/
def State.store (at_ : ListEnd) (r : Resident) (s : State) : State :=
  State.fileLists at_ r.settled
    { s with records := s.records.map fun x => if x.extent = r.extent then r.settled else x }

/-- A new record enters the Residency Table and takes its list places (R2). -/
def State.enter (r : Resident) (s : State) : State :=
  State.fileLists .tail r { s with records := insertBy (·.slot) r s.records }

/-- A record leaves the Residency Table and every collection it is in, the Promotion Queue apart (R101). -/
def State.drop (r : Resident) (s : State) : State :=
  { s with
    records := s.records.filter fun x => x.extent ≠ r.extent
    clean := s.clean.change fun _ l => without r.extent l
    dirtyList := without r.extent s.dirtyList }

/-- A READ or WRITE route's touch of a record on a clean list: it moves to the list's tail (R18). -/
def State.touchClean (e : Nat) (s : State) : State :=
  { s with clean := s.clean.change fun _ l => if e ∈ l then without e l ++ [e] else l }

/-- An extent's entry leaves the Promotion Queue, and the entries behind it move up (R32). -/
def State.unqueue (e : Nat) (s : State) : State := { s with promo := without e s.promo }

/-! ### The Watch List -/

/-- The lowest empty place, given the entries from a place on in ascending order (R12). -/
def lowestGap (n : Nat) : List WatchEntry → Nat
  | [] => n
  | w :: ws => if w.place = n then lowestGap (n + 1) ws else n

/-- A watch entry leaves the list (R14). -/
def State.unwatch (e : Nat) (s : State) : State :=
  { s with watch := s.watch.filter (fun w => w.extent ≠ e), touch := without e s.touch }

/-- Room in the Watch List: when every place is in use, the head of last-touch order is dropped, with its Promotion
Queue entry (R13, R14). -/
def State.watchRoom (s : State) : State :=
  if s.watch.length < Config.watchPlaces then s
  else
    match s.touch with
    | [] => s
    | e :: _ => (s.unwatch e).unqueue e

/-- A new watch entry takes the lowest empty place and joins one end of last-touch order (R12 to R14). -/
def State.enterWatch (at_ : ListEnd) (e : Nat) (h : Heat) (s : State) : State :=
  let t := s.watchRoom
  { t with
    watch := insertBy (·.place) { place := lowestGap 0 t.watch, extent := e, heat := h } t.watch
    touch := joinEnd at_ e t.touch }

/-- The heat fields of a watch entry replaced; its place and its last-touch position stand (R13). -/
def State.setWatchHeat (e : Nat) (h : Heat) (s : State) : State :=
  { s with watch := s.watch.map fun w => if w.extent = e then { w with heat := h } else w }

/-- A watch entry moves to the tail of last-touch order (R13). -/
def State.touchWatch (e : Nat) (s : State) : State := { s with touch := without e s.touch ++ [e] }

/-! ### Records that can be owed -/

/-- A RETIRE_SLOT is produced: placed if the flash outbound queue has a free place, otherwise owed as its slot's
retire-owed flag (R101, R176). A record owed before it keeps its turn. -/
def State.produceRetire (slot : Nat) (s : State) : State :=
  if s.hasRoom .flash 1 && s.flashOwed.isEmpty then s.place .flash (.retireSlot slot)
  else { s with flashOwed := s.flashOwed ++ [.retire slot] }

/-- The retire-owed flag of a free slot (R92). -/
def State.retireOwed (s : State) (slot : Nat) : Bool := decide (FlashOwed.retire slot ∈ s.flashOwed)

/-- The owed notice field after a STUCK notice that could not be placed (R11). -/
def OwedNotice.withStuck : OwedNotice → OwedNotice
  | .absent => .stuck
  | .stuck => .stuck
  | .lost a => .lost a

/-- The owed notice field after a LOST notice that could not be placed (R11). -/
def OwedNotice.withLost (a : SegSet) : OwedNotice → OwedNotice
  | .absent => .lost a
  | .stuck => .lost a
  | .lost b => .lost (b ||| a)

/-- The owed notice field of an extent's record changed; no list depends on it. -/
def State.setOwed (e : Nat) (f : OwedNotice → OwedNotice) (s : State) : State :=
  { s with records := s.records.map fun x => if x.extent = e then { x with owed := f x.owed } else x }

/-- A STUCK notice for an extent's record is placed in the front outbound queue, or owed (R9, R11). -/
def State.noticeStuck (e : Nat) (s : State) : State :=
  if s.hasRoom .front 1 then s.place .front (.stuck e) else s.setOwed e OwedNotice.withStuck

/-- A LOST notice for an extent's record is placed in the front outbound queue, or owed (R11, R122). -/
def State.noticeLost (e : Nat) (a : SegSet) (s : State) : State :=
  if s.hasRoom .front 1 then s.place .front (.lost e a) else s.setOwed e (OwedNotice.withLost a)

/-- DRAINED is placed in the front outbound queue, or owed (R151). -/
def State.noticeDrained (n : Nat) (s : State) : State :=
  if s.hasRoom .front 1 then s.place .front (.drained n) else { s with drainedOwed := some n }

/-- A SPIN_UP_DEMAND joins the disk outbound queue, and SPIN_UP_DEMANDS rises (R146). -/
def State.placeDemand (r : Reason) (s : State) : State :=
  let t := s.place .disk (.spinUpDemand r)
  { t with stats := { t.stats with spinUpDemands := addSat t.stats.spinUpDemands 1 } }

/-- A SPIN_UP_DEMAND is produced: placed, or owed (R146, R176). -/
def State.produceDemand (r : Reason) (s : State) : State :=
  if s.hasRoom .disk 1 && s.diskOwed.isEmpty then s.placeDemand r
  else { s with diskOwed := s.diskOwed ++ [.demand r] }

/-- A SPIN_DOWN_ADVICE is produced: placed, or owed (R148, R176). -/
def State.produceAdvice (s : State) : State :=
  if s.hasRoom .disk 1 && s.diskOwed.isEmpty then s.place .disk .spinDownAdvice
  else { s with diskOwed := s.diskOwed ++ [.advice] }

/-- The advice timer is armed or re-armed with a full period, in an UP period whose advice has not been sent and
with ADVICE_DELAY not 0 (R147). -/
def State.armAdvice (s : State) : State :=
  if s.upPeriod && !s.adviceSent && s.settings.adviceDelay != 0 then
    { s with adviceTimer := some s.settings.adviceDelay }
  else s

end Sys2Proof.Machine
end

