-- ==== Sys2Proof/Machine/Records.lean ====
section
/-! DEFINITION. The layouts of the records the part sends (R177, R184): the words of every outbound record, and the
values that answers carry. -/

namespace Sys2Proof.Machine

/-- An answer code's value (section 10.5). -/
def Code.value : Code → Nat
  | .ok => 0x00
  | .waiting => 0x01
  | .busy => 0x02
  | .notReady => 0x03
  | .wrongState => 0x04
  | .badValue => 0x05
  | .badFrame => 0x06
  | .tagInUse => 0x07
  | .unknownTag => 0x08
  | .duplicate => 0x09
  | .notOwner => 0x0A
  | .alreadyOwner => 0x0B
  | .tableFull => 0x0C
  | .stale => 0x0D

/-- A demand reason's value. -/
def Reason.value : Reason → Nat
  | .dirtyCeiling => 1
  | .drain => 2
  | .fill => 3

/-- The spindle state's value. -/
def Spindle.value : Spindle → Nat
  | .down => 0
  | .rising => 1
  | .up => 2
  | .falling => 3

/-- The background window's value. -/
def BgWindow.value : BgWindow → Nat
  | .opened => 0
  | .closed => 1

/-- The profile's value. -/
def Profile.value : Profile → Nat
  | .mains => 0
  | .battery => 1

/-- The service state's value. -/
def Service.value : Service → Nat
  | .cold => 0
  | .adopting => 1
  | .serving => 2

/-- A policy's value. -/
def Policy.value : Policy → Nat
  | .normal => 0
  | .pin => 1
  | .boost => 2
  | .bypass => 3

/-- A record state's value. -/
def RecordState.value : RecordState → Nat
  | .filling => 0
  | .resident => 1
  | .flushing => 2

/-- A yes-or-no field's value. -/
def bitOf (b : Bool) : Nat := if b then 1 else 0

/-- A piece's media value. -/
def Media.value : Media → Nat
  | .flash _ => 0
  | .disk => 1
  | .none => 2

/-- The slot field of a piece: its slot for FLASH, otherwise 0. -/
def Media.slotField : Media → Nat
  | .flash n => n
  | .disk => 0
  | .none => 0

/-- The two words of a piece (R177). -/
def Piece.words (p : Piece) : List Word :=
  [word (p.media.value * 2 ^ 30 + p.count * 2 ^ 16 + p.media.slotField), word p.first]

/-- An order's second word: context in bits 31–24, extent in bits 23–0. -/
def orderWord (context extent : Nat) : Word := word (context * 2 ^ 24 + extent)

/-- The words of an outbound record (R177). -/
def Outbound.words : Outbound → List Word
  | .routeAnswer code tag forced pieces =>
      headerWord 0x81 (2 + 2 * pieces.length) (code.value * 2 ^ 8 + tag)
        :: word (pieces.length * 2 ^ 8 + bitOf forced) :: pieces.flatMap Piece.words
  | .doneAnswer code tag => [headerWord 0x82 1 (code.value * 2 ^ 8 + tag)]
  | .answer kind code words => headerWord (kind + 0x80) (1 + words.length) (code.value * 2 ^ 8) :: words
  | .badFrame kind => [headerWord 0xFF 1 (Code.badFrame.value * 2 ^ 8 + kind)]
  | .writeSlot ticket c slot e a => [headerWord 0x40 4 ticket, orderWord c e, word slot, a]
  | .readSlot ticket c slot e a => [headerWord 0x41 4 ticket, orderWord c e, word slot, a]
  | .retireSlot slot => [headerWord 0x42 2 0, word slot]
  | .cleanMark slot a => [headerWord 0x43 3 0, word slot, a]
  | .lostMark slot a => [headerWord 0x44 3 0, word slot, a]
  | .trimMark slot a => [headerWord 0x45 3 0, word slot, a]
  | .readExtent ticket c e a => [headerWord 0x48 3 ticket, orderWord c e, a]
  | .writeExtent ticket c e a => [headerWord 0x49 3 ticket, orderWord c e, a]
  | .spinUpDemand reason => [headerWord 0x4A 1 reason.value]
  | .spinDownAdvice => [headerWord 0x4B 1 0]
  | .stuck e => [headerWord 0x50 2 0, word e]
  | .lost e a => [headerWord 0x51 3 0, word e, a]
  | .drained n => [headerWord 0x52 2 0, word n]
  | .claimGranted e => [headerWord 0x53 2 0, word e]

/-- The frame a read of an empty queue returns: kind 00h, length 1 (R171). -/
def emptyFrame : List Word := [headerWord 0x00 1 0]

/-- The position of an extent on the Promotion Queue: 1 for the head, 0 when it is not queued (R182). -/
def State.queuePosition (s : State) (e : Nat) : Nat :=
  if e ∈ s.promo then s.promo.idxOf e + 1 else 0

/-- Words 2 to 7 of the QUERY answer for a resident record (R182, R184). -/
def State.residentWords (r : Resident) (s : State) : List Word :=
  [word (2 * 2 ^ 24 + r.state.value * 2 ^ 16 + r.slot), r.valid, r.dirty, r.lost,
    word (r.heat.heat * 2 ^ 16 + r.heat.band.rank * 2 ^ 8 + bitOf r.drainMark * 4 + bitOf r.stuck * 2 + bitOf r.pinned),
    word (r.retries * 2 ^ 8 + s.queuePosition r.extent)]

/-- Words 2 to 7 of the QUERY answer for a watch entry (R182, R184). -/
def State.watchedWords (x : WatchEntry) (s : State) : List Word :=
  [word (1 * 2 ^ 24), 0#32, 0#32, 0#32, word (x.heat.heat * 2 ^ 16 + x.heat.band.rank * 2 ^ 8),
    word (s.queuePosition x.extent)]

/-- Words 2 to 7 of the QUERY answer of an extent as it stands (R182, R184). -/
def State.queryWords (e : Nat) (s : State) : List Word :=
  match s.residentOf e with
  | some r => s.residentWords r
  | none =>
    match s.watchOf e with
    | some x => s.watchedWords x
    | none => [0#32, 0#32, 0#32, 0#32, 0#32, 0#32]

/-- Words 2 to 8 of the QUERY SUMMARY answer (R183, R184). -/
def State.summaryWords (s : State) : List Word :=
  [word s.slots, word s.free.length, word (s.promo.length * 2 ^ 8 + s.fences.length), word s.dirtyCount,
    word s.pinnedCount,
    word (s.spindle.value * 2 ^ 24 + s.bgWindow.value * 2 ^ 16 + s.settings.profile.value * 2 ^ 8
      + bitOf s.urgent * 2 ^ 7 + bitOf s.drain * 2 ^ 6 + s.service.value),
    word s.epoch]

/-- Words 1 to 13 of the STATS answer (R181, R184). -/
def Stats.words (c : Stats) : List Word :=
  [word c.routes, word c.readFlash, word c.readDisk, word c.writeFlash, word c.writeDisk, word c.absorbed,
    word c.fillsDone, word c.flushesDone, word c.evictions, word c.forcedWakes, word c.spinUpDemands,
    word c.lostSegments, word c.orderTimeouts]

end Sys2Proof.Machine
end

