-- ==== Sys2Proof/Machine/Heat.lean ====
section
/-! DEFINITION. The Heat Unit (chapter 2) and the pinned flag (R47): streams, weights, catch-up, candidacy, and the
examination of a record or a watch entry. -/

namespace Sys2Proof.Machine

/-! ### Streams and weight -/

/-- The Stream Table entry a route of first LBA `lba` updates: the most recently used match, or else the
lowest-numbered empty entry, or else the least recently used (R20). -/
def State.streamFor (lba : Nat) (s : State) : Fin 4 × Bool :=
  match s.streamUse.find? (fun i => (s.streams[i].map (·.next)) == some lba) with
  | some i => (i, true)
  | none =>
    match allContexts.find? (fun i => s.streams[i].isNone) with
    | some i => (i, false)
    | none => (s.streamUse.getLast?.getD 0, false)

/-- The run length after a route of `count` sectors updates an entry (R19, R20). -/
def runAfter (old : Option Stream) (matched : Bool) (count : Nat) : Nat :=
  if matched then min ((old.map (·.run)).getD 0 + count) Config.maxRun else count

/-- The classification of a READ or WRITE route: whether it is sequential, and the Stream Table after it
(R20, R21). -/
def State.classify (lba count : Nat) (s : State) : Bool × State :=
  let (i, matched) := s.streamFor lba
  let run := runAfter s.streams[i] matched count
  (s.settings.seqRun ≤ run,
    { s with
      streams := s.streams.set i (some { next := lba + count, run := run })
      streamUse := i :: without i s.streamUse })

/-- The base weight of a route (R22). -/
def Settings.baseWeight (g : Settings) (kind : RouteKind) (sequential : Bool) : Nat :=
  match kind, sequential with
  | .read, false => g.wRread
  | .read, true => g.wSread
  | .write, false => g.wRwrite
  | .write, true => g.wSwrite
  | .trim, _ => 0

/-- The route weight: the base weight, and WAKE_BONUS for a READ whose answer holds a DISK piece while the spindle is
not UP (R22). -/
def State.routeWeight (kind : RouteKind) (sequential diskPiece : Bool) (s : State) : Nat :=
  s.settings.baseWeight kind sequential +
    if kind = .read ∧ diskPiece = true ∧ s.spindle ≠ .up then s.settings.wakeBonus else 0

/-- The weight an extent of a policy gains from a route weight (R23). -/
def extentWeight : Policy → Nat → Nat
  | .bypass, _ => 0
  | .boost, w => 2 * w
  | .normal, w => w
  | .pin, w => w

/-! ### Catch-up -/

/-- The decay of one epoch step (R26). -/
def decayHeat (decay heat : Nat) : Nat := if heat = 0 then 0 else heat - max (heat / 2 ^ decay) 1

/-- The raw band of a heat (R27). -/
def Settings.rawBand (g : Settings) (heat : Nat) : Band :=
  if heat < g.t1 then .b0 else if heat < g.t2 then .b1 else if heat < g.t3 then .b2 else .b3

/-- The settle part of one epoch step (R28). -/
def Heat.settleTo (g : Settings) (raw : Band) (h : Heat) : Heat :=
  if raw = h.band then { h with settle := 0 }
  else if g.settle ≤ h.settle + 1 then { h with band := raw, settle := 0 }
  else { h with settle := h.settle + 1 }

/-- One epoch step: decay, raw band, settling (R25). -/
def Heat.epochStep (g : Settings) (h : Heat) : Heat :=
  let heat := decayHeat g.decay h.heat
  Heat.settleTo g (g.rawBand heat) { h with heat := heat }

/-- A number of epoch steps, one after the other. -/
def Heat.epochSteps (g : Settings) : Nat → Heat → Heat
  | 0, h => h
  | n + 1, h => Heat.epochSteps g n (h.epochStep g)

/-- The epoch steps a record owes (R25). -/
def Heat.owedSteps (epoch : Nat) (h : Heat) : Nat := (epoch + Config.wrap16 - h.stamp) % Config.wrap16

/-- Parts 1 and 2 of a catch-up: the owed steps or the reset past the forget horizon, and the stamp
(R24, R25, R30). -/
def Heat.caughtUp (g : Settings) (epoch : Nat) (h : Heat) : Heat :=
  if Config.forgetHorizon < h.owedSteps epoch then { heat := 0, band := .b0, settle := 0, stamp := epoch }
  else { Heat.epochSteps g (h.owedSteps epoch) h with stamp := epoch }

/-- Part 3 of a catch-up: a weight added with saturation (R23, R29). -/
def Heat.gain (w : Nat) (h : Heat) : Heat := { h with heat := min (h.heat + w) Config.maxHeat }

/-- The heat fields of a record examined now, with the examining route's extent weight (R24, parts 1 to 3). -/
def State.heatNow (w : Nat) (h : Heat) (s : State) : Heat := (h.caughtUp s.settings s.epoch).gain w

/-! ### The pinned flag and candidacy -/

/-- The pinned flag after part 4 of a catch-up, from the policy now and the pinned count before (R47). -/
def pinDecision (policy : Policy) (before : Bool) (count limit : Nat) : Bool :=
  match policy, before with
  | .pin, false => count < limit
  | .pin, true => count ≤ limit
  | _, _ => false

/-- Whether an extent of a settled band and a policy is wanted in flash, by its band or for its PIN window with room
(R31). -/
def State.wanted (band : Band) (policy : Policy) (s : State) : Bool :=
  policy != .bypass &&
    (decide (s.settings.promoteBand.rank ≤ band.rank) || (policy == .pin && s.pinRoom))

/-- Part 5 of a catch-up: the Promotion Queue against candidacy (R32). -/
def State.adjustPromo (e : Nat) (candidate : Bool) (s : State) : State :=
  if candidate then
    if e ∈ s.promo then s
    else if s.promo.length < Config.promoDepth then { s with promo := s.promo ++ [e] } else s
  else s.unqueue e

/-- The record after parts 1 to 4 of a catch-up, with the policy it is now classified under (R24, R43, R47). -/
def State.caughtUpRecord (w : Nat) (r : Resident) (s : State) : Resident :=
  { r with
    heat := s.heatNow w r.heat
    pinned := pinDecision (s.policyOf r.extent) r.pinned s.pinnedCount s.pinLimit
    classified := s.policyOf r.extent }

/-- Where a record joins a clean list at a catch-up: the head when its list changed, the tail when it lost the pinned
flag (R33, R47). -/
def catchUpEnd (before after : Resident) : ListEnd :=
  if before.pinned && !after.pinned then .tail else .head

/-- The examination of a resident record (R24). -/
def State.examineResident (w : Nat) (r : Resident) (s : State) : State :=
  let r' := s.caughtUpRecord w r
  let t := s.store (catchUpEnd r r') r'
  t.adjustPromo r.extent
    (decide (r.valid ||| r.lost ≠ SegSet.all) && t.wanted r'.heat.band r'.classified)

/-- The examination of a watch entry (R24); its last-touch position stands. -/
def State.examineWatched (w : Nat) (x : WatchEntry) (s : State) : State :=
  let h := s.heatNow w x.heat
  let t := s.setWatchHeat x.extent h
  t.adjustPromo x.extent (t.wanted h.band (t.policyOf x.extent))

/-- The examination of an extent: of its resident record, or of its watch entry, or of nothing (R24). -/
def State.examine (w e : Nat) (s : State) : State :=
  match s.residentOf e with
  | some r => s.examineResident w r
  | none =>
    match s.watchOf e with
    | some x => s.examineWatched w x
    | none => s

/-- A new watch entry's heat fields (R13). -/
def State.newHeat (w : Nat) (s : State) : Heat :=
  Heat.gain w { heat := 0, band := .b0, settle := 0, stamp := s.epoch }

/-- What a READ or WRITE route does to the heat of an extent it touches (R13, R18, R23). -/
def State.weighExtent (routeWeight e : Nat) (s : State) : State :=
  let w := extentWeight (s.policyOf e) routeWeight
  match s.residentOf e with
  | some r => (s.examineResident w r).touchClean e
  | none =>
    match s.watchOf e with
    | some x => (s.examineWatched w x).touchWatch e
    | none => if w = 0 then s else s.enterWatch .tail e (s.newHeat w)

/-! ### Heat passing between the halves -/

/-- The heat of a removed record returns to the Watch List at the head of last-touch order when above 0; otherwise its
Promotion Queue entry goes (R14, R30). -/
def State.returnHeat (e : Nat) (h : Heat) (s : State) : State :=
  if h.heat = 0 then s.unqueue e else s.enterWatch .head e h

/-- The heat fields a new record takes: those of the extent's watch entry, or fresh ones (R6). -/
def State.inheritedHeat (e : Nat) (s : State) : Heat :=
  match s.watchOf e with
  | some x => x.heat
  | none => s.newHeat 0

/-- The pinned flag of a record at its creation by absorb or fresh FILL start (R7, R46). -/
def State.pinAtCreation (e : Nat) (s : State) : Bool := s.policyOf e == .pin && s.pinRoom

/-! ### The age sweep -/

/-- The age sweep's visit of a place: slot place `p` below S, watch place `p − S` from S on (R36, R37). -/
def State.sweepPlace (p : Nat) (s : State) : State :=
  if p < s.slots then
    match s.residentIn p with
    | some r => s.examineResident 0 r
    | none => s
  else
    match s.watch.find? (fun w => w.place == p - s.slots) with
    | some x => s.examineWatched 0 x
    | none => s

/-- The age sweep's visits of `n` places from the cursor on, round the circle of S + 4,096 places (R36). -/
def State.sweep : Nat → State → State
  | 0, s => s
  | n + 1, s =>
    let t := s.sweepPlace s.cursor
    State.sweep n { t with cursor := (s.cursor + 1) % (s.slots + Config.watchPlaces) }

end Sys2Proof.Machine
end

