-- ==== Sys2Proof/Machine/Claims.lean ====
section
/-! DEFINITION. The Claim Table (chapter 5): quiescence, grants, hand-over, and the parking condition. -/

namespace Sys2Proof.Machine

/-- Whether an extent is quiescent for a port (R78). -/
def State.quiescent (s : State) (p : Port) (e : Nat) : Bool :=
  !s.inMove e && (p == .front || !s.held e)

/-- Entry `i` becomes owned by port `p`, whose CLAIM_GRANTED notice is placed or owed (R81, R87). -/
def State.grantTo (i : Fin 8) (c : ClaimEntry) (p : Port) (s : State) : State :=
  if s.hasRoom p 1 then
    (s.place p (.claimGranted c.extent)).setClaim i (some { c with standing := .owned p false })
  else s.setClaim i (some { c with standing := .owned p true })

/-- Entry `i` is granted to its pending port if its extent is quiescent for it (R81). -/
def State.grantEntry (i : Fin 8) (s : State) : State :=
  match s.claims[i] with
  | none => s
  | some c =>
    match c.standing with
    | .owned _ _ => s
    | .pending p => if s.quiescent p c.extent then s.grantTo i c p else s

/-- Every pending entry whose extent is quiescent is granted, in entry-number order (R81). -/
def State.grantAll (s : State) : State := allClaims.foldl (fun t i => t.grantEntry i) s

/-- An entry after its owner or pending port leaves it: pending for its first waiter, or freed (R82, R83). The grant
of an entry whose extent is quiescent for the waiter follows in the same event. -/
def ClaimEntry.passOn (c : ClaimEntry) : Option ClaimEntry :=
  match c.waiters with
  | [] => none
  | w :: ws => some { c with standing := .pending w, waiters := ws }

/-- The port an entry stands for. -/
def Standing.port : Standing → Port
  | .owned p _ => p
  | .pending p => p

/-- An entry after port `p` has left it: as owner or pending port (R82, R83), or as a waiter (R83). -/
def ClaimEntry.leave (p : Port) (c : ClaimEntry) : Option ClaimEntry :=
  if c.standing.port = p then c.passOn else some { c with waiters := without p c.waiters }

/-- A link reset of port `p` takes it out of every entry (R89). -/
def State.leaveAllClaims (p : Port) (s : State) : State :=
  { s with claims := s.claims.map fun c => c.bind (ClaimEntry.leave p) }

/-- Whether a port is in an entry (R80, R83). -/
def ClaimEntry.names (c : ClaimEntry) (p : Port) : Bool := c.standing.port == p || c.waiters.contains p

/-- Whether an extent meets the parking condition: its entry's owner or pending port is the flash or the disk port
(R51, R84). -/
def State.parks (s : State) (e : Nat) : Bool :=
  match s.claimIndex e with
  | none => false
  | some i =>
    match s.claims[i] with
    | none => false
    | some c => c.standing.port != .front

/-- The lowest-numbered free entry of the Claim Table (R77). -/
def State.freeClaim (s : State) : Option (Fin 8) := allClaims.find? (fun i => s.claims[i].isNone)

/-- A CLAIM from port `p` on an extent the part can name: its answer code and the state after it, the answer apart
(R79, R80). -/
def State.claimFor (p : Port) (e : Nat) (s : State) : Code × State :=
  match s.claimIndex e with
  | some i =>
    match s.claims[i] with
    | none => (.waiting, s)
    | some c =>
      if c.names p then (.alreadyOwner, s)
      else (.waiting, s.setClaim i (some { c with waiters := c.waiters ++ [p] }))
  | none =>
    match s.freeClaim with
    | none => (.tableFull, s)
    | some i =>
      if s.quiescent p e then
        (.ok, s.setClaim i (some { extent := e, standing := .owned p false, waiters := [] }))
      else (.waiting, s.setClaim i (some { extent := e, standing := .pending p, waiters := [] }))

/-- A RELEASE from port `p`: its answer code and the state after it, the answer and a grant to the next port apart
(R82, R83). -/
def State.releaseFor (p : Port) (e : Nat) (s : State) : Code × State :=
  match s.claimIndex e with
  | none => (.notOwner, s)
  | some i =>
    match s.claims[i] with
    | none => (.notOwner, s)
    | some c => if c.names p then (.ok, s.setClaim i (c.leave p)) else (.notOwner, s)

end Sys2Proof.Machine
end

