-- ==== Sys2Proof/Machine/Slots.lean ====
section
/-! DEFINITION. The Slot Manager (chapter 6): the free pool, removal of records, victim choice, eviction and
allocation. -/

namespace Sys2Proof.Machine

/-! ### The free pool -/

/-- The free count, retire-owed slots included (R92). -/
def State.freeCount (s : State) : Nat := s.free.length

/-- A slot enters the free pool (R92). -/
def State.freeSlot (slot : Nat) (s : State) : State := { s with free := insertBy id slot s.free }

/-- A slot leaves the free pool (R92). -/
def State.takeSlot (slot : Nat) (s : State) : State := { s with free := without slot s.free }

/-- The slot the pool hands out: the lowest-numbered free slot with retire-owed no (R92). -/
def State.handOut (s : State) : Option Nat := s.free.find? (fun n => !s.retireOwed n)

/-- The reservations of the fenced set: one for each fresh FILL in flight (R99, R112). -/
def State.reservations (s : State) : Nat :=
  allContexts.countP fun c =>
    match s.contexts[c] with
    | .fill m => m.fresh
    | _ => false

/-- Whether the fenced set has a place for another reservation (R99). -/
def State.fenceRoom (s : State) : Bool := s.fences.length + s.reservations < Config.fencePlaces

/-! ### Removal -/

/-- What becomes of a removed record's slot: freed, with or without a RETIRE_SLOT; passed to the record of the absorb
that evicts it, with a RETIRE_SLOT; or fenced under a ticket (R101, R103). -/
inductive SlotFate where
  | freed
  | freedSilently
  | passed
  | fenced (ticket : Nat)
  deriving DecidableEq, Repr

/-- Whether a removal produces RETIRE_SLOT (R101). -/
def SlotFate.announced : SlotFate → Bool
  | .freed => true
  | .freedSilently => false
  | .passed => true
  | .fenced _ => false

/-- The slot goes where its fate says (R101 part 5, R103). -/
def State.settleSlot (fate : SlotFate) (slot : Nat) (s : State) : State :=
  match fate with
  | .freed => s.freeSlot slot
  | .freedSilently => s.freeSlot slot
  | .passed => s
  | .fenced t => { s with fences := s.fences ++ [{ slot := slot, ticket := t }] }

/-- A record is removed, with the parts of R101 in their order: caught up, RETIRE_SLOT produced, taken out of every
collection, heat returned, slot given up. Its owed notice and its marks go with the record. -/
def State.remove (fate : SlotFate) (r : Resident) (s : State) : State :=
  let h := r.heat.caughtUp s.settings s.epoch
  let t := if fate.announced then s.produceRetire r.slot else s
  ((t.drop r).returnHeat r.extent h).settleSlot fate r.slot

/-- Whether a record is empty (R5). -/
def Resident.isEmpty (r : Resident) : Bool := r.valid == 0#32 && r.lost == 0#32

/-- The record of an extent is retired if it is empty, in state RESIDENT and unheld (R5). -/
def State.retireIfEmpty (fate : SlotFate) (e : Nat) (s : State) : State :=
  match s.residentOf e with
  | none => s
  | some r => if r.isEmpty && r.state == .resident && !s.held e then s.remove fate r else s

/-- The empty, unheld RESIDENT records among those of some extents are retired, in ascending slot order (R101). -/
def State.retireEmpties (es : List Nat) (s : State) : State :=
  ((s.records.map (·.extent)).filter (fun e => e ∈ es)).foldl (fun t e => t.retireIfEmpty .freed e) s

/-! ### Victim choice -/

/-- Whether victim choice skips a record: its extent is held, claimed or excluded (R95). -/
def State.skipped (excluded : List Nat) (s : State) (e : Nat) : Bool :=
  s.held e || s.claimed e || excluded.contains e

/-- The first record of the allowed lists that is not skipped, with its list: from B0 upward, head to tail (R96). -/
def State.firstOffered (excluded : List Nat) (bands : List Band) (s : State) : Option (Band × Nat) :=
  bands.findSome? fun b => ((s.clean.get b).find? (fun e => !s.skipped excluded e)).map (fun e => (b, e))

/-- The walk of the clean lists: the first record offered is caught up, and is the victim if it stands on the list
where it was met; otherwise the walk begins again (R96). Each restart follows the first catch-up of a record, so one
more turn than there are records on the lists is enough. -/
def State.walk (excluded : List Nat) (bands : List Band) : Nat → State → Option Nat × State
  | 0, s => (none, s)
  | n + 1, s =>
    match s.firstOffered excluded bands with
    | none => (none, s)
    | some (b, e) =>
      let t := s.examine 0 e
      if e ∈ t.clean.get b then (some e, t) else State.walk excluded bands n t

/-- Whether an extent's record stands on one of some clean lists. -/
def State.onList (bands : List Band) (e : Nat) (s : State) : Bool :=
  bands.any fun b => (s.clean.get b).contains e

/-- The pin scan: the pinned-clean records, in slot order, are caught up until one loses its flag and stands on an
allowed list (R96). -/
def State.pinScan (excluded : List Nat) (bands : List Band) : List Nat → State → Option Nat × State
  | [], s => (none, s)
  | e :: es, s =>
    match s.residentOf e with
    | none => State.pinScan excluded bands es s
    | some r =>
      if r.isPinnedClean && r.state != .filling && !s.skipped excluded e then
        let t := s.examineResident 0 r
        if t.onList bands e then (some e, t) else State.pinScan excluded bands es t
      else State.pinScan excluded bands es s

/-- The number of records on the clean lists. -/
def CleanLists.size (c : CleanLists) : Nat := c.b0.length + c.b1.length + c.b2.length + c.b3.length

/-- Victim choice under a band ceiling: the walk, and then the pin scan when the walk finds none and the pinned-clean
count is above 0 (R95, R96). -/
def State.victim (excluded : List Nat) (ceiling : Option Band) (s : State) : Option Nat × State :=
  match s.walk excluded (bandsUpTo ceiling) (s.clean.size + 1) with
  | (some e, t) => (some e, t)
  | (none, t) =>
    if 0 < t.pinnedCleanCount then
      t.pinScan excluded (bandsUpTo ceiling) (t.records.map (·.extent))
    else (none, t)

/-- A victim is evicted: its record is removed and EVICTIONS rises (R97). -/
def State.evict (fate : SlotFate) (r : Resident) (s : State) : State :=
  let t := s.remove fate r
  { t with stats := { t.stats with evictions := addSat t.stats.evictions 1 } }

/-! ### Allocation -/

/-- The slot of an absorb: a free slot, or a victim's, or none (R58, R98). -/
def State.absorbSlot (excluded : List Nat) (s : State) : Option Nat × State :=
  match s.handOut with
  | some n => (some n, s.takeSlot n)
  | none =>
    match s.victim excluded (some .b3) with
    | (none, t) => (none, t)
    | (some e, t) =>
      match t.residentOf e with
      | none => (none, t)
      | some r => (some r.slot, t.evict .passed r)

/-- The displacement of a fresh FILL: victims below the candidate band are evicted while the free count is not above
ABSORB_RESERVE (R99, step 1). Each turn but the last removes a record. -/
def State.displace (ceiling : Option Band) : Nat → State → State
  | 0, s => s
  | n + 1, s =>
    if s.absorbReserve < s.freeCount then s
    else
      match s.victim [] ceiling with
      | (none, t) => t
      | (some e, t) =>
        match t.residentOf e with
        | none => t
        | some r => State.displace ceiling n (t.evict .freed r)

/-- Parts 1 and 2 of a catch-up of an extent's watch entry, made when its heat passes to a fresh FILL's record
(R30). -/
def State.passingCatchUp (e : Nat) (s : State) : State :=
  match s.watchOf e with
  | none => s
  | some x => s.setWatchHeat e (x.heat.caughtUp s.settings s.epoch)

/-- The settled band of an extent's watch entry, B0 without one (R6). -/
def State.watchedBand (e : Nat) (s : State) : Band :=
  match s.watchOf e with
  | none => .b0
  | some x => x.heat.band

/-- The slot of a fresh FILL, under the candidate band after its catch-up (R99). Victims already evicted stay
evicted when none is obtained. -/
def State.fillSlot (e : Nat) (s : State) : Option Nat × State :=
  let t := s.passingCatchUp e
  let u := t.displace (t.watchedBand e).below (t.records.length + 1)
  if u.absorbReserve < u.freeCount then
    match u.handOut with
    | some n => (some n, u.takeSlot n)
    | none => (none, u)
  else (none, u)

/-- The Slot Manager's test whether a fresh fill of a candidate can get a slot (R100). -/
def State.canGetSlot (e : Nat) (s : State) : Bool :=
  let below := (bandsUpTo (s.watchedBand e).below).map
    fun b => (s.clean.get b).countP (fun v => !s.skipped [] v)
  s.fenceRoom && decide (s.absorbReserve < s.freeCount + below.sum)

end Sys2Proof.Machine
end

