-- ==== Sys2Proof/Machine/Moves.lean ====
section
/-! DEFINITION. The Move Engine (chapter 7): orders and tickets, the completion and the abort of moves, reports and
timeouts. Claims that a move's end grants, the end of a drain, urgent mode and demands follow at the end of the event
(`State.finish`, Machine/Scheduler.lean). -/

namespace Sys2Proof.Machine

/-! ### Ends of moves -/

/-- A resident record returns to state RESIDENT at the end of its move, takes its list places, and is retired if it is
then empty and unheld (R3, R5, R109). -/
def State.endRecord (fate : SlotFate) (r : Resident) (s : State) : State :=
  (s.store .tail { r with state := .resident }).retireIfEmpty fate r.extent

/-- A CLEAN_MARK produced at the completion of the FLUSH in context `c`: placed, and the context is IDLE; or held in
the MARKING context (R126). -/
def State.produceMark (c : Fin 4) (slot : Nat) (a : SegSet) (s : State) : State :=
  if s.hasRoom .flash 1 && s.flashOwed.isEmpty then (s.place .flash (.cleanMark slot a)).setContext c .idle
  else { s.setContext c (.marking slot a) with flashOwed := s.flashOwed ++ [.mark c] }

/-- The completion of a FILL (R113). -/
def State.completeFill (c : Fin 4) (m : FillMove) (s : State) : State :=
  let t := s.setContext c .idle
  let u := { t with stats := { t.stats with fillsDone := addSat t.stats.fillsDone 1 } }
  match u.residentOf m.extent with
  | none => u
  | some r => u.endRecord .freed { r with valid := r.valid ||| m.validate }

/-- The cleaned set of a FLUSH: the work set less the redirtied set, intersected with the dirty set (R121). -/
def FlushMove.cleaned (m : FlushMove) (dirty : SegSet) : SegSet := segLess m.work m.redirtied &&& dirty

/-- The completion of a FLUSH (R121). -/
def State.completeFlush (c : Fin 4) (m : FlushMove) (s : State) : State :=
  let t := s.setContext c .idle
  let u := { t with stats := { t.stats with flushesDone := addSat t.stats.flushesDone 1 } }
  match u.residentOf m.extent with
  | none => u
  | some r =>
    let cleaned := m.cleaned r.dirty
    let v := u.store .tail
      { r with state := .resident, dirty := segLess r.dirty cleaned, drainMark := false, retries := 0 }
    let w := if cleaned = 0#32 then v else v.produceMark c m.slot cleaned
    w.retireIfEmpty .freed m.extent

/-! ### Orders -/

/-- The segment set of a FILL's order: the validate set as it stands (R111). -/
def FillMove.orderSet (m : FillMove) : SegSet := m.validate

/-- The segment set of a FLUSH's order, from the record's dirty set as it stands (R118). -/
def FlushMove.orderSet (m : FlushMove) (dirty : SegSet) : SegSet :=
  match m.phase with
  | .reading => m.work &&& dirty
  | .writing => m.carried &&& dirty

/-- The port of a FILL's order: READ_EXTENT to the disk, WRITE_SLOT to the flash (section 7.2). -/
def FillMove.orderPort (m : FillMove) : Port :=
  match m.phase with
  | .reading => .disk
  | .writing => .flash

/-- The port of a FLUSH's order: READ_SLOT to the flash, WRITE_EXTENT to the disk (section 7.3). -/
def FlushMove.orderPort (m : FlushMove) : Port :=
  match m.phase with
  | .reading => .flash
  | .writing => .disk

/-- The port of a move's current order, none without a move. -/
def Context.orderPort : Context → Option Port
  | .fill m => some m.orderPort
  | .flush m => some m.orderPort
  | .idle => none
  | .marking _ _ => none

/-- The current ticket and timer of a context, while its order is placed (R106). -/
def Context.placed : Context → Option (Nat × Nat)
  | .fill m => match m.order with
    | .pending => none
    | .placed t n => some (t, n)
  | .flush m => match m.order with
    | .pending => none
    | .placed t n => some (t, n)
  | .idle => none
  | .marking _ _ => none

/-- The dirty set of an extent's record. -/
def State.dirtyOf (s : State) (e : Nat) : SegSet :=
  match s.residentOf e with
  | none => 0#32
  | some r => r.dirty

/-- The record of a FILL's order (section 7.2). -/
def FillMove.orderRecord (m : FillMove) (ticket : Nat) (c : Fin 4) : Outbound :=
  match m.phase with
  | .reading => .readExtent ticket c.val m.extent m.orderSet
  | .writing => .writeSlot ticket c.val m.slot m.extent m.orderSet

/-- The record of a FLUSH's order (section 7.3). -/
def FlushMove.orderRecord (m : FlushMove) (ticket : Nat) (c : Fin 4) (dirty : SegSet) : Outbound :=
  match m.phase with
  | .reading => .readSlot ticket c.val m.slot m.extent (m.orderSet dirty)
  | .writing => .writeExtent ticket c.val m.extent (m.orderSet dirty)

/-- A FLUSH after its order is placed: the READ_SLOT's set becomes the carried set (R118). -/
def FlushMove.afterPlacing (m : FlushMove) (ticket timer : Nat) (dirty : SegSet) : FlushMove :=
  match m.phase with
  | .reading => { m with order := .placed ticket timer, carried := m.orderSet dirty }
  | .writing => { m with order := .placed ticket timer }

/-- An order takes its ticket, the counter increases, and the order's record joins its queue; a disk order re-arms the
advice timer (R107, R108, R147). -/
def State.issue (p : Port) (record : Outbound) (c : Fin 4) (x : Context) (s : State) : State :=
  let t := (s.place p record).setContext c x
  let u := { t with tickets := (t.tickets + 1) % Config.wrap16 }
  if p = .disk then u.armAdvice else u

/-- The current order of context `c` is placed (R108); with an empty set nothing is placed and the move completes
(R111, R118). -/
def State.placeOrder (c : Fin 4) (s : State) : State :=
  match s.contexts[c] with
  | .idle => s
  | .marking _ _ => s
  | .fill m =>
    if m.orderSet = 0#32 then s.completeFill c m
    else
      s.issue m.orderPort (m.orderRecord s.tickets c) c
        (.fill { m with order := .placed s.tickets s.settings.orderTimeout })
  | .flush m =>
    if m.orderSet (s.dirtyOf m.extent) = 0#32 then s.completeFlush c m
    else
      s.issue m.orderPort (m.orderRecord s.tickets c (s.dirtyOf m.extent)) c
        (.flush (m.afterPlacing s.tickets s.settings.orderTimeout (s.dirtyOf m.extent)))

/-- Whether the set of a move's current order is {} (R111, R118). -/
def State.orderEmpty (s : State) (c : Fin 4) : Bool :=
  match s.contexts[c] with
  | .idle => false
  | .marking _ _ => false
  | .fill m => m.orderSet == 0#32
  | .flush m => m.orderSet (s.dirtyOf m.extent) == 0#32

/-- Whether nothing but a grant is owed to a port. -/
def State.owesNothing (s : State) : Port → Bool
  | .front => true
  | .flash => s.flashOwed.isEmpty
  | .disk => s.diskOwed.isEmpty

/-- A pending order takes its turn among its port's owed records (R108, R176). -/
def State.oweOrder (p : Port) (c : Fin 4) (s : State) : State :=
  match p with
  | .front => s
  | .flash => { s with flashOwed := s.flashOwed ++ [.order c] }
  | .disk => { s with diskOwed := s.diskOwed ++ [.order c] }

/-- The current order of context `c` is produced: placed if its queue has a free place, otherwise pending (R108);
with an empty set the move completes (R111, R118). -/
def State.produceOrder (c : Fin 4) (s : State) : State :=
  match s.contexts[c].orderPort with
  | none => s
  | some p =>
    if s.orderEmpty c || (s.hasRoom p 1 && s.owesNothing p) then s.placeOrder c else s.oweOrder p c

/-! ### Aborts -/

/-- The heat penalty of an aborted FILL: the record's heat becomes 0 and its Promotion Queue entry goes (R114). -/
def State.penalise (e : Nat) (s : State) : State :=
  { s with
    records := s.records.map fun x => if x.extent = e then { x with heat := { x.heat with heat := 0 } } else x
    promo := without e s.promo }

/-- The abort of a FILL: a bare fresh record is removed, its slot as `fate` says; the record of a partial FILL returns
to RESIDENT (R114). `endFate` is the slot's fate where that record is empty and retired. -/
def State.abortFill (c : Fin 4) (m : FillMove) (penalty : Bool) (fate endFate : SlotFate) (s : State) : State :=
  let t := s.setContext c .idle
  let u := if penalty then t.penalise m.extent else t
  match u.residentOf m.extent with
  | none => u
  | some r => if m.fresh then u.remove fate r else u.endRecord endFate r

/-- The uncharged abort of a FLUSH (R124). -/
def State.abortFlush (c : Fin 4) (m : FlushMove) (endFate : SlotFate) (s : State) : State :=
  let t := s.setContext c .idle
  match t.residentOf m.extent with
  | none => t
  | some r => t.endRecord endFate r

/-- A record after a charged flush failure: one more retry, and stuck at the third (R9, R123). -/
def Resident.charged (r : Resident) : Resident :=
  { r with
    state := .resident
    retries := min (r.retries + 1) Config.stuckAt
    stuck := r.stuck || decide (Config.stuckAt ≤ r.retries + 1) }

/-- A FLUSH failure charged to the record: the record goes to the Dirty List's tail, and a record that becomes stuck
is noticed; a record no longer dirty is not charged (R123). -/
def State.chargeFlush (c : Fin 4) (m : FlushMove) (s : State) : State :=
  let t := s.setContext c .idle
  match t.residentOf m.extent with
  | none => t
  | some r =>
    if r.dirty = 0#32 then t.endRecord .freed r
    else
      let u := t.store .tail r.charged
      let v := { u with dirtyList := without m.extent u.dirtyList ++ [m.extent] }
      if r.charged.stuck && !r.stuck then v.noticeStuck m.extent else v

/-- Segments of a record turned lost: they leave valid and dirty and join lost (R4, R69, R122). -/
def Resident.lose (a : SegSet) (r : Resident) : Resident :=
  { r with valid := segLess r.valid a, dirty := segLess r.dirty a, lost := r.lost ||| a }

/-- LOST_MARK is placed and LOST_SEGMENTS rises by the number of segments lost (R69, R122). -/
def State.markLost (slot : Nat) (a : SegSet) (s : State) : State :=
  let t := s.place .flash (.lostMark slot a)
  { t with stats := { t.stats with lostSegments := addSat t.stats.lostSegments (segCount a) } }

/-- A READ_SLOT that could not be read: the work-set segments still dirty and not redirtied are lost, and the FLUSH is
aborted without charge (R122). -/
def State.loseFlush (c : Fin 4) (m : FlushMove) (s : State) : State :=
  let t := s.setContext c .idle
  match t.residentOf m.extent with
  | none => t
  | some r =>
    let gone := m.cleaned r.dirty
    let u := if gone = 0#32 then t else (t.markLost r.slot gone).noticeLost m.extent gone
    match u.residentOf m.extent with
    | none => u
    | some r' => u.endRecord .freed (r'.lose gone)

/-! ### Reports and timeouts -/

/-- Whether a report is current: its context's order was placed on its port with its ticket (R127). -/
def State.isCurrent (s : State) (p : Port) (c : Fin 4) (ticket : Nat) : Bool :=
  s.contexts[c].orderPort == some p && (s.contexts[c].placed.map (·.1)) == some ticket

/-- A move enters WRITING, and its second order is produced (R113, R120). -/
def State.enterWriting (c : Fin 4) (s : State) : State :=
  match s.contexts[c] with
  | .idle => s
  | .marking _ _ => s
  | .fill m => (s.setContext c (.fill { m with phase := .writing, order := .pending })).produceOrder c
  | .flush m => (s.setContext c (.flush { m with phase := .writing, order := .pending })).produceOrder c

/-- What a current REPORT does to the move of its context; `status` is 0 OK, 1 MEDIA_ERROR, 2 NOT_SPINNING
(R113, R115, R116, R120 to R124). -/
def State.actOnReport (c : Fin 4) (status : Nat) (s : State) : State :=
  match s.contexts[c] with
  | .idle => s
  | .marking _ _ => s
  | .fill m =>
    match m.phase, status with
    | .reading, 0 => s.enterWriting c
    | .writing, 0 => s.completeFill c m
    | _, 1 => s.abortFill c m true .freed .freed
    | _, _ => s.abortFill c m false .freed .freed
  | .flush m =>
    match m.phase, status with
    | .reading, 0 => s.enterWriting c
    | .writing, 0 => s.completeFlush c m
    | .reading, _ => s.loseFlush c m
    | .writing, 1 => s.chargeFlush c m
    | .writing, _ => s.abortFlush c m .freed

/-- The expiry of the order timer of a context with a placed order (R117, R123, R124). -/
def State.actOnTimeout (c : Fin 4) (s : State) : State :=
  let t := { s with stats := { s.stats with orderTimeouts := addSat s.stats.orderTimeouts 1 } }
  match s.contexts[c] with
  | .idle => s
  | .marking _ _ => s
  | .fill m =>
    match m.phase, m.order with
    | .writing, .placed ticket _ => t.abortFill c m false (.fenced ticket) .freed
    | _, _ => t.abortFill c m false .freed .freed
  | .flush m =>
    match m.phase with
    | .reading => t.abortFlush c m .freed
    | .writing => t.chargeFlush c m

/-- A fence bearing a report's ticket is lifted, the first made if two bear it: the slot is freed and RETIRE_SLOT is
produced (R104, R127). -/
def State.liftFenceOf (ticket : Nat) (s : State) : State :=
  match s.fences.find? (fun f => f.ticket == ticket) with
  | none => s
  | some f => ({ s with fences := s.fences.erase f }.freeSlot f.slot).produceRetire f.slot

/-- A slot's fence is lifted without RETIRE_SLOT (R104, R105). -/
def State.unfenceSlot (slot : Nat) (s : State) : State :=
  if s.fences.any (fun f => f.slot == slot) then
    { s with fences := s.fences.filter (fun f => f.slot ≠ slot) }.freeSlot slot
  else s

/-! ### Link resets -/

/-- The slot of a move in flight, 0 without one. -/
def Context.slotInMove : Context → Nat
  | .fill m => m.slot
  | .flush m => m.slot
  | .idle => 0
  | .marking _ _ => 0

/-- The move of a context is aborted by a link reset: without heat penalty, uncharged (R130, R131). -/
def State.abortByReset (fate : SlotFate) (c : Fin 4) (s : State) : State :=
  match s.contexts[c] with
  | .idle => s
  | .marking _ _ => s
  | .fill m => s.abortFill c m false fate fate
  | .flush m => s.abortFlush c m fate

/-- The contexts whose move's current order, pending or placed, is an order of a port, in ascending order of their
slots (R101, R130, R131). -/
def State.contextsOf (p : Port) (s : State) : List (Fin 4) :=
  (allContexts.filter (fun c => s.contexts[c].orderPort == some p)).foldl
    (fun l c => insertBy (fun c => s.contexts[c].slotInMove) c l) []

/-- Every move whose current order is an order of a port is aborted by that port's link reset (R130, R131). -/
def State.abortMovesOf (p : Port) (fate : SlotFate) (s : State) : State :=
  (s.contextsOf p).foldl (fun t c => t.abortByReset fate c) s

/-- A MARKING context drops its held mark and becomes IDLE (R126, R130). -/
def Context.dropMark : Context → Context
  | .marking _ _ => .idle
  | .idle => .idle
  | .fill m => .fill m
  | .flush m => .flush m

/-! ### Starts -/

/-- The lowest-numbered IDLE context (R109). -/
def State.idleContext (s : State) : Option (Fin 4) := allContexts.find? (fun c => s.contexts[c] == .idle)

/-- A FLUSH of a record starts in a context (R118). -/
def State.startFlush (c : Fin 4) (r : Resident) (s : State) : State :=
  let t := s.store .tail { r with state := .flushing }
  (t.setContext c (.flush { phase := .reading, extent := r.extent, slot := r.slot, work := r.dirty, redirtied := 0#32, carried := 0#32, order := .pending })).produceOrder c

/-- The FILL of a partial resident starts in a context (R110). -/
def State.startPartialFill (c : Fin 4) (r : Resident) (s : State) : State :=
  let missing := ~~~(r.valid ||| r.lost)
  let t := s.store .tail { r with state := .filling }
  (t.setContext c (.fill { phase := .reading, fresh := false, extent := r.extent, slot := r.slot, work := missing, validate := missing, order := .pending })).produceOrder c

/-- The record a fresh FILL creates (R6, R7, R110). -/
def State.freshRecord (e slot : Nat) (s : State) : Resident :=
  { extent := e, slot := slot, state := .filling, valid := 0#32, dirty := 0#32, lost := 0#32,
    pinned := s.pinAtCreation e, heat := s.inheritedHeat e, classified := s.policyOf e, retries := 0,
    stuck := false, drainMark := false, owed := .absent }

/-- A fresh FILL of a watched extent starts in a context with the slot obtained (R110). -/
def State.startFreshFill (c : Fin 4) (e slot : Nat) (s : State) : State :=
  let t := (s.unwatch e).enter (s.freshRecord e slot)
  (t.setContext c (.fill { phase := .reading, fresh := true, extent := e, slot := slot, work := SegSet.all, validate := SegSet.all, order := .pending })).produceOrder c

end Sys2Proof.Machine
end

