-- ==== Sys2Proof/Machine/Scheduler.lean ====
section
/-! DEFINITION. The Scheduler (chapter 8): urgent mode, the end of a drain, demands, eligibility, the start event, and
`State.finish`, what every event that can move them ends with. -/

namespace Sys2Proof.Machine

/-! ### Urgent mode, drains and demands -/

/-- Urgent mode after its comparison with the watermarks (R136). -/
def urgentAfter (urgent : Bool) (count high low : Nat) : Bool :=
  if urgent then decide (low < count) else decide (high ≤ count)

/-- Urgent mode compared with the watermarks (R136). -/
def State.compareUrgent (s : State) : State :=
  { s with urgent := urgentAfter s.urgent s.dirtyCount s.dirtyHigh s.dirtyLow }

/-- Whether a record is unflushed: marked and not stuck (R150). -/
def Resident.unflushed (r : Resident) : Bool := r.drainMark && !r.stuck

/-- Every drain mark clears (R10, R151). -/
def State.clearMarks (s : State) : State :=
  { s with records := s.records.map fun r => { r with drainMark := false } }

/-- A drain with no unflushed record ends: DRAINED with the stuck count is produced, the marks clear (R151). -/
def State.endDrain (s : State) : State :=
  if s.drain && !s.records.any (fun r => r.unflushed) then
    { (s.noticeDrained (s.records.countP (fun r => r.drainMark && r.stuck))).clearMarks with drain := false }
  else s

/-- The condition of a demand reason (R145). -/
def State.demandHolds (s : State) : Reason → Bool
  | .dirtyCeiling => s.urgent
  | .drain => s.drain
  | .fill => s.settings.profile == .mains && s.settings.fillWake != 0 && decide (s.settings.fillWake ≤ s.promo.length)

/-- The flag of a demand reason (R145). -/
def DemandFlags.get (f : DemandFlags) : Reason → Bool
  | .dirtyCeiling => f.dirtyCeiling
  | .drain => f.drain
  | .fill => f.fill

/-- The flags with one set. -/
def DemandFlags.set (f : DemandFlags) (r : Reason) (b : Bool) : DemandFlags :=
  match r with
  | .dirtyCeiling => { f with dirtyCeiling := b }
  | .drain => { f with drain := b }
  | .fill => { f with fill := b }

/-- The flag of a reason set in the state. -/
def State.setDemand (r : Reason) (b : Bool) (s : State) : State := { s with demands := s.demands.set r b }

/-- One reason at the end of an event: its flag clears and its owed demand is dropped when its condition does not
hold; a demand is produced when it holds, the spindle is not UP and the flag is no (R145, R146). -/
def State.demandFor (r : Reason) (s : State) : State :=
  if s.demandHolds r then
    if s.spindle != .up && !s.demands.get r then (s.setDemand r true).produceDemand r else s
  else { s.setDemand r false with diskOwed := without (.demand r) s.diskOwed }

/-- The demands at the end of an event, in the order DIRTY_CEILING, DRAIN, FILL (R145). -/
def State.demandAll (s : State) : State := ((s.demandFor .dirtyCeiling).demandFor .drain).demandFor .fill

/-- What an event in SERVING ends with: the grants that the holds and moves it ended allow (R81), the end of a drain
(R151), urgent mode (R136), and the demands (R145). Outside SERVING none of these can change. -/
def State.finish (s : State) : State :=
  if s.isServing then (((s.grantAll).endDrain).compareUrgent).demandAll else s

/-- The reconsideration of the demands at a SPINDLE DOWN report: every flag becomes no but that of a reason whose
demand is owed (R146). Demands are then produced as at the end of any event. -/
def State.reconsider (s : State) : State :=
  { s with demands :=
      { dirtyCeiling := decide (DiskOwed.demand .dirtyCeiling ∈ s.diskOwed)
        drain := decide (DiskOwed.demand .drain ∈ s.diskOwed)
        fill := decide (DiskOwed.demand .fill ∈ s.diskOwed) } }

/-! ### UP periods -/

/-- An UP period begins: the advice-sent flag is no and the advice timer is armed (R134). -/
def State.beginUp (s : State) : State := { s with adviceSent := false }.armAdvice

/-- An UP period ends: the advice timer stops, the advice-sent flag is no, and an owed advice is dropped (R134). -/
def State.endUp (s : State) : State :=
  { s with adviceTimer := none, adviceSent := false, diskOwed := without .advice s.diskOwed }

/-- Whether a disk-owed record is a demand. -/
def DiskOwed.isDemand : DiskOwed → Bool
  | .demand _ => true
  | .order _ => false
  | .advice => false

/-- Every owed demand is dropped unplaced, its flag standing (R146). -/
def State.dropDemands (s : State) : State :=
  { s with diskOwed := s.diskOwed.filter (fun o => !o.isDemand) }

/-! ### Eligibility -/

/-- Whether an extent's record may be flushed now: not stuck, unclaimed, in state RESIDENT (R138). -/
def State.flushable (s : State) (e : Nat) : Bool :=
  match s.residentOf e with
  | none => false
  | some r => !r.stuck && !s.claimed e && r.state == .resident

/-- The eligible flush: the first flushable record of the Dirty List, where a flush is eligible (R138). -/
def State.eligibleFlush (s : State) : Option Nat :=
  if s.isServing && s.spindle == .up && (s.bgWindow == .opened || s.urgent || s.drain) then
    s.dirtyList.find? (fun e => s.flushable e)
  else none

/-- Whether a Promotion Queue entry passes the tests of R140. -/
def State.fillable (s : State) (e : Nat) : Bool :=
  !s.claimed e &&
    match s.residentOf e with
    | some r => r.state == .resident
    | none => s.canGetSlot e && !s.free.any (fun n => s.retireOwed n)

/-- Whether fills are eligible at all, the queue apart (R139). -/
def State.fillsAllowed (s : State) : Bool :=
  s.isServing && s.spindle == .up && s.bgWindow == .opened && !s.urgent &&
    !(s.settings.profile == .battery && s.adviceSent)

/-- The eligible entry: the first entry in queue order that passes the tests, where a fill is eligible
(R139, R140). -/
def State.eligibleFill (s : State) : Option Nat :=
  if s.fillsAllowed then s.promo.find? (fun e => s.fillable e) else none

/-! ### The start event -/

/-- The start of the eligible flush in a context (R118, R142). -/
def State.startEligibleFlush (c : Fin 4) (s : State) : State :=
  match s.eligibleFlush with
  | none => s
  | some e =>
    match s.residentOf e with
    | none => s
    | some r => { s.startFlush c r with lastKind := .flush }

/-- The attempt to start a FILL of a queued extent: whether it started, and the state after it (R99, R110). -/
def State.tryFill (c : Fin 4) (e : Nat) (s : State) : Bool × State :=
  match s.residentOf e with
  | some r => (true, { s.startPartialFill c r with lastKind := .fill })
  | none =>
    match s.fillSlot e with
    | (some n, t) => (true, { t.startFreshFill c e n with lastKind := .fill })
    | (none, t) => (false, t)

/-- The queue entries up to and including one. -/
def upTo (e : Nat) : List Nat → List Nat
  | [] => []
  | x :: xs => if x = e then [x] else x :: upTo e xs

/-- The fills of a start event: the first entry that passes the tests is tried; after a failed attempt the next entry
in queue order, as things then stand (R143). `passed` names the entries already passed. -/
def State.tryFills (c : Fin 4) : Nat → List Nat → State → Bool × State
  | 0, _, s => (false, s)
  | n + 1, passed, s =>
    match (s.promo.filter (fun e => !passed.contains e)).find? (fun e => s.fillable e) with
    | none => (false, s)
    | some e =>
      match s.tryFill c e with
      | (true, t) => (true, t)
      | (false, t) => State.tryFills c n (passed ++ upTo e s.promo) t

/-- The fills of a start event, and the eligible flush when none starts (R143). Each turn passes an entry, and what
can come to stand on the queue in the event is what stood there or a resident's extent. -/
def State.startFillElseFlush (c : Fin 4) (s : State) : State :=
  match State.tryFills c (s.promo.length + s.records.length + 1) [] s with
  | (true, t) => t
  | (false, t) => t.startEligibleFlush c

/-- Whether a start event prefers the fill: no drain, and the last move started was a FLUSH (R142). -/
def State.prefersFill (s : State) : Bool := !s.drain && s.lastKind == .flush

/-- The choice and start of one move in an IDLE context (R142). -/
def State.startMove (c : Fin 4) (s : State) : State :=
  match s.eligibleFlush, s.eligibleFill with
  | none, none => s
  | some _, none => s.startEligibleFlush c
  | none, some _ => s.startFillElseFlush c
  | some _, some _ => if s.prefersFill then s.startFillElseFlush c else s.startEligibleFlush c

/-! ### The advice -/

/-- Whether a context's current order is a disk order, pending or placed (R148). -/
def State.diskOrderOut (s : State) : Bool :=
  allContexts.any (fun c => s.contexts[c].orderPort == some .disk)

/-- The conditions of the advice (R148). -/
def State.adviceDue (s : State) : Bool :=
  !s.diskOrderOut && !s.routes.any (fun t => t.disk) && !s.urgent && !s.drain && s.eligibleFlush.isNone &&
    !(s.settings.profile == .mains && !s.promo.isEmpty)

/-- The advice timer's expiry: the advice is produced, or the timer is re-armed (R148). -/
def State.adviceExpiry (s : State) : State :=
  if s.adviceDue then { s with adviceSent := true, adviceTimer := none }.produceAdvice
  else { s with adviceTimer := none }.armAdvice

end Sys2Proof.Machine
end

