-- ==== Sys2Proof/Machine/Routing.lean ====
section
/-! DEFINITION. Routing (chapter 4): spans, media decisions, absorb, TRIM, pieces, the routed event, and DONE. -/

namespace Sys2Proof.Machine

/-! ### Spans and segments -/

/-- The part of a route in one extent: the sector offsets from `lo` up to but not including `hi` (R1). -/
structure Span where
  extent : Nat
  lo : Nat
  hi : Nat
  deriving DecidableEq, Repr

/-- The spans of a route of first LBA `lba` and `count` sectors: its first extent, and its second where it crosses an
extent boundary (R1). -/
def routeSpans (lba count : Nat) : List Span :=
  let e := lba / 256
  let stop := lba + count
  if (stop - 1) / 256 = e then [{ extent := e, lo := lba % 256, hi := lba % 256 + count }]
  else [{ extent := e, lo := lba % 256, hi := 256 }, { extent := e + 1, lo := 0, hi := stop - 256 * (e + 1) }]

/-- Whether a span touches segment `n` (R1). -/
def Span.touchesSeg (sp : Span) (n : Nat) : Bool := sp.lo < 8 * n + 8 && 8 * n < sp.hi

/-- Whether a span fully covers segment `n` (R1). -/
def Span.coversSeg (sp : Span) (n : Nat) : Bool := sp.lo ≤ 8 * n && 8 * n + 8 ≤ sp.hi

/-- The segments a span touches. -/
def Span.touched (sp : Span) : SegSet := segsWhere sp.touchesSeg

/-- The segments a span fully covers. -/
def Span.full (sp : Span) : SegSet := segsWhere sp.coversSeg

/-! ### Media decisions -/

/-- What a route decides for one extent: the slot of its record (0 without one), the segments routed to each media,
the segments a TRIM changed at the record, the segments an absorb placed, and whether an absorb failed. -/
structure Decision where
  span : Span
  slot : Nat
  flash : SegSet
  disk : SegSet
  none : SegSet
  trimmed : SegSet
  absorbed : SegSet
  failed : Bool
  deriving DecidableEq, Repr

/-- A decision that routes every touched segment to DISK. -/
def Span.allDisk (sp : Span) (failed : Bool) : Decision :=
  { span := sp, slot := 0, flash := 0#32, disk := sp.touched, none := 0#32, trimmed := 0#32, absorbed := 0#32,
    failed := failed }

/-- The segments of a record in the absent condition (R4). -/
def Resident.absent (r : Resident) : SegSet := ~~~(r.valid ||| r.lost)

/-- The media of a READ's segments in a resident extent (R55). -/
def Span.readDecision (sp : Span) (r : Resident) : Decision :=
  { span := sp, slot := r.slot, flash := sp.touched &&& r.valid, none := sp.touched &&& r.lost,
    disk := sp.touched &&& r.absent, trimmed := 0#32, absorbed := 0#32, failed := false }

/-- The segments of a resident extent that a WRITE routes to FLASH: the valid ones, the lost ones fully covered, and
the absent ones fully covered unless the extent is BYPASS (R56). -/
def Span.writeFlash (sp : Span) (r : Resident) (policy : Policy) : SegSet :=
  (sp.touched &&& r.valid) ||| (sp.full &&& r.lost) |||
    (if policy = .bypass then 0#32 else sp.full &&& r.absent)

/-- The media of a WRITE's segments in a resident extent (R56). -/
def Span.writeDecision (sp : Span) (r : Resident) (policy : Policy) : Decision :=
  let flash := sp.writeFlash r policy
  let gone := segLess (sp.touched &&& r.lost) sp.full
  { span := sp, slot := r.slot, flash := flash, none := gone, disk := segLess (segLess sp.touched flash) gone,
    trimmed := 0#32, absorbed := 0#32, failed := false }

/-- A record after a WRITE: the segments routed FLASH become valid and dirty and leave lost (R56). -/
def Resident.written (flash : SegSet) (r : Resident) : Resident :=
  { r with valid := r.valid ||| flash, dirty := r.dirty ||| flash, lost := segLess r.lost flash }

/-- A move in flight after a WRITE to its extent: a FILL's validate set loses the absent segments touched, and the
FILL stops being fresh when the record is no longer bare; a FLUSH's redirtied set gains the work-set segments routed
FLASH (R56, R111, R112, R119). -/
def Context.written (e : Nat) (absentTouched flash : SegSet) (bare : Bool) : Context → Context
  | .fill m =>
    if m.extent = e then
      .fill { m with validate := segLess m.validate absentTouched, fresh := m.fresh && bare }
    else .fill m
  | .flush m =>
    if m.extent = e then .flush { m with redirtied := m.redirtied ||| (flash &&& m.work) } else .flush m
  | .idle => .idle
  | .marking n a => .marking n a

/-- A WRITE's changes at a resident extent (R56, R60). -/
def State.writeResident (sp : Span) (r : Resident) (s : State) : Decision × State :=
  let d := sp.writeDecision r (s.policyOf sp.extent)
  let r' := r.written d.flash
  let t := s.store .tail r'
  (d, { t with contexts :=
          t.contexts.map (Context.written sp.extent (sp.touched &&& r.absent) d.flash r'.isEmpty) })

/-- Whether absorb applies to a non-resident extent (R46, R57). -/
def State.absorbApplies (s : State) (e : Nat) : Bool :=
  (s.spindle != .up && s.policyOf e != .bypass) || (s.policyOf e == .pin && s.pinRoom)

/-- The record an absorb creates (R58). -/
def State.absorbedRecord (e slot : Nat) (full : SegSet) (s : State) : Resident :=
  { extent := e, slot := slot, state := .resident, valid := full, dirty := full, lost := 0#32,
    pinned := s.pinAtCreation e, heat := s.inheritedHeat e, classified := s.policyOf e, retries := 0,
    stuck := false, drainMark := false, owed := .absent }

/-- A WRITE to a non-resident extent: absorbed where absorb applies, a segment is fully covered and a slot can be
had; wholly to DISK otherwise (R57 to R59). -/
def State.writeAbsent (excluded : List Nat) (sp : Span) (s : State) : Decision × State :=
  if sp.full = 0#32 ∨ s.absorbApplies sp.extent = false then (sp.allDisk false, s)
  else
    match s.absorbSlot excluded with
    | (none, t) => (sp.allDisk true, t)
    | (some n, t) =>
      ({ span := sp, slot := n, flash := sp.full, disk := segLess sp.touched sp.full, none := 0#32,
         trimmed := 0#32, absorbed := sp.full, failed := false },
        (t.unwatch sp.extent).enter (t.absorbedRecord sp.extent n sp.full))

/-- A record after a TRIM: the fully covered segments leave valid, dirty and lost (R61). -/
def Resident.trim (full : SegSet) (r : Resident) : Resident :=
  { r with valid := segLess r.valid full, dirty := segLess r.dirty full, lost := segLess r.lost full }

/-- A FILL in flight after a TRIM of its extent: the fully covered segments leave its validate set (R61). -/
def Context.trimmed (e : Nat) (full : SegSet) : Context → Context
  | .fill m => if m.extent = e then .fill { m with validate := segLess m.validate full } else .fill m
  | .flush m => .flush m
  | .idle => .idle
  | .marking n a => .marking n a

/-- A TRIM's decision: no media, and the segments that leave valid or lost (R61, R63). -/
def Span.trimDecision (sp : Span) (slot : Nat) (trimmed : SegSet) : Decision :=
  { span := sp, slot := slot, flash := 0#32, disk := 0#32, none := 0#32, trimmed := trimmed, absorbed := 0#32,
    failed := false }

/-- A TRIM's changes at an extent (R61, R62). -/
def State.trimExtent (sp : Span) (s : State) : Decision × State :=
  match s.residentOf sp.extent with
  | none =>
    (sp.trimDecision 0 0#32,
      if sp.full = SegSet.all ∧ (s.watchOf sp.extent).isSome then (s.unwatch sp.extent).unqueue sp.extent else s)
  | some r =>
    let t := s.store .tail (r.trim sp.full)
    (sp.trimDecision r.slot (sp.full &&& (r.valid ||| r.lost)),
      { t with contexts := t.contexts.map (Context.trimmed sp.extent sp.full) })

/-- The decision for one span, with its changes (R53, part 3). -/
def State.decideSpan (kind : RouteKind) (excluded : List Nat) (sp : Span) (s : State) : Decision × State :=
  match kind with
  | .read =>
    match s.residentOf sp.extent with
    | some r => (sp.readDecision r, s)
    | none => (sp.allDisk false, s)
  | .write =>
    match s.residentOf sp.extent with
    | some r => s.writeResident sp r
    | none => s.writeAbsent excluded sp
  | .trim => s.trimExtent sp

/-- The decisions of a route's spans, first extent first. -/
def State.decideSpans (kind : RouteKind) (excluded : List Nat) : List Span → State → List Decision × State
  | [], s => ([], s)
  | sp :: sps, s =>
    let (d, t) := s.decideSpan kind excluded sp
    let (ds, u) := State.decideSpans kind excluded sps t
    (d :: ds, u)

/-! ### Pieces -/

/-- The media of a touched segment under a decision. -/
def Decision.mediaOf (d : Decision) (n : Nat) : Media :=
  if d.flash.getLsbD n then .flash d.slot else if d.none.getLsbD n then .none else .disk

/-- The sectors of a span in one segment, as a piece (R64). -/
def Decision.segPiece (d : Decision) (n : Nat) : Piece :=
  { media := d.mediaOf n
    first := 256 * d.span.extent + max d.span.lo (8 * n)
    count := min d.span.hi (8 * n + 8) - max d.span.lo (8 * n) }

/-- The pieces of one span's segments, one a segment, in LBA order. -/
def Decision.segPieces (d : Decision) : List Piece :=
  ((List.range 32).filter (fun n => d.span.touchesSeg n)).map d.segPiece

/-- A segment's sectors before the pieces that follow: they join the next piece when it has the same media and, for
FLASH, the same slot (R64). -/
def joinPiece (p : Piece) : List Piece → List Piece
  | [] => [p]
  | q :: qs => if p.media = q.media then { p with count := p.count + q.count } :: qs else p :: q :: qs

/-- The pieces of a READ or WRITE answer, in LBA order (R64). -/
def answerPieces (ds : List Decision) : List Piece := (ds.flatMap Decision.segPieces).foldr joinPiece []

/-- Whether a piece is a FLASH piece. -/
def Piece.isFlash (p : Piece) : Bool :=
  match p.media with
  | .flash _ => true
  | .disk => false
  | .none => false

/-- The sectors of the FLASH pieces. -/
def flashSectors (ps : List Piece) : Nat := ((ps.filter (fun p => p.isFlash)).map (·.count)).sum

/-- The sectors of the DISK pieces. -/
def diskSectors (ps : List Piece) : Nat := ((ps.filter (fun p => p.media = .disk)).map (·.count)).sum

/-! ### The routed event -/

/-- Whether a READ's answer will hold a DISK piece, from the conditions as they stand (R22). -/
def State.readNeedsDisk (spans : List Span) (s : State) : Bool :=
  spans.any fun sp =>
    match s.residentOf sp.extent with
    | some r => decide (sp.touched &&& r.absent ≠ 0#32)
    | none => true

/-- Parts 1 and 2 of a routed READ or WRITE: classification, weight, and the examination of each touched extent
(R53). -/
def State.weighRoute (q : Parked) (s : State) : State :=
  let spans := routeSpans q.lba q.count
  let (sequential, t) := s.classify q.lba q.count
  let w := t.routeWeight q.kind sequential (t.readNeedsDisk spans)
  spans.foldl (fun u sp => u.weighExtent w sp.extent) t

/-- Parts 1 and 2 of a routed event: a TRIM catches up each touched extent without weight (R53). -/
def State.examineRoute (q : Parked) (s : State) : State :=
  match q.kind with
  | .read => s.weighRoute q
  | .write => s.weighRoute q
  | .trim => (routeSpans q.lba q.count).foldl (fun u sp => u.examine 0 sp.extent) s

/-- A TRIM's mark for an extent, with the segments that left valid or lost in this route (R63). -/
def State.trimMark (s : State) (d : Decision) : State :=
  if d.trimmed = 0#32 then s else s.place .flash (.trimMark d.slot d.trimmed)

/-- Part 4 of a routed TRIM: its marks, first extent first (R63), and then the retirements of the records it emptied, in
ascending slot order (R101). DEDUCED, log entry 19: both marks come before the first retirement. -/
def State.endTrim (ds : List Decision) (s : State) : State :=
  (ds.foldl State.trimMark s).retireEmpties (ds.map (·.span.extent))

/-- The Route Table entry of a route (R66). -/
def routeEntry (q : Parked) (ds : List Decision) : RouteEntry :=
  { tag := q.tag, kind := q.kind
    first := (ds[0]?.map (·.span.extent)).getD 0
    firstFlash := if q.kind = .trim then 0#32 else (ds[0]?.map (·.flash)).getD 0#32
    second := ds[1]?.map fun d => (d.span.extent, if q.kind = .trim then 0#32 else d.flash)
    disk := q.kind != .trim && ds.any (fun d => d.disk != 0#32) }

/-- The counters of a routed route, EVICTIONS apart (R71). -/
def Stats.routed (kind : RouteKind) (ps : List Piece) (absorbed : Nat) (forced : Bool) (c : Stats) : Stats :=
  { c with
    routes := addSat c.routes 1
    readFlash := if kind = .read then addSat c.readFlash (flashSectors ps) else c.readFlash
    readDisk := if kind = .read then addSat c.readDisk (diskSectors ps) else c.readDisk
    writeFlash := if kind = .write then addSat c.writeFlash (flashSectors ps) else c.writeFlash
    writeDisk := if kind = .write then addSat c.writeDisk (diskSectors ps) else c.writeDisk
    absorbed := addSat c.absorbed absorbed
    forcedWakes := if forced then addSat c.forcedWakes 1 else c.forcedWakes }

/-- The pieces of a route's answer; a TRIM has none (R64). -/
def routePieces (kind : RouteKind) (ds : List Decision) : List Piece :=
  if kind = .trim then [] else answerPieces ds

/-- The answer's forced_wake: an absorb failed with the spindle not UP (R59). -/
def State.forcedWake (ds : List Decision) (s : State) : Bool := s.spindle != .up && ds.any (fun d => d.failed)

/-- Part 3 of a routed event: every span decided, with its changes (R53). -/
def State.decideRoute (q : Parked) (s : State) : List Decision × State :=
  let spans := routeSpans q.lba q.count
  s.decideSpans q.kind (spans.map (·.extent)) spans

/-- Parts 4 to 6 of a routed event: marks and retirements, the Route Table entry, the answer, the counters, and the
re-arming of the advice timer by an answer with a DISK piece (R53, R147). -/
def State.recordRoute (q : Parked) (ds : List Decision) (s : State) : State :=
  let t := if q.kind = .trim then s.endTrim ds else s
  let entry := routeEntry q ds
  let pieces := routePieces q.kind ds
  let forced := t.forcedWake ds
  let u := { t with routes := insertBy (·.tag) entry t.routes }.place .front (.routeAnswer .ok q.tag forced pieces)
  let v := { u with stats := u.stats.routed q.kind pieces ((ds.map (fun d => segCount d.absorbed)).sum) forced }
  if entry.disk then v.armAdvice else v

/-- A route is routed, in one event (R53). -/
def State.routed (q : Parked) (s : State) : State :=
  let (ds, t) := (s.examineRoute q).decideRoute q
  (t.recordRoute q ds).finish

/-! ### ROUTE -/

/-- The kind of a route by its code, none for an unknown code (R177). -/
def routeKindOf : Nat → Option RouteKind
  | 0 => some .read
  | 1 => some .write
  | 2 => some .trim
  | _ => none

/-- Whether a first LBA and a sector count are those of a route, whose extents R1 then gives (R1; R50, test 2). -/
def soundRange (lba count : Nat) : Bool := 1 ≤ count && count ≤ 256 && lba + count - 1 ≤ Config.maxLba

/-- The route a ROUTE's fields name, none where a field is out of range (R50, test 2). -/
def validRoute (tag kind lba count : Nat) : Option Parked :=
  match routeKindOf kind with
  | none => none
  | some k =>
    if tag < Config.tagCount && soundRange lba count then
      some { tag := tag, kind := k, lba := lba, count := count }
    else none

/-- Whether a tag is in the Route Table or the Park List (R17, R50). -/
def State.tagInUse (s : State) (tag : Nat) : Bool :=
  s.routes.any (fun t => t.tag == tag) || s.parked.any (fun q => q.tag == tag)

/-- Whether a route touches an extent that meets the parking condition (R51). -/
def State.routeParks (s : State) (q : Parked) : Bool :=
  (routeSpans q.lba q.count).any fun sp => s.parks sp.extent

/-- A ROUTE's refusal: its answer alone (R50). -/
def State.refuseRoute (code : Code) (tag : Nat) (s : State) : State :=
  s.place .front (.routeAnswer code tag false [])

/-- What taking a ROUTE does: refused, parked, answered BUSY, or routed (R50, R51). -/
def State.takeRoute (tag kind lba count : Nat) (s : State) : State :=
  if !s.isServing then s.refuseRoute .notReady tag
  else
    match validRoute tag kind lba count with
    | none => s.refuseRoute .badValue tag
    | some q =>
      if s.tagInUse tag then s.refuseRoute .tagInUse tag
      else if s.routeParks q then
        if s.parked.length < Config.parkDepth then { s with parked := s.parked ++ [q] }
        else s.refuseRoute .busy tag
      else s.routed q

/-! ### DONE -/

/-- A DONE FAILED of a WRITE at one extent: the segments of its flash set still valid are lost (R69). -/
def State.failWrite (e : Nat) (flash : SegSet) (s : State) : State :=
  match s.residentOf e with
  | none => s
  | some r =>
    let gone := flash &&& r.valid
    if gone = 0#32 then s else (s.store .tail (r.lose gone)).markLost r.slot gone

/-- A DONE FAILED of a WRITE at its extents, first extent first (R69). -/
def State.failEntry (t : RouteEntry) (s : State) : State :=
  let u := s.failWrite t.first t.firstFlash
  match t.second with
  | none => u
  | some (e, a) => u.failWrite e a

/-- The extents a Route Table entry touches. -/
def RouteEntry.extents (t : RouteEntry) : List Nat :=
  match t.second with
  | none => [t.first]
  | some (e, _) => [t.first, e]

/-- A Route Table entry ends: the losses of a failed WRITE, the entry's removal, the retirements its holds kept
waiting, and the re-arming of the advice timer by an entry with the disk flag (R68 to R70, R147). -/
def State.endRoute (t : RouteEntry) (failed : Bool) (s : State) : State :=
  let u := if failed && t.kind == .write then s.failEntry t else s
  let v := { u with routes := u.routes.filter (fun x => x.tag ≠ t.tag) }
  let w := v.retireEmpties t.extents
  (if t.disk then w.armAdvice else w).finish

/-- What taking a DONE does (R67). -/
def State.takeDone (tag outcome : Nat) (s : State) : State :=
  if !s.isServing then s.place .front (.doneAnswer .notReady tag)
  else if ¬(tag < Config.tagCount ∧ outcome ≤ 1) then s.place .front (.doneAnswer .badValue tag)
  else
    match s.routes.find? (fun t => t.tag == tag) with
    | none => s.place .front (.doneAnswer .unknownTag tag)
    | some t => (s.place .front (.doneAnswer .ok tag)).endRoute t (outcome == 1)

end Sys2Proof.Machine
end

