-- ==== Sys2Proof/Machine/Ports.lean ====
section
/-! DEFINITION. The Port Interface (chapter 10): the map arbiter, the taking of a request, and the placing of owed
records at a read. -/

namespace Sys2Proof.Machine

/-! ### Head requests and the arbiter -/

/-- A port's head request (R172). -/
inductive Head where
  | parked (q : Parked)
  | entry (e : FifoEntry)
  deriving DecidableEq, Repr

/-- The oldest re-admissible parked route (R52). -/
def State.readmissible (s : State) : Option Parked := s.parked.find? (fun q => !s.routeParks q)

/-- The head request of a port (R52, R172). -/
def State.headOf (s : State) (p : Port) : Option Head :=
  match (if p = .front then s.readmissible else none) with
  | some q => some (.parked q)
  | none => ((s.link p).fifo.head?).map Head.entry

/-- Whether a range of sectors has a first and a second extent, both resident (R1, R54). -/
def State.bothResident (lba count : Nat) (s : State) : Bool :=
  decide ((routeSpans lba count).length = 2) &&
    (routeSpans lba count).all fun sp => (s.residentOf sp.extent).isSome

/-- The flash places a route needs, by its kind and sectors alone: 4 for a TRIM of two resident extents, otherwise 2
(R54, R173). -/
def State.routeNeeds (kind : Option RouteKind) (lba count : Nat) (s : State) : Nat :=
  if kind = some .trim ∧ s.bothResident lba count = true then 4 else 2

/-- The flash places the front port's head request needs (R54, R173). A ROUTE whose other fields will refuse it needs
what any route of its kind and sectors needs; one without sound sectors has no extents by R1 and needs 2 (log entry
17). DESIGN CHOICE: a malformed entry needs the 2 of any front-port request, which R173 leaves open (log entry 23). -/
def State.frontNeeds (s : State) (h : Head) : Nat :=
  match h with
  | .parked q => s.routeNeeds (some q.kind) q.lba q.count
  | .entry (.malformed _) => 2
  | .entry (.request ws) =>
    match decodeRequest .front ws with
    | some (.route _ kind lba count) => if soundRange lba count then s.routeNeeds (routeKindOf kind) lba count else 2
    | _ => 2

/-- The places of its own queue a flash head request needs: 3 for a REPORT, otherwise 1 (R129, R173). -/
def flashNeeds (h : Head) : Nat :=
  match h with
  | .parked _ => 1
  | .entry (.malformed _) => 1
  | .entry (.request ws) =>
    match decodeRequest .flash ws with
    | some (.report _ _ _ _) => 3
    | _ => 1

/-- The room conditions of a head request (R173). -/
def State.roomFor (s : State) (p : Port) (h : Head) : Bool :=
  match p with
  | .front => s.hasRoom .front 1 && s.hasRoom .flash (s.frontNeeds h)
  | .flash => s.hasRoom .flash (flashNeeds h)
  | .disk => s.hasRoom .disk 1

/-- Whether a port is ready to be taken (R172). -/
def State.ready (s : State) (p : Port) : Bool :=
  match s.headOf p with
  | none => false
  | some h => s.roomFor p h

/-- The port the arbiter takes from: the first ready port from the pointer on (R172). -/
def State.arbiter (s : State) : Option Port :=
  [s.pointer, portAfter s.pointer, portAfter (portAfter s.pointer)].find? (fun p => s.ready p)

/-! ### Taking a request -/

/-- The words of the request the arbiter takes now, if it is a request of port `p` that spells the command `c`
(R172). -/
def State.offered (s : State) (p : Port) (c : Instr) : Option (List Word) :=
  if s.arbiter = some p then
    match s.headOf p with
    | some (.entry (.request ws)) => if decodeRequest p ws = some c then some ws else none
    | _ => none
  else none

/-- The pointer moves to the port after the one taken (R172). -/
def State.advance (p : Port) (s : State) : State := { s with pointer := portAfter p }

/-- The taking of the request of port `p` that spells the command `c`: it leaves its FIFO, its block acts on it, and
the pointer moves on. While that request is not the one the arbiter takes, it waits and nothing happens (R172, R173). -/
def takeRequest (p : Port) (c : Instr) (act : List Word → State → State) (s : State) :
    Host.Outcome State Fault Refusal :=
  match s.offered p c with
  | some ws => .next ((act ws (s.popFifo p)).advance p)
  | none => .next s

/-- An answer: the request's words after its first, as sent, and the values its entry gives (R177). -/
def State.answer (p : Port) (kind : Nat) (code : Code) (ws values : List Word) (s : State) : State :=
  s.place p (.answer kind code (ws.tail ++ values))

/-! ### Owed records at a read -/

/-- The lowest Claim Table entry whose grant is owed to a port (R87). -/
def State.owedGrant (p : Port) (s : State) : Option (Fin 8) :=
  allClaims.find? fun i => (s.claims[i].map (·.standing)) == some (.owned p true)

/-- An owed grant is placed (R87). -/
def State.placeGrant (p : Port) (i : Fin 8) (s : State) : State :=
  match s.claims[i] with
  | none => s
  | some c => (s.place p (.claimGranted c.extent)).setClaim i (some { c with standing := .owned p false })

/-- An owed notice is placed, and its record owes nothing (R11). -/
def State.placeNotice (r : Resident) (s : State) : State :=
  match r.owed with
  | .absent => s
  | .stuck => (s.place .front (.stuck r.extent)).setOwed r.extent (fun _ => .absent)
  | .lost a => (s.place .front (.lost r.extent a)).setOwed r.extent (fun _ => .absent)

/-- The front port's first owed record after its grants is placed: DRAINED, then notices in slot order (R151,
R176). -/
def State.placeFrontOwed (s : State) : State :=
  match s.drainedOwed with
  | some n => { s.place .front (.drained n) with drainedOwed := none }
  | none =>
    match s.records.find? (fun r => r.owed != .absent) with
    | some r => s.placeNotice r
    | none => s

/-- The flash port's owed records after its grants take the freed place in the order they were produced: one is
placed, and a pending order with an empty set places nothing, completes its move and gives up its turn (R111, R118,
R176). Each turn uses up an owed record. -/
def State.placeFlashOwed : Nat → State → State
  | 0, s => s
  | n + 1, s =>
    match s.flashOwed with
    | [] => s
    | o :: os =>
      let t := { s with flashOwed := os }
      match o with
      | .retire slot => t.place .flash (.retireSlot slot)
      | .mark c =>
        match t.contexts[c] with
        | .marking slot a => (t.place .flash (.cleanMark slot a)).setContext c .idle
        | .idle => State.placeFlashOwed n t
        | .fill _ => State.placeFlashOwed n t
        | .flush _ => State.placeFlashOwed n t
      | .order c =>
        if t.orderEmpty c then
          let u := (t.placeOrder c).finish
          if u.hasRoom .flash 1 then State.placeFlashOwed n u else u
        else t.placeOrder c

/-- The disk port's owed records after its grants, as for the flash port (R146, R148, R176). -/
def State.placeDiskOwed : Nat → State → State
  | 0, s => s
  | n + 1, s =>
    match s.diskOwed with
    | [] => s
    | o :: os =>
      let t := { s with diskOwed := os }
      match o with
      | .demand r => t.placeDemand r
      | .advice => t.place .disk .spinDownAdvice
      | .order c =>
        if t.orderEmpty c then
          let u := (t.placeOrder c).finish
          if u.hasRoom .disk 1 then State.placeDiskOwed n u else u
        else t.placeOrder c

/-- The place freed by a read goes to the port's first owed record: grants, lowest entry first, then the port's other
owed records in their order (R176). -/
def State.placeOwed (p : Port) (s : State) : State :=
  match s.owedGrant p with
  | some i => s.placeGrant p i
  | none =>
    match p with
    | .front => s.placeFrontOwed
    | .flash => State.placeFlashOwed (s.flashOwed.length + 1) s
    | .disk => State.placeDiskOwed (s.diskOwed.length + 1) s

/-- What the master reads: the head record's words, or the frame of an empty queue (R171). -/
def Link.frame (l : Link) : List Word :=
  match l.out with
  | [] => emptyFrame
  | r :: _ => r.words

/-- A completed read of a port's outbound queue: the head leaves it (R171). -/
def State.readOut (p : Port) (s : State) : State :=
  s.setLink p { s.link p with out := (s.link p).out.tail, driven := (s.link p).frame }

end Sys2Proof.Machine
end

