-- ==== Sys2Proof/Machine/LinkCommands.lean ====
section
/-! DEFINITION. The meanings of POWER_ON, INBOUND_FRAME, RECORD_READ and MALFORMED_ENTRY. -/

namespace Sys2Proof.Machine

/-- The state of power-on, with the commands that are waiting kept (R158). -/
def State.poweredOn (s : State) : State := { State.reset with pending := s.pending }

/-- POWER_ON: every block takes its initial state (R158). -/
def execPowerOn (s : State) : Host.Outcome State Fault Refusal := .next s.poweredOn

/-- The FIFO entry a frame makes: its words, or a malformed entry (R169). -/
def frameEntry (p : Port) (halves : List Half) : FifoEntry :=
  match frameWords p halves with
  | some ws => .request ws
  | none => .malformed (frameKind halves)

/-- A frame joins the tail of its port's FIFO, or is discarded whole when the FIFO holds 4 entries (R170). -/
def State.receive (p : Port) (halves : List Half) (s : State) : State :=
  if s.readyLine p then
    s.setLink p { s.link p with fifo := (s.link p).fifo ++ [frameEntry p halves] }
  else s

/-- INBOUND_FRAME (R169, R170). -/
def execInboundFrame (p : Port) (halves : List Half) (s : State) : Host.Outcome State Fault Refusal :=
  .next (s.receive p halves)

/-- A read of a port's outbound queue: an empty queue drives the empty frame and frees nothing; otherwise the head
leaves and the freed place goes to the port's first owed record (R171, R176). -/
def State.recordRead (p : Port) (s : State) : State :=
  if (s.link p).out.isEmpty then s.readOut p else (s.readOut p).placeOwed p

/-- RECORD_READ (R171). -/
def execRecordRead (p : Port) (s : State) : Host.Outcome State Fault Refusal := .next (s.recordRead p)

/-- The answer to an entry that no request row names: BAD_FRAME for a malformed entry (R169), and BAD_VALUE for a
well-formed SET whose item is unknown (R178, test 1). -/
def answerUnnamed (e : FifoEntry) : Option Outbound :=
  match e with
  | .malformed kind => some (.badFrame kind)
  | .request [] => none
  | .request (w :: ws) =>
    if kindOf w = 0x07 then some (.answer 0x07 .badValue (word (field w 7 0) :: ws)) else none

/-- The answer to the entry the arbiter takes now from port `p`, where no request row names that entry. -/
def State.unnamedOffer (s : State) (p : Port) : Option Outbound :=
  if s.arbiter = some p then
    match s.headOf p with
    | some (.entry (.malformed kind)) => answerUnnamed (.malformed kind)
    | some (.entry (.request ws)) => if (decodeRequest p ws).isNone then answerUnnamed (.request ws) else none
    | _ => none
  else none

/-- MALFORMED_ENTRY: the arbiter takes the entry, answers it, and changes nothing else (R169). -/
def execMalformedEntry (p : Port) (s : State) : Host.Outcome State Fault Refusal :=
  match s.unnamedOffer p with
  | some r => .next (((s.popFifo p).place p r).advance p)
  | none => .next s

end Sys2Proof.Machine
end

