-- ==== Sys2Proof/Machine/BringUpCommands.lean ====
section
/-! DEFINITION. The meanings of RESTART, GEOMETRY, ADOPT and ADOPT_END (chapter 9). -/

namespace Sys2Proof.Machine

/-- RESTART: the values of power-on, and its own OK answer, the only record in any queue (R159). -/
def execRestart (s : State) : Host.Outcome State Fault Refusal :=
  match s.offered .front .restart with
  | some _ => .next (s.poweredOn.place .front (.answer 0x0A .ok []))
  | none => .next s

/-- The S-dependent settings' defaults (R161). -/
def Sizes.ofSlots (n : Nat) : Sizes :=
  { slots := n, pinLimit := n / 4, absorbReserve := n / 16, dirtyHigh := n / 4, dirtyLow := n / 8 }

/-- What taking a GEOMETRY does (R160). -/
def State.takeGeometry (slots : Nat) (ws : List Word) (s : State) : State :=
  if s.service ≠ .cold then s.answer .flash 0x0B .wrongState ws []
  else if slots < Config.minSlots then s.answer .flash 0x0B .badValue ws []
  else
    let n := min slots Config.maxSlots
    State.answer .flash 0x0B .ok ws [word n]
      { s with sizes := some (Sizes.ofSlots n), free := List.range n, cursor := 0, service := .adopting }

/-- GEOMETRY (R160). -/
def execGeometry (slots : Nat) (s : State) : Host.Outcome State Fault Refusal :=
  takeRequest .flash (.geometry slots) (fun ws t => t.takeGeometry slots ws) s

/-- The fields an ADOPT must have (R162, test 2). -/
def State.adoptable (e slot : Nat) (valid dirty lost : SegSet) (s : State) : Bool :=
  decide (e ≤ Config.maxExtent) && decide (slot < s.slots) && segLess dirty valid == 0#32 &&
    valid &&& lost == 0#32 && !(valid == 0#32 && lost == 0#32)

/-- The record an ADOPT creates (R163). -/
def State.adoptedRecord (e slot : Nat) (valid dirty lost : SegSet) (s : State) : Resident :=
  { extent := e, slot := slot, state := .resident, valid := valid, dirty := dirty, lost := lost, pinned := false,
    heat := { heat := s.settings.t1, band := .b1, settle := 0, stamp := s.epoch }, classified := s.policyOf e,
    retries := 0, stuck := false, drainMark := false, owed := .absent }

/-- What taking an ADOPT does (R162, R163). -/
def State.takeAdopt (e slot : Nat) (valid dirty lost : SegSet) (ws : List Word) (s : State) : State :=
  if s.service ≠ .adopting then s.answer .flash 0x0C .wrongState ws []
  else if !s.adoptable e slot valid dirty lost then s.answer .flash 0x0C .badValue ws []
  else if (s.residentOf e).isSome || (s.residentIn slot).isSome then s.answer .flash 0x0C .duplicate ws []
  else ((s.takeSlot slot).enter (s.adoptedRecord e slot valid dirty lost)).answer .flash 0x0C .ok ws []

/-- ADOPT (R162, R163). -/
def execAdopt (extent slot : Nat) (valid dirty lost : SegSet) (s : State) : Host.Outcome State Fault Refusal :=
  takeRequest .flash (.adopt extent slot valid dirty lost)
    (fun ws t => t.takeAdopt extent slot valid dirty lost ws) s

/-- The beginning of service: the epoch timer, urgent mode, an UP period, and the demands, in order (R164). -/
def State.beginService (s : State) : State :=
  let t := { s with epochTimer := some s.settings.epochLen }.compareUrgent
  (if t.spindle = .up then t.beginUp else t).demandAll

/-- What taking an ADOPT_END does (R164). -/
def State.takeAdoptEnd (ws : List Word) (s : State) : State :=
  if s.service ≠ .adopting then s.answer .flash 0x0D .wrongState ws []
  else (State.answer .flash 0x0D .ok ws [word s.records.length] { s with service := .serving }).beginService

/-- ADOPT_END (R164). -/
def execAdoptEnd (s : State) : Host.Outcome State Fault Refusal :=
  takeRequest .flash .adoptEnd (fun ws t => t.takeAdoptEnd ws) s

end Sys2Proof.Machine
end

