-- ==== Sys2Proof/Machine/ClaimCommands.lean ====
section
/-! DEFINITION. The meanings of CLAIM and RELEASE. -/

namespace Sys2Proof.Machine

/-- What taking a CLAIM does (R79, R80). -/
def State.takeClaim (p : Port) (e : Nat) (ws : List Word) (s : State) : State :=
  if !s.isServing then s.answer p 0x03 .notReady ws []
  else if Config.maxExtent < e then s.answer p 0x03 .badValue ws []
  else
    let (code, t) := s.claimFor p e
    t.answer p 0x03 code ws []

/-- CLAIM (R79, R80). -/
def execClaim (p : Port) (extent : Nat) (s : State) : Host.Outcome State Fault Refusal :=
  takeRequest p (.claim p extent) (fun ws t => t.takeClaim p extent ws) s

/-- The grant that a hand-over makes in its own event, when its extent is quiescent for the next port (R82, R83). -/
def State.grantNext (e : Nat) (s : State) : State :=
  match s.claimIndex e with
  | none => s
  | some i => s.grantEntry i

/-- What taking a RELEASE does (R82, R83). -/
def State.takeRelease (p : Port) (e : Nat) (ws : List Word) (s : State) : State :=
  if !s.isServing then s.answer p 0x04 .notReady ws []
  else if Config.maxExtent < e then s.answer p 0x04 .badValue ws []
  else
    let (code, t) := s.releaseFor p e
    let u := t.answer p 0x04 code ws []
    if code = .ok then u.grantNext e else u

/-- RELEASE (R82, R83). -/
def execRelease (p : Port) (extent : Nat) (s : State) : Host.Outcome State Fault Refusal :=
  takeRequest p (.release p extent) (fun ws t => t.takeRelease p extent ws) s

end Sys2Proof.Machine
end

