-- ==== Sys2Proof/Machine/MoveCommands.lean ====
section
/-! DEFINITION. The meanings of REPORT, UNFENCE and ORDER_TIMER_EXPIRY. -/

namespace Sys2Proof.Machine

/-- Whether a status is one of a port's: OK and MEDIA_ERROR, and on the disk port NOT_SPINNING (R127). -/
def validStatus (p : Port) (status : Nat) : Bool := decide (status ≤ 1) || (p == .disk && status == 2)

/-- A REPORT's answer: the ticket in word 1, then the request's word 1 as sent (R177). -/
def State.answerReport (p : Port) (code : Code) (ticket : Nat) (ws : List Word) (s : State) : State :=
  s.place p (.answer 0x0E code (word ticket :: ws.tail))

/-- The fence part of a REPORT: on the flash port, a fence bearing its ticket is lifted (R127). -/
def State.fencePart (p : Port) (ticket : Nat) (s : State) : State :=
  if p = .flash then s.liftFenceOf ticket else s

/-- A current disk REPORT re-arms the advice timer (R127, R147). -/
def State.reportArms (p : Port) (s : State) : State := if p = .disk then s.armAdvice else s

/-- What taking a REPORT does: its answer, its fence part, and its context part when it is current (R127). -/
def State.takeReport (p : Port) (ticket context status : Nat) (ws : List Word) (s : State) : State :=
  if !s.isServing then s.answerReport p .notReady ticket ws
  else if h : context < 4 then
    if validStatus p status then
      let c : Fin 4 := ⟨context, h⟩
      if s.isCurrent p c ticket then
        ((((s.answerReport p .ok ticket ws).fencePart p ticket).reportArms p).actOnReport c status).finish
      else (s.answerReport p .stale ticket ws).fencePart p ticket
    else s.answerReport p .badValue ticket ws
  else s.answerReport p .badValue ticket ws

/-- REPORT (R127). -/
def execReport (p : Port) (ticket context status : Nat) (s : State) : Host.Outcome State Fault Refusal :=
  takeRequest p (.report p ticket context status) (fun ws t => t.takeReport p ticket context status ws) s

/-- What taking an UNFENCE does (R105). DEDUCED, log entry 5: the slot that its OK answer carries is the request's word 1 as
sent, given once, with no value word after it. -/
def State.takeUnfence (slot : Nat) (ws : List Word) (s : State) : State :=
  if !s.isServing then s.answer .flash 0x0F .notReady ws []
  else if s.slots ≤ slot then s.answer .flash 0x0F .badValue ws []
  else (s.answer .flash 0x0F .ok ws []).unfenceSlot slot

/-- UNFENCE (R105). -/
def execUnfence (slot : Nat) (s : State) : Host.Outcome State Fault Refusal :=
  takeRequest .flash (.unfence slot) (fun ws t => t.takeUnfence slot ws) s

/-- ORDER_TIMER_EXPIRY: a running order timer expires and the move takes its timeout outcome; a stopped timer does
not expire (R128). -/
def execOrderTimerExpiry (context : Fin 4) (s : State) : Host.Outcome State Fault Refusal :=
  match s.contexts[context].placed with
  | none => .next s
  | some _ => .next (s.actOnTimeout context).finish

end Sys2Proof.Machine
end

