-- ==== Sys2Proof/Machine/SettingCommands.lean ====
section
/-! DEFINITION. The meanings of the twenty SET rows (R178 to R180). Each writes the clamped value in its event and
answers it. -/

namespace Sys2Proof.Machine

/-- A SET answer: window number and item in word 1, then four words (R177, R184). -/
def State.answerSet (code : Code) (n item : Nat) (values : List Word) (s : State) : State :=
  s.place .front (.answer 0x07 code (word (n * 2 ^ 8 + item) :: values))

/-- The answer of a SET of one number: the value in force, then the request's words 2 to 4 as sent. -/
def State.answerValue (item v : Nat) (ws : List Word) (s : State) : State :=
  s.answerSet .ok 0 item (word v :: ws.drop 2)

/-- A refused SET's answer: the request's words as sent. -/
def State.refuseSet (code : Code) (n item : Nat) (ws : List Word) (s : State) : State :=
  s.answerSet code n item ws.tail

/-- A change of the settings. -/
def State.withSettings (g : Settings) (s : State) : State := { s with settings := g }

/-- A change of the S-dependent settings. -/
def State.withSizes (z : Sizes) (s : State) : State := { s with sizes := some z }

/-- The FILL demand condition tested in a SET event, in SERVING (R137, R180). -/
def State.retestFill (s : State) : State := if s.isServing then s.demandFor .fill else s

/-- Urgent mode compared in a SET event, with the DIRTY_CEILING demand it can change, in SERVING (R136, R180). -/
def State.retestUrgent (s : State) : State :=
  if s.isServing then (s.compareUrgent).demandFor .dirtyCeiling else s

/-- SET EPOCH_LEN: read at the next epoch expiry (R34). -/
def execSetEpochLen (v : Nat) (s : State) : Host.Outcome State Fault Refusal :=
  takeRequest .front (.setEpochLen v) (fun ws t =>
    (t.withSettings { t.settings with epochLen := clamp 0 1023 v }).answerValue 0x01 (clamp 0 1023 v) ws) s

/-- SET DECAY (R40). -/
def execSetDecay (v : Nat) (s : State) : Host.Outcome State Fault Refusal :=
  takeRequest .front (.setDecay v) (fun ws t =>
    (t.withSettings { t.settings with decay := clamp 1 8 v }).answerValue 0x02 (clamp 1 8 v) ws) s

/-- What taking a SET BANDS does: the thresholds, each clamped first, must be strictly increasing (R178, test 4). -/
def State.takeBands (t1 t2 t3 : Nat) (ws : List Word) (s : State) : State :=
  let a := clamp 1 65535 t1
  let b := clamp 1 65535 t2
  let c := clamp 1 65535 t3
  if a < b ∧ b < c then
    (s.withSettings { s.settings with t1 := a, t2 := b, t3 := c }).answerSet .ok 0 0x03
      (word a :: word b :: word c :: ws.drop 4)
  else s.refuseSet .badValue 0 0x03 ws

/-- SET BANDS (R178). -/
def execSetBands (t1 t2 t3 : Nat) (s : State) : Host.Outcome State Fault Refusal :=
  takeRequest .front (.setBands t1 t2 t3) (fun ws t => t.takeBands t1 t2 t3 ws) s

/-- SET SETTLE (R40). -/
def execSetSettle (v : Nat) (s : State) : Host.Outcome State Fault Refusal :=
  takeRequest .front (.setSettle v) (fun ws t =>
    (t.withSettings { t.settings with settle := clamp 1 15 v }).answerValue 0x04 (clamp 1 15 v) ws) s

/-- SET PROMOTE_BAND (R40). -/
def execSetPromoteBand (v : Nat) (s : State) : Host.Outcome State Fault Refusal :=
  takeRequest .front (.setPromoteBand v) (fun ws t =>
    (t.withSettings { t.settings with promoteBand := Band.ofRank (clamp 1 3 v) }).answerValue 0x05 (clamp 1 3 v) ws) s

/-- SET W_RREAD (R40). -/
def execSetWRread (v : Nat) (s : State) : Host.Outcome State Fault Refusal :=
  takeRequest .front (.setWRread v) (fun ws t =>
    (t.withSettings { t.settings with wRread := clamp 0 255 v }).answerValue 0x06 (clamp 0 255 v) ws) s

/-- SET W_RWRITE (R40). -/
def execSetWRwrite (v : Nat) (s : State) : Host.Outcome State Fault Refusal :=
  takeRequest .front (.setWRwrite v) (fun ws t =>
    (t.withSettings { t.settings with wRwrite := clamp 0 255 v }).answerValue 0x07 (clamp 0 255 v) ws) s

/-- SET W_SREAD (R40). -/
def execSetWSread (v : Nat) (s : State) : Host.Outcome State Fault Refusal :=
  takeRequest .front (.setWSread v) (fun ws t =>
    (t.withSettings { t.settings with wSread := clamp 0 255 v }).answerValue 0x08 (clamp 0 255 v) ws) s

/-- SET W_SWRITE (R40). -/
def execSetWSwrite (v : Nat) (s : State) : Host.Outcome State Fault Refusal :=
  takeRequest .front (.setWSwrite v) (fun ws t =>
    (t.withSettings { t.settings with wSwrite := clamp 0 255 v }).answerValue 0x09 (clamp 0 255 v) ws) s

/-- SET WAKE_BONUS (R40). -/
def execSetWakeBonus (v : Nat) (s : State) : Host.Outcome State Fault Refusal :=
  takeRequest .front (.setWakeBonus v) (fun ws t =>
    (t.withSettings { t.settings with wakeBonus := clamp 0 255 v }).answerValue 0x0A (clamp 0 255 v) ws) s

/-- SET SEQ_RUN (R40). -/
def execSetSeqRun (v : Nat) (s : State) : Host.Outcome State Fault Refusal :=
  takeRequest .front (.setSeqRun v) (fun ws t =>
    (t.withSettings { t.settings with seqRun := clamp 64 65535 v }).answerValue 0x0B (clamp 64 65535 v) ws) s

/-- The policy of a code, none outside the four (R41, R184). -/
def policyOfCode : Nat → Option Policy
  | 0 => some .normal
  | 1 => some .pin
  | 2 => some .boost
  | 3 => some .bypass
  | _ => none

/-- What taking a SET WINDOW does: all four fields of window `n` are written, base and mask in their low 24 bits
(R41). -/
def State.takeWindow (n base mask policy : Nat) (enable : Bool) (ws : List Word) (s : State) : State :=
  match policyOfCode policy with
  | none => s.refuseSet .badValue n 0x0C ws
  | some p =>
    if h : n < 8 then
      let x : PolicyWindow :=
        { base := base % 2 ^ 24, mask := mask % 2 ^ 24, policy := p, enable := enable }
      { s with windows := s.windows.set n x h }.answerSet .ok n 0x0C
        [word x.base, word x.mask, word p.value, word (bitOf enable)]
    else s.refuseSet .badValue n 0x0C ws

/-- SET WINDOW (R41). -/
def execSetWindow (n base mask policy : Nat) (enable : Bool) (s : State) : Host.Outcome State Fault Refusal :=
  takeRequest .front (.setWindow n base mask policy enable)
    (fun ws t => t.takeWindow n base mask policy enable ws) s

/-- SET PIN_LIMIT, 0 to S (R48, R179). -/
def execSetPinLimit (v : Nat) (s : State) : Host.Outcome State Fault Refusal :=
  takeRequest .front (.setPinLimit v) (fun ws t =>
    match t.sizes with
    | none => t.refuseSet .wrongState 0 0x0D ws
    | some z => (t.withSizes { z with pinLimit := clamp 0 z.slots v }).answerValue 0x0D (clamp 0 z.slots v) ws) s

/-- SET ABSORB_RESERVE, 0 to floor(S/2) (R100, R179). -/
def execSetAbsorbReserve (v : Nat) (s : State) : Host.Outcome State Fault Refusal :=
  takeRequest .front (.setAbsorbReserve v) (fun ws t =>
    match t.sizes with
    | none => t.refuseSet .wrongState 0 0x0E ws
    | some z =>
      (t.withSizes { z with absorbReserve := clamp 0 (z.slots / 2) v }).answerValue 0x0E
        (clamp 0 (z.slots / 2) v) ws) s

/-- The S-dependent settings after a SET DIRTY_HIGH: 1 to S, with DIRTY_LOW lowered below it (R179). -/
def Sizes.withHigh (z : Sizes) (v : Nat) : Sizes :=
  { z with dirtyHigh := clamp 1 z.slots v, dirtyLow := min z.dirtyLow (clamp 1 z.slots v - 1) }

/-- The S-dependent settings after a SET DIRTY_LOW: 0 to DIRTY_HIGH − 1 (R179). -/
def Sizes.withLow (z : Sizes) (v : Nat) : Sizes := { z with dirtyLow := clamp 0 (z.dirtyHigh - 1) v }

/-- SET DIRTY_HIGH, whose answer carries DIRTY_LOW too (R179, R180). -/
def execSetDirtyHigh (v : Nat) (s : State) : Host.Outcome State Fault Refusal :=
  takeRequest .front (.setDirtyHigh v) (fun ws t =>
    match t.sizes with
    | none => t.refuseSet .wrongState 0 0x0F ws
    | some z =>
      ((t.withSizes (z.withHigh v)).answerSet .ok 0 0x0F
        (word (z.withHigh v).dirtyHigh :: word (z.withHigh v).dirtyLow :: ws.drop 3)).retestUrgent) s

/-- SET DIRTY_LOW (R179, R180). -/
def execSetDirtyLow (v : Nat) (s : State) : Host.Outcome State Fault Refusal :=
  takeRequest .front (.setDirtyLow v) (fun ws t =>
    match t.sizes with
    | none => t.refuseSet .wrongState 0 0x10 ws
    | some z => ((t.withSizes (z.withLow v)).answerValue 0x10 (z.withLow v).dirtyLow ws).retestUrgent) s

/-- SET ORDER_TIMEOUT: read at the next placement (R108). -/
def execSetOrderTimeout (v : Nat) (s : State) : Host.Outcome State Fault Refusal :=
  takeRequest .front (.setOrderTimeout v) (fun ws t =>
    (t.withSettings { t.settings with orderTimeout := clamp 1 255 v }).answerValue 0x11 (clamp 1 255 v) ws) s

/-- The advice timer after a SET ADVICE_DELAY: 0 stops it, another value arms it where it is stopped in an UP period
whose advice has not been sent, and a running period stands (R147). -/
def State.retimeAdvice (s : State) : State :=
  if s.settings.adviceDelay = 0 then { s with adviceTimer := none }
  else if s.adviceTimer.isNone then s.armAdvice else s

/-- SET ADVICE_DELAY (R147). -/
def execSetAdviceDelay (v : Nat) (s : State) : Host.Outcome State Fault Refusal :=
  takeRequest .front (.setAdviceDelay v) (fun ws t =>
    ((t.withSettings { t.settings with adviceDelay := clamp 0 255 v }).retimeAdvice).answerValue 0x12
      (clamp 0 255 v) ws) s

/-- SET FILL_WAKE (R180). -/
def execSetFillWake (v : Nat) (s : State) : Host.Outcome State Fault Refusal :=
  takeRequest .front (.setFillWake v) (fun ws t =>
    ((t.withSettings { t.settings with fillWake := clamp 0 64 v }).answerValue 0x13 (clamp 0 64 v) ws).retestFill) s

/-- The profile of a code, none outside the two (R178, test 3). -/
def profileOfCode : Nat → Option Profile
  | 0 => some .mains
  | 1 => some .battery
  | _ => none

/-- SET PROFILE (R137). -/
def execSetProfile (v : Nat) (s : State) : Host.Outcome State Fault Refusal :=
  takeRequest .front (.setProfile v) (fun ws t =>
    match profileOfCode v with
    | none => t.refuseSet .badValue 0 0x14 ws
    | some p => ((t.withSettings { t.settings with profile := p }).answerValue 0x14 p.value ws).retestFill) s

end Sys2Proof.Machine
end

