-- ==== Sys2Proof/Machine/QueryCommands.lean ====
section
/-! DEFINITION. The meanings of QUERY, QUERY_SUMMARY and STATS. -/

namespace Sys2Proof.Machine

/-- What taking a QUERY does: in SERVING the extent is examined first, and the answer reports it after that (R182). -/
def State.takeQuery (e : Nat) (ws : List Word) (s : State) : State :=
  if Config.maxExtent < e then s.answer .front 0x08 .badValue ws []
  else
    let t := if s.isServing then s.examine 0 e else s
    (t.answer .front 0x08 .ok ws (t.queryWords e)).retestFill

/-- QUERY (R182). -/
def execQuery (extent : Nat) (s : State) : Host.Outcome State Fault Refusal :=
  takeRequest .front (.query extent) (fun ws t => t.takeQuery extent ws) s

/-- QUERY SUMMARY (R183). -/
def execQuerySummary (s : State) : Host.Outcome State Fault Refusal :=
  takeRequest .front .querySummary (fun ws t => t.answer .front 0x08 .ok ws t.summaryWords) s

/-- STATS: the counters as they stand, and with clear set each becomes 0 after it is copied (R181). -/
def execStats (clear : Bool) (s : State) : Host.Outcome State Fault Refusal :=
  takeRequest .front (.stats clear) (fun ws t =>
    let u := t.answer .front 0x09 .ok ws t.stats.words
    if clear then { u with stats := .zero } else u) s

end Sys2Proof.Machine
end

