-- ==== Sys2Proof/Machine/ResetCommands.lean ====
section
/-! DEFINITION. The meanings of the three link resets (R165 to R168). -/

namespace Sys2Proof.Machine

/-- A record after a front link reset: no drain mark and no owed notice (R166). -/
def Resident.forgetFront (r : Resident) : Resident := { r with drainMark := false, owed := .absent }

/-- A front link reset (R165, R166): the link is emptied, every hold ends, the parked routes and the drain go, the
front port leaves the Claim Table, and the ends of holds are carried out. -/
def State.frontReset (s : State) : State :=
  let t := { s.clearLink .front with
    routes := [], parked := [], drain := false, drainedOwed := none
    records := s.records.map Resident.forgetFront }.leaveAllClaims .front
  (t.retireEmpties (t.records.map (·.extent))).finish

/-- FRONT_LINK_RESET (R166). -/
def execFrontLinkReset (s : State) : Host.Outcome State Fault Refusal := .next s.frontReset

/-- Every fence is lifted without RETIRE_SLOT, and its slot enters the free pool (R104, R167). -/
def State.liftFences (s : State) : State :=
  s.fences.foldl (fun t f => t.freeSlot f.slot) { s with fences := [] }

/-- A flash link reset in SERVING (R130, R167). -/
def State.flashResetServing (s : State) : State :=
  let t := { s.clearLink .flash with flashOwed := [], contexts := s.contexts.map Context.dropMark }
  (((t.abortMovesOf .flash .freedSilently).liftFences).leaveAllClaims .flash).finish

/-- A flash link reset in ADOPTING returns the part to COLD; what R167 keeps stands. -/
def State.flashResetAdopting (s : State) : State :=
  { State.reset with
    pending := s.pending, front := s.front, flash := (s.clearLink .flash).flash, disk := s.disk
    pointer := s.pointer, settings := s.settings, windows := s.windows, stats := s.stats, tickets := s.tickets
    spindle := s.spindle, bgWindow := s.bgWindow }

/-- A flash link reset, by service state (R167). -/
def State.flashReset (s : State) : State :=
  match s.service with
  | .serving => s.flashResetServing
  | .adopting => s.flashResetAdopting
  | .cold => s.clearLink .flash

/-- FLASH_LINK_RESET (R167). -/
def execFlashLinkReset (s : State) : Host.Outcome State Fault Refusal := .next s.flashReset

/-- A disk link reset in SERVING (R131, R154, R168): the demand flags are reconsidered with nothing owed. -/
def State.diskResetServing (s : State) : State :=
  let t := { s.clearLink .disk with diskOwed := [] }.abortMovesOf .disk .freed
  let u := { t with spindle := .down, bgWindow := .opened, adviceTimer := none, adviceSent := false }
  ({ u.leaveAllClaims .disk with demands := { dirtyCeiling := false, drain := false, fill := false } }).finish

/-- A disk link reset, by service state (R168). -/
def State.diskReset (s : State) : State :=
  match s.service with
  | .serving => s.diskResetServing
  | .adopting => { s.clearLink .disk with spindle := .down, bgWindow := .opened }
  | .cold => { s.clearLink .disk with spindle := .down, bgWindow := .opened }

/-- DISK_LINK_RESET (R168). -/
def execDiskLinkReset (s : State) : Host.Outcome State Fault Refusal := .next s.diskReset

end Sys2Proof.Machine
end

