-- ==== Sys2Proof/Machine/RouteCommands.lean ====
section
/-! DEFINITION. The meanings of ROUTE, PARKED_ROUTE_READMIT and DONE. -/

namespace Sys2Proof.Machine

/-- ROUTE (R50 to R66). -/
def execRoute (tag kind lba count : Nat) (s : State) : Host.Outcome State Fault Refusal :=
  takeRequest .front (.route tag kind lba count) (fun _ t => t.takeRoute tag kind lba count) s

/-- The parked route the arbiter takes now (R52, R172). -/
def State.readmitted (s : State) : Option Parked :=
  if s.arbiter = some .front then s.readmissible else none

/-- PARKED_ROUTE_READMIT: the oldest re-admissible parked route leaves the Park List and is routed (R52). -/
def execParkedRouteReadmit (s : State) : Host.Outcome State Fault Refusal :=
  match s.readmitted with
  | some q => .next ((State.routed q { s with parked := s.parked.erase q }).advance .front)
  | none => .next s

/-- DONE (R67 to R70). -/
def execDone (tag outcome : Nat) (s : State) : Host.Outcome State Fault Refusal :=
  takeRequest .front (.done tag outcome) (fun _ t => t.takeDone tag outcome) s

end Sys2Proof.Machine
end

