-- ==== Sys2Proof/Machine/SchedulerCommands.lean ====
section
/-! DEFINITION. The meanings of FLUSH_ALL, RETRY_STUCK, SPINDLE, WINDOW, START_EVENT and the expiries of the epoch and
advice timers. -/

namespace Sys2Proof.Machine

/-- Every dirty resident is marked (R10, R150). -/
def State.markDirty (s : State) : State :=
  { s with records := s.records.map fun r => if r.dirty = 0#32 then r else { r with drainMark := true } }

/-- The number of dirty residents. -/
def State.dirtyResidents (s : State) : Nat := s.records.countP (fun r => r.dirty != 0#32)

/-- What taking a FLUSH_ALL does: the marks, the answer with their number, an active drain, and its end in the same
event where nothing is unflushed (R150, R151). -/
def State.takeFlushAll (ws : List Word) (s : State) : State :=
  if !s.isServing then s.answer .front 0x05 .notReady ws []
  else if s.drain || s.drainedOwed.isSome then s.answer .front 0x05 .busy ws []
  else
    let t := (s.markDirty).answer .front 0x05 .ok ws [word s.dirtyResidents]
    ({ t with drain := true }.endDrain).demandFor .drain

/-- FLUSH_ALL (R150). -/
def execFlushAll (s : State) : Host.Outcome State Fault Refusal :=
  takeRequest .front .flushAll (fun ws t => t.takeFlushAll ws) s

/-- A record after RETRY_STUCK: not stuck, no flush retries, no owed STUCK notice (R11, R153). -/
def Resident.retried (r : Resident) : Resident :=
  { r with stuck := false, retries := 0, owed := if r.owed = .stuck then .absent else r.owed }

/-- What taking a RETRY_STUCK does (R153). -/
def State.takeRetryStuck (ws : List Word) (s : State) : State :=
  if !s.isServing then s.answer .front 0x06 .notReady ws []
  else
    State.answer .front 0x06 .ok ws [word (s.records.countP (fun r => r.stuck))]
      { s with records := s.records.map Resident.retried }

/-- RETRY_STUCK (R153). -/
def execRetryStuck (s : State) : Host.Outcome State Fault Refusal :=
  takeRequest .front .retryStuck (fun ws t => t.takeRetryStuck ws) s

/-- The spindle state of a code, none outside the four (R132). -/
def spindleOfCode : Nat → Option Spindle
  | 0 => some .down
  | 1 => some .rising
  | 2 => some .up
  | 3 => some .falling
  | _ => none

/-- The UP period at a SPINDLE report from an old state to the state in force (R132, R134, R146). -/
def State.turnSpindle (old : Spindle) (s : State) : State :=
  if s.spindle = .up then (if old = .up then s.dropDemands else s.dropDemands.beginUp)
  else if old = .up then s.endUp else s

/-- A SPINDLE report in SERVING: the UP period, the reconsideration at DOWN, and the demands (R132, R145, R146). -/
def State.followSpindle (old : Spindle) (s : State) : State :=
  let t := s.turnSpindle old
  (if t.spindle = .down then t.reconsider else t).demandAll

/-- What taking a SPINDLE does (R132). -/
def State.takeSpindle (state : Nat) (ws : List Word) (s : State) : State :=
  match spindleOfCode state with
  | none => s.answer .disk 0x10 .badValue ws []
  | some x =>
    let t := State.answer .disk 0x10 .ok ws [word x.value] { s with spindle := x }
    if s.isServing then t.followSpindle s.spindle else t

/-- SPINDLE (R132). -/
def execSpindle (state : Nat) (s : State) : Host.Outcome State Fault Refusal :=
  takeRequest .disk (.spindle state) (fun ws t => t.takeSpindle state ws) s

/-- The background window of a code, none outside the two (R133). -/
def bgWindowOfCode : Nat → Option BgWindow
  | 0 => some .opened
  | 1 => some .closed
  | _ => none

/-- What taking a WINDOW does (R133). -/
def State.takeBgWindow (state : Nat) (ws : List Word) (s : State) : State :=
  match bgWindowOfCode state with
  | none => s.answer .disk 0x11 .badValue ws []
  | some x => State.answer .disk 0x11 .ok ws [word x.value] { s with bgWindow := x }

/-- WINDOW (R133). -/
def execWindow (state : Nat) (s : State) : Host.Outcome State Fault Refusal :=
  takeRequest .disk (.window state) (fun ws t => t.takeBgWindow state ws) s

/-- An epoch timer expiry: the counter increases, the next period starts with the EPOCH_LEN in force, and the age
sweep visits the next 64 places (R34 to R37). -/
def State.epochExpiry (s : State) : State :=
  (State.sweep Config.sweepStride
    { s with epoch := (s.epoch + 1) % Config.wrap16, epochTimer := some s.settings.epochLen }).retestFill

/-- EPOCH_TIMER_EXPIRY: a stopped timer does not expire (R34, R35). -/
def execEpochTimerExpiry (s : State) : Host.Outcome State Fault Refusal :=
  match s.epochTimer with
  | none => .next s
  | some _ => .next s.epochExpiry

/-- ADVICE_TIMER_EXPIRY: a stopped timer does not expire (R147, R148). -/
def execAdviceTimerExpiry (s : State) : Host.Outcome State Fault Refusal :=
  match s.adviceTimer with
  | none => .next s
  | some _ => .next s.adviceExpiry

/-- The context of a start event: one is taken while a context is IDLE and a flush or a fill is eligible (R141). -/
def State.startContext (s : State) : Option (Fin 4) :=
  if s.eligibleFlush.isSome || s.eligibleFill.isSome then s.idleContext else none

/-- START_EVENT (R141 to R143). -/
def execStartEvent (s : State) : Host.Outcome State Fault Refusal :=
  match s.startContext with
  | none => .next s
  | some c => .next (s.startMove c).finish

end Sys2Proof.Machine
end

