-- ==== Sys2Proof/Machine/Dispatch.lean ====
section
/-! DEFINITION. One arm per command: its meaning. -/

namespace Sys2Proof.Machine

/-- The effect of a command on everything but the queue of waiting commands. -/
def exec (i : Instr) (s : State) : Host.Outcome State Fault Refusal :=
  match i with
  | .powerOn => Sys2Proof.Machine.execPowerOn s
  | .inboundFrame p halves => Sys2Proof.Machine.execInboundFrame p halves s
  | .recordRead p => Sys2Proof.Machine.execRecordRead p s
  | .malformedEntry p => Sys2Proof.Machine.execMalformedEntry p s
  | .route tag kind lba count => Sys2Proof.Machine.execRoute tag kind lba count s
  | .parkedRouteReadmit => Sys2Proof.Machine.execParkedRouteReadmit s
  | .done tag outcome => Sys2Proof.Machine.execDone tag outcome s
  | .claim p extent => Sys2Proof.Machine.execClaim p extent s
  | .release p extent => Sys2Proof.Machine.execRelease p extent s
  | .flushAll => Sys2Proof.Machine.execFlushAll s
  | .retryStuck => Sys2Proof.Machine.execRetryStuck s
  | .setEpochLen v => Sys2Proof.Machine.execSetEpochLen v s
  | .setDecay v => Sys2Proof.Machine.execSetDecay v s
  | .setBands t1 t2 t3 => Sys2Proof.Machine.execSetBands t1 t2 t3 s
  | .setSettle v => Sys2Proof.Machine.execSetSettle v s
  | .setPromoteBand v => Sys2Proof.Machine.execSetPromoteBand v s
  | .setWRread v => Sys2Proof.Machine.execSetWRread v s
  | .setWRwrite v => Sys2Proof.Machine.execSetWRwrite v s
  | .setWSread v => Sys2Proof.Machine.execSetWSread v s
  | .setWSwrite v => Sys2Proof.Machine.execSetWSwrite v s
  | .setWakeBonus v => Sys2Proof.Machine.execSetWakeBonus v s
  | .setSeqRun v => Sys2Proof.Machine.execSetSeqRun v s
  | .setWindow n base mask policy enable => Sys2Proof.Machine.execSetWindow n base mask policy enable s
  | .setPinLimit v => Sys2Proof.Machine.execSetPinLimit v s
  | .setAbsorbReserve v => Sys2Proof.Machine.execSetAbsorbReserve v s
  | .setDirtyHigh v => Sys2Proof.Machine.execSetDirtyHigh v s
  | .setDirtyLow v => Sys2Proof.Machine.execSetDirtyLow v s
  | .setOrderTimeout v => Sys2Proof.Machine.execSetOrderTimeout v s
  | .setAdviceDelay v => Sys2Proof.Machine.execSetAdviceDelay v s
  | .setFillWake v => Sys2Proof.Machine.execSetFillWake v s
  | .setProfile v => Sys2Proof.Machine.execSetProfile v s
  | .query extent => Sys2Proof.Machine.execQuery extent s
  | .querySummary => Sys2Proof.Machine.execQuerySummary s
  | .stats clear => Sys2Proof.Machine.execStats clear s
  | .restart => Sys2Proof.Machine.execRestart s
  | .geometry slots => Sys2Proof.Machine.execGeometry slots s
  | .adopt extent slot valid dirty lost => Sys2Proof.Machine.execAdopt extent slot valid dirty lost s
  | .adoptEnd => Sys2Proof.Machine.execAdoptEnd s
  | .report p ticket context status => Sys2Proof.Machine.execReport p ticket context status s
  | .unfence slot => Sys2Proof.Machine.execUnfence slot s
  | .spindle state => Sys2Proof.Machine.execSpindle state s
  | .window state => Sys2Proof.Machine.execWindow state s
  | .frontLinkReset => Sys2Proof.Machine.execFrontLinkReset s
  | .flashLinkReset => Sys2Proof.Machine.execFlashLinkReset s
  | .diskLinkReset => Sys2Proof.Machine.execDiskLinkReset s
  | .epochTimerExpiry => Sys2Proof.Machine.execEpochTimerExpiry s
  | .orderTimerExpiry context => Sys2Proof.Machine.execOrderTimerExpiry context s
  | .adviceTimerExpiry => Sys2Proof.Machine.execAdviceTimerExpiry s
  | .startEvent => Sys2Proof.Machine.execStartEvent s

end Sys2Proof.Machine
end

