-- ==== Sys2Proof/Safety.lean ====
section
/-! DEFINITION. What a safe run is, in the terms the statements use: settings in their ranges (R179), tables and queues
within their capacities (R17, R135, R170, R171), records, lists, moves and slots that keep the laws of the map (R2 to R18,
R92 to R94, R103, R106 to R113), counters at most their top (R181), and events carried out to their ends (R81, R136, R145,
R151); and the states after a request that only answers and after a link reset, as the Claim Table sees it. -/

namespace Sys2Proof.Machine

/-! ### Ranges -/

/-- The ranges of the settings that do not depend on S (R179). -/
structure Settings.InRange (g : Settings) : Prop where
  epochLen : g.epochLen ≤ 1023
  decay : 1 ≤ g.decay ∧ g.decay ≤ 8
  bands : 1 ≤ g.t1 ∧ g.t1 < g.t2 ∧ g.t2 < g.t3 ∧ g.t3 ≤ 65535
  settle : 1 ≤ g.settle ∧ g.settle ≤ 15
  promoteBand : g.promoteBand ≠ .b0
  weights : g.wRread ≤ 255 ∧ g.wRwrite ≤ 255 ∧ g.wSread ≤ 255 ∧ g.wSwrite ≤ 255
  wakeBonus : g.wakeBonus ≤ 255
  seqRun : 64 ≤ g.seqRun ∧ g.seqRun ≤ 65535
  orderTimeout : 1 ≤ g.orderTimeout ∧ g.orderTimeout ≤ 255
  adviceDelay : g.adviceDelay ≤ 255
  fillWake : g.fillWake ≤ 64

/-- The ranges of S and of the settings that depend on it (R160, R179). -/
structure Sizes.InRange (z : Sizes) : Prop where
  slots : 256 ≤ z.slots ∧ z.slots ≤ 65536
  pinLimit : z.pinLimit ≤ z.slots
  absorbReserve : z.absorbReserve ≤ z.slots / 2
  dirtyHigh : 1 ≤ z.dirtyHigh ∧ z.dirtyHigh ≤ z.slots
  dirtyLow : z.dirtyLow < z.dirtyHigh

/-- A window's base and mask are extent numbers (R41). -/
def PolicyWindow.InRange (w : PolicyWindow) : Prop := w.base ≤ 16777215 ∧ w.mask ≤ 16777215

/-- Every setting is in its range, and outside COLD S and the settings that depend on it have values (R156, R161). -/
structure State.SettingsInRange (s : State) : Prop where
  settings : s.settings.InRange
  sizes : ∀ z, s.sizes = some z → z.InRange
  sized : s.service ≠ .cold → s.sizes ≠ none
  windows : ∀ w ∈ s.windows.toList, w.InRange

/-! ### Capacities -/

/-- Every table and queue of bounded length holds no more than it may: 4 entries in a FIFO (R170), 16 records in an
outbound queue (R171), 8 parked routes (R17), 64 entries on the Promotion Queue (R135); the sweep cursor names one of
the S + 4,096 places (R36); and no port stands twice in a Claim Table entry (R77, R80). -/
structure State.WithinCapacity (s : State) : Prop where
  fifo : ∀ p, (s.link p).fifo.length ≤ 4
  out : ∀ p, (s.link p).out.length ≤ 16
  parked : s.parked.length ≤ 8
  promo : s.promo.length ≤ 64
  cursor : s.cursor < s.slots + 4096
  claims : ∀ (i : Fin 8) c, s.claims[i] = some c → c.standing.port ∉ c.waiters ∧ c.waiters.Nodup

/-- Every counter is at most 4,294,967,295 (R181). -/
structure Stats.Bounded (c : Stats) : Prop where
  routes : c.routes ≤ Config.maxCount
  readFlash : c.readFlash ≤ Config.maxCount
  readDisk : c.readDisk ≤ Config.maxCount
  writeFlash : c.writeFlash ≤ Config.maxCount
  writeDisk : c.writeDisk ≤ Config.maxCount
  absorbed : c.absorbed ≤ Config.maxCount
  fillsDone : c.fillsDone ≤ Config.maxCount
  flushesDone : c.flushesDone ≤ Config.maxCount
  evictions : c.evictions ≤ Config.maxCount
  forcedWakes : c.forcedWakes ≤ Config.maxCount
  spinUpDemands : c.spinUpDemands ≤ Config.maxCount
  lostSegments : c.lostSegments ≤ Config.maxCount
  orderTimeouts : c.orderTimeouts ≤ Config.maxCount

/-! ### The laws of the map -/

/-- The dirty set is a subset of the valid set (R4). -/
def Resident.DirtyValid (r : Resident) : Prop := segLess r.dirty r.valid = 0#32

/-- The lost set has no segment in common with the valid set (R4). -/
def Resident.LostApart (r : Resident) : Prop := r.valid &&& r.lost = 0#32

/-- Heat, settle count and stamp in their ranges (R29). -/
def Heat.InRange (h : Heat) : Prop := h.heat ≤ 65535 ∧ h.settle ≤ 14 ∧ h.stamp < 65536

/-- The laws of one record that hold whatever the rest of the state: the dirty set lies in the valid set (R4), a
record with nothing dirty has no drain mark, no retries and is not stuck (R8 to R10), one in state FLUSHING is not
stuck (a stuck record is not flushed, and the charge that makes one stuck leaves it RESIDENT: R123, R138), and its
heat is in range (R29). -/
structure Resident.Lawful (r : Resident) : Prop where
  dirtyValid : r.DirtyValid
  settled : r.dirty = 0#32 → r.drainMark = false ∧ r.retries = 0 ∧ r.stuck = false
  retries : r.retries ≤ 3
  flushing : r.state = .flushing → r.stuck = false
  heat : r.heat.InRange

/-- Every record and every watch entry is lawful, the epoch counter is a 16-bit count (R35), no two records are of one
extent (R2), and a record the Dirty List lists has something dirty (R8). -/
structure State.RecordsLawful (s : State) : Prop where
  records : ∀ r ∈ s.records, r.Lawful
  watch : ∀ w ∈ s.watch, w.heat.InRange
  epoch : s.epoch < 65536
  extents : (s.records.map (·.extent)).Nodup
  dirtyList : ∀ e ∈ s.dirtyList, ∀ r, s.residentOf e = some r → r.dirty ≠ 0#32

/-- Every slot is in one place: free, fenced, or occupied by one record (R92, R93, R103); no two records are of one
extent (R2); in COLD there is no slot, and outside SERVING no fence and no move (R156, R157). -/
structure State.SlotsAccounted (s : State) : Prop where
  balance : (s.free ++ s.fences.map (·.slot) ++ s.records.map (·.slot)).Perm (List.range s.slots)
  extents : (s.records.map (·.extent)).Nodup
  cold : s.service = .cold → s.sizes = none
  unserved : s.service ≠ .serving → s.fences = [] ∧ ∀ c : Fin 4, s.contexts[c] = .idle

/-- Every list that orders records holds the extents its contents give it, each once (R8, R18, R94): a dirty record is
on the Dirty List, and a clean, unpinned record in state RESIDENT is on one clean list, that of `Resident.cleanBand`,
and on no other; no two records are of one extent (R2). -/
structure State.ListsFiled (s : State) : Prop where
  extents : (s.records.map (·.extent)).Nodup
  dirtyOnce : s.dirtyList.Nodup
  dirty : ∀ e, e ∈ s.dirtyList ↔ ∃ r ∈ s.records, r.extent = e ∧ r.dirty ≠ 0#32
  cleanOnce : ∀ b, (s.clean.get b).Nodup
  clean : ∀ b e, e ∈ s.clean.get b ↔ ∃ r ∈ s.records, r.extent = e ∧ r.cleanBand = some b

/-- An extent has its heat in one place: no two watch entries are of one extent, none is of a resident extent, and
last-touch order holds each watch entry once (R12). Outside SERVING nothing is watched, no route is parked, no move is
in flight and no record is empty (R156, R157, R162). -/
structure State.HeatOnce (s : State) : Prop where
  once : (s.watch.map (·.extent)).Nodup
  apart : ∀ w ∈ s.watch, ∀ r ∈ s.records, w.extent ≠ r.extent
  touch : s.touch.Perm (s.watch.map (·.extent))
  unserved : s.service ≠ .serving →
    s.watch = [] ∧ s.parked = [] ∧ (∀ c : Fin 4, s.contexts[c] = .idle) ∧ ∀ r ∈ s.records, r.isEmpty = false

/-- Every record's lost set is apart from its valid set (R4), and every move in flight has its record, in its slot and
in the state of its kind, and no other move is in flight on its extent (R3, R106, R109). The validate set of a FILL
holds no segment that is valid or lost (R111, R113), and the record of a fresh FILL is bare (R112). -/
structure State.MovesMatched (s : State) : Prop where
  lost : ∀ r ∈ s.records, r.LostApart
  fills : ∀ (c : Fin 4) m, s.contexts[c] = .fill m →
    ∃ r, s.residentOf m.extent = some r ∧ r.slot = m.slot ∧ r.state = .filling ∧
      m.validate &&& (r.valid ||| r.lost) = 0#32 ∧ (m.fresh = true → r.isEmpty = true)
  flushes : ∀ (c : Fin 4) m, s.contexts[c] = .flush m →
    ∃ r, s.residentOf m.extent = some r ∧ r.slot = m.slot ∧ r.state = .flushing
  apart : ∀ c d : Fin 4, c ≠ d → ∀ e, s.contexts[c].extentInMove = some e → s.contexts[d].extentInMove ≠ some e

/-- The free pool, the Residency Table by its slots and the Watch List by its places stand in ascending order, with
nothing twice, and every watch place is one of the 4,096 (R12, R92, R101). -/
structure State.Ascending (s : State) : Prop where
  free : s.free.Pairwise (· < ·)
  records : s.records.Pairwise (·.slot < ·.slot)
  watch : s.watch.Pairwise (·.place < ·.place)
  places : ∀ w ∈ s.watch, w.place < 4096

/-- The fences and the reservations of fresh FILLs fit the fenced set (R99, R103). -/
def State.FencesFit (s : State) : Prop := s.fences.length + s.reservations ≤ 8

/-- What the events taken so far have ended is carried out. No Claim Table entry stays pending for a port its extent
is quiescent for (R81). While a drain is active a marked record is unflushed, and without one no record is marked
(R150, R151). Urgent mode agrees with the watermarks (R136). A demand flag is yes only while its reason's condition
holds, and it is yes while the condition holds with the spindle not UP (R145). Outside SERVING there is no claim, no
drain, no urgent mode and no demand (R136, R145, R156). -/
structure State.Concluded (s : State) : Prop where
  granted : ∀ (i : Fin 8) c p, s.claims[i] = some c → c.standing = .pending p → s.quiescent p c.extent = false
  drain : s.drain = true → ∃ r ∈ s.records, r.drainMark = true ∧ r.stuck = false
  marks : s.drain = false → ∀ r ∈ s.records, r.drainMark = false
  urgent : s.service = .serving → s.urgent = true → s.dirtyLow < s.dirtyList.length
  calm : s.service = .serving → s.urgent = false → s.dirtyList.length < s.dirtyHigh
  demands : s.service = .serving → ∀ r,
    (s.demands.get r = true → s.demandHolds r = true) ∧
    (s.demandHolds r = true → s.spindle ≠ .up → s.demands.get r = true)
  unserved : s.service ≠ .serving →
    (∀ i : Fin 8, s.claims[i] = none) ∧ s.drain = false ∧ s.urgent = false ∧ ∀ r, s.demands.get r = false

/-- A safe state. Every command runs to a next state (there is no fault and no refusal), and a safe run is one whose
states are all safe. -/
structure State.Safe (s : State) : Prop where
  settings : s.SettingsInRange
  capacity : s.WithinCapacity
  stats : s.stats.Bounded
  records : s.RecordsLawful
  lists : s.ListsFiled
  heat : s.HeatOnce
  moves : s.MovesMatched
  slots : s.SlotsAccounted
  order : s.Ascending
  fences : s.FencesFit
  concluded : s.Concluded

/-! ### Kinds of commands -/

/-- The SETs. -/
def isSet : Instr → Bool
  | .setEpochLen _ => true
  | .setDecay _ => true
  | .setBands _ _ _ => true
  | .setSettle _ => true
  | .setPromoteBand _ => true
  | .setWRread _ => true
  | .setWRwrite _ => true
  | .setWSread _ => true
  | .setWSwrite _ => true
  | .setWakeBonus _ => true
  | .setSeqRun _ => true
  | .setWindow _ _ _ _ _ => true
  | .setPinLimit _ => true
  | .setAbsorbReserve _ => true
  | .setDirtyHigh _ => true
  | .setDirtyLow _ => true
  | .setOrderTimeout _ => true
  | .setAdviceDelay _ => true
  | .setFillWake _ => true
  | .setProfile _ => true
  | _ => false

/-- The commands that can route a route. -/
def isRouting : Instr → Bool
  | .route _ _ _ _ => true
  | .parkedRouteReadmit => true
  | _ => false

/-- The commands that can change a segment, a move or a hold in service: routes and their ends, reports and timeouts,
the start event, a read, which can complete a move whose order has become empty, and the link resets. -/
def actsOnMap : Instr → Bool
  | .route _ _ _ _ => true
  | .parkedRouteReadmit => true
  | .done _ _ => true
  | .report _ _ _ _ => true
  | .orderTimerExpiry _ => true
  | .startEvent => true
  | .recordRead _ => true
  | .frontLinkReset => true
  | .flashLinkReset => true
  | .diskLinkReset => true
  | _ => false

/-! ### What the statements compare -/

/-- What the map says of an extent's segments: its slot, its state, and its three sets (R3, R4). -/
def State.segmentsOf (s : State) (e : Nat) : Option (Nat × RecordState × SegSet × SegSet × SegSet) :=
  (s.residentOf e).map fun r => (r.slot, r.state, r.valid, r.dirty, r.lost)

/-- Nothing is owed to a port (R176). -/
def State.nothingOwed (s : State) (p : Port) : Prop :=
  s.owedGrant p = none ∧
    match p with
    | .front => s.drainedOwed = none ∧ ∀ r ∈ s.records, r.owed = .absent
    | .flash => s.flashOwed = []
    | .disk => s.diskOwed = []

/-- The state after a request of port `p` is taken and answered `r`, and nothing else: it has left its FIFO, the answer
stands at the tail of the outbound queue, and the pointer names the port after (R172, R174). -/
def State.answered (p : Port) (r : Outbound) (s : State) : State :=
  { s.setLink p { s.link p with fifo := (s.link p).fifo.tail, out := (s.link p).out ++ [r] } with
    pointer := portAfter p }

/-- Entry `i` of the Claim Table stands for port `w`: pending where the extent is not quiescent for it; otherwise
granted, with its notice in the port's queue, or owed where that queue is full (R81, R82). -/
def State.StandsFor (t : State) (i : Fin 8) (e : Nat) (w : Port) (waiters : List Port) : Prop :=
  (t.quiescent w e = false →
    t.claims[i] = some { extent := e, standing := .pending w, waiters := waiters }) ∧
  (t.quiescent w e = true →
    (t.claims[i] = some { extent := e, standing := .owned w false, waiters := waiters } ∧
      .claimGranted e ∈ (t.link w).out) ∨
    (t.claims[i] = some { extent := e, standing := .owned w true, waiters := waiters } ∧ 16 ≤ (t.link w).out.length))

/-- The Claim Table of `t` is that of `s` after a link reset of port `p` (R89, R90): an entry that another port owns
keeps its owner and its owed notice, one pending for another port stands for it, both without `p` among the waiters; one
that `p` owned or was pending for stands for its first waiter, and is freed where it has none. -/
def State.LeftBy (p : Port) (s t : State) : Prop :=
  ∀ i : Fin 8, (s.claims[i] = none → t.claims[i] = none) ∧
    ∀ c, s.claims[i] = some c →
      (∀ q owed, c.standing = .owned q owed → q ≠ p →
        t.claims[i] = some { c with waiters := c.waiters.filter fun x => x ≠ p }) ∧
      (∀ q, c.standing = .pending q → q ≠ p → t.StandsFor i c.extent q (c.waiters.filter fun x => x ≠ p)) ∧
      (c.standing.port = p → c.waiters = [] → t.claims[i] = none) ∧
      (∀ w rest, c.standing.port = p → c.waiters = w :: rest → t.StandsFor i c.extent w rest)

end Sys2Proof.Machine
end

