-- ==== Sys2Proof/Certificates/Slice0/Obligations.lean ====
section
/-! DEFINITION. The statements about the part, each a proposition for the provers. They are made over every state that
meets their hypotheses, reached by a run or not. -/

open Sys2Proof Sys2Proof.Machine

/-! ### The queue of waiting commands, power-on, the links and the arbiter -/

/-- The model's own queue (log entry 2): a step runs the command at the front on the rest of the queue, and an empty
queue idles. -/
def Obligations.StepRunsTheCommandAtTheFrontOfTheQueue : Prop :=
  (∀ (s : State) (c : Instr) (cs : List Instr), s.pending = c :: cs → step s = exec c { s with pending := cs }) ∧
  (∀ s : State, s.pending = [] → step s = .next s)

/-- Every command runs to a next state: no meaning ends in a fault or a refusal (log entry 22). Every command, POWER_ON
and RESTART too, leaves the commands that wait behind it in the model's own queue (log entry 2). Both are the model's
choices. -/
def Obligations.EveryCommandRunsAndKeepsTheWaitingCommands : Prop :=
  ∀ (s : State) (c : Instr), ∃ t, exec c s = .next t ∧ t.pending = s.pending

/-- POWER_ON: the table of R158, block by block, with the settings of R179. That the model's own queue of waiting
commands is left as it is, is log entry 2's choice. -/
def Obligations.PowerOnGivesEveryBlockItsFirstValue : Prop :=
  ∀ s : State, ∃ t, exec .powerOn s = .next t ∧
    t.pending = s.pending ∧
    (∀ p, (t.link p).fifo = [] ∧ (t.link p).out = [] ∧ t.readyLine p = true ∧ t.attentionLine p = false) ∧
    t.pointer = .front ∧ t.service = .cold ∧ t.sizes = none ∧
    t.settings =
      { epochLen := 255, decay := 2, t1 := 32, t2 := 128, t3 := 1024, settle := 2, promoteBand := .b2, wRread := 16,
        wRwrite := 12, wSread := 2, wSwrite := 0, wakeBonus := 24, seqRun := 1024, orderTimeout := 20,
        adviceDelay := 50, fillWake := 16, profile := .mains } ∧
    (∀ w ∈ t.windows.toList, w = { base := 0, mask := 0, policy := .normal, enable := false }) ∧
    t.records = [] ∧ t.routes = [] ∧ t.parked = [] ∧ t.pinnedCount = 0 ∧ t.pinnedCleanCount = 0 ∧
    (∀ n ∈ [t.stats.routes, t.stats.readFlash, t.stats.readDisk, t.stats.writeFlash, t.stats.writeDisk,
      t.stats.absorbed, t.stats.fillsDone, t.stats.flushesDone, t.stats.evictions, t.stats.forcedWakes,
      t.stats.spinUpDemands, t.stats.lostSegments, t.stats.orderTimeouts], n = 0) ∧
    t.watch = [] ∧ t.touch = [] ∧ (∀ x ∈ t.streams.toList, x = none) ∧ t.streamUse = [] ∧
    t.epoch = 0 ∧ t.epochTimer = none ∧ t.cursor = 0 ∧ (∀ x ∈ t.claims.toList, x = none) ∧
    t.free = [] ∧ t.clean = { b0 := [], b1 := [], b2 := [], b3 := [] } ∧ t.fences = [] ∧
    (∀ x ∈ t.contexts.toList, x = .idle) ∧ t.tickets = 0 ∧ t.flashOwed = [] ∧ t.diskOwed = [] ∧
    t.spindle = .down ∧ t.bgWindow = .opened ∧ t.promo = [] ∧ t.dirtyList = [] ∧ t.urgent = false ∧
    t.drain = false ∧ t.drainedOwed = none ∧
    t.demands = { dirtyCeiling := false, drain := false, fill := false } ∧ t.adviceTimer = none ∧
    t.adviceSent = false ∧ t.lastKind = .fill

/-- RESTART (R159), taken, runs to the state of power-on with its own answer as the only record in any queue. The
pointer at front is log entry 7's reading, the emptied `driven` log entry 9's, and the kept `pending` log entry 2's.
-/
def Obligations.RestartLeavesThePowerOnStateAndItsAnswer : Prop :=
  ∀ (s : State) (ws : List Word), s.offered .front .restart = some ws →
    ∃ t, exec .powerOn s = .next t ∧ t.front.out = [] ∧ t.flash.out = [] ∧ t.disk.out = [] ∧
      exec .restart s = .next { t with front := { t.front with out := [.answer 0x0A .ok []] } }

/-- INBOUND_FRAME (R169, R170): a well-formed frame joins the FIFO's tail as a request, another as a malformed entry;
a full FIFO discards it. A frame is well formed when it holds whole words, its kind is a request kind of its port, and
the length in its first word and the number of its words are both that kind's. -/
def Obligations.AFrameJoinsItsFifoOrIsDiscarded : Prop :=
  ((∀ (s : State) (p : Port) (hs : List Half) (ws : List Word), (s.link p).fifo.length < 4 →
    frameWords p hs = some ws →
    exec (.inboundFrame p hs) s =
      .next (s.setLink p { s.link p with fifo := (s.link p).fifo ++ [.request ws] })) ∧
  (∀ (s : State) (p : Port) (hs : List Half), (s.link p).fifo.length < 4 → frameWords p hs = none →
    exec (.inboundFrame p hs) s =
      .next (s.setLink p { s.link p with fifo := (s.link p).fifo ++ [.malformed (frameKind hs)] })) ∧
  (∀ (s : State) (p : Port) (hs : List Half), 4 ≤ (s.link p).fifo.length → exec (.inboundFrame p hs) s = .next s)) ∧
  (∀ (p : Port) (hs : List Half) (ws : List Word),
    frameWords p hs = some ws ↔
      ws = wordsOf hs ∧ hs.length = 2 * ws.length ∧
        ∃ w rest, ws = w :: rest ∧ requestLength p (kindOf w) = some ws.length ∧ lengthOf w = ws.length)

/-- RECORD_READ (R171) where nothing is owed: the head leaves and its words were driven; an empty queue drives the
one-word frame of kind 00h and frees nothing. `driven` is the model's own field (log entry 9). -/
def Obligations.AReadTakesTheHeadOfTheQueue : Prop :=
  (∀ (s : State) (p : Port) (r : Outbound) (rs : List Outbound), (s.link p).out = r :: rs → s.nothingOwed p →
    exec (.recordRead p) s = .next (s.setLink p { s.link p with out := rs, driven := r.words })) ∧
  (∀ (s : State) (p : Port), (s.link p).out = [] →
    exec (.recordRead p) s = .next (s.setLink p { s.link p with driven := [0x00010000#32] }))

/-- A read of a queue with records owed to its port (R11, R87, R102, R108, R126, R146, R148, R151, R171, R176). The
owed grant with the lowest entry comes first; then on the front port DRAINED, and the STUCK or LOST notice of the
first record in slot order that owes one; on the flash and the disk port the record that was owed first: a
RETIRE_SLOT, a held CLEAN_MARK, whose context becomes IDLE, an order, which takes its ticket and starts its timer, a
demand, which is counted, or the advice. An order whose set has become {} places nothing and its move
completes (R111, R118). That the place then goes to the record owed next, and that a RETIRE_SLOT of that completion
waits behind what is owed, is log entry 11's reading. `driven` is the model's own field (log entry 9). -/
def Obligations.AReadGivesItsPlaceToTheFirstOwedRecord : Prop :=
  (∀ (s : State) (p : Port) (r : Outbound) (rs : List Outbound) (i : Fin 8) (c : ClaimEntry),
    (s.link p).out = r :: rs → rs.length < 16 → s.claims[i] = some c → c.standing = .owned p true →
    (∀ j : Fin 8, j < i → ∀ d, s.claims[j] = some d → d.standing ≠ .owned p true) →
    exec (.recordRead p) s =
      .next { s.setLink p { s.link p with out := rs ++ [.claimGranted c.extent], driven := r.words } with
        claims := s.claims.set i (some { c with standing := .owned p false }) }) ∧
  ((∀ (s : State) (r : Outbound) (rs : List Outbound) (n : Nat), s.front.out = r :: rs → rs.length < 16 →
    s.owedGrant .front = none → s.drainedOwed = some n →
    exec (.recordRead .front) s =
      .next { s with front := { s.front with out := rs ++ [.drained n], driven := r.words }, drainedOwed := none }) ∧
  (∀ (s : State) (r : Outbound) (rs : List Outbound) (x : Resident) (a : SegSet), s.front.out = r :: rs →
    rs.length < 16 → s.owedGrant .front = none → s.drainedOwed = none →
    s.records.find? (fun y => y.owed != .absent) = some x →
    (x.owed = .stuck →
      exec (.recordRead .front) s =
        .next { s with
          front := { s.front with out := rs ++ [.stuck x.extent], driven := r.words }
          records := s.records.map fun y => if y.extent = x.extent then { y with owed := .absent } else y }) ∧
    (x.owed = .lost a →
      exec (.recordRead .front) s =
        .next { s with
          front := { s.front with out := rs ++ [.lost x.extent a], driven := r.words }
          records := s.records.map fun y => if y.extent = x.extent then { y with owed := .absent } else y }))) ∧
  ((∀ (s : State) (r : Outbound) (rs : List Outbound) (n : Nat) (os : List FlashOwed), s.flash.out = r :: rs →
    rs.length < 16 → s.owedGrant .flash = none → s.flashOwed = .retire n :: os →
    exec (.recordRead .flash) s =
      .next { s with flash := { s.flash with out := rs ++ [.retireSlot n], driven := r.words }, flashOwed := os }) ∧
  (∀ (s : State) (r : Outbound) (rs : List Outbound) (c : Fin 4) (n : Nat) (a : SegSet) (os : List FlashOwed),
    s.flash.out = r :: rs → rs.length < 16 → s.owedGrant .flash = none → s.flashOwed = .mark c :: os →
    s.contexts[c] = .marking n a →
    exec (.recordRead .flash) s =
      .next { s with
        flash := { s.flash with out := rs ++ [.cleanMark n a], driven := r.words }
        flashOwed := os, contexts := s.contexts.set c .idle }) ∧
  (∀ (s : State) (r : Outbound) (rs : List Outbound) (c : Fin 4) (m : FillMove) (os : List FlashOwed),
    s.flash.out = r :: rs → rs.length < 16 → s.owedGrant .flash = none → s.flashOwed = .order c :: os →
    s.contexts[c] = .fill m → m.phase = .writing → m.validate ≠ 0#32 →
    exec (.recordRead .flash) s =
      .next { s with
        flash := { s.flash with
          out := rs ++ [.writeSlot s.tickets c.val m.slot m.extent m.validate], driven := r.words }
        flashOwed := os, tickets := (s.tickets + 1) % 65536
        contexts := s.contexts.set c (.fill { m with order := .placed s.tickets s.settings.orderTimeout }) }) ∧
  (∀ (s : State) (r : Outbound) (rs : List Outbound) (c : Fin 4) (m : FlushMove) (os : List FlashOwed),
    s.flash.out = r :: rs → rs.length < 16 → s.owedGrant .flash = none → s.flashOwed = .order c :: os →
    s.contexts[c] = .flush m → m.phase = .reading → m.work &&& s.dirtyOf m.extent ≠ 0#32 →
    let a := m.work &&& s.dirtyOf m.extent
    exec (.recordRead .flash) s =
      .next { s with
        flash := { s.flash with out := rs ++ [.readSlot s.tickets c.val m.slot m.extent a], driven := r.words }
        flashOwed := os, tickets := (s.tickets + 1) % 65536
        contexts := s.contexts.set c
          (.flush { m with order := .placed s.tickets s.settings.orderTimeout, carried := a }) }) ∧
  (∀ (s : State) (r : Outbound) (rs : List Outbound) (c : Fin 4) (os : List DiskOwed), s.disk.out = r :: rs →
    rs.length < 16 → s.owedGrant .disk = none → s.diskOwed = .order c :: os →
    let timer :=
      if s.service = .serving ∧ s.spindle = .up ∧ s.adviceSent = false ∧ s.settings.adviceDelay ≠ 0 then
        some s.settings.adviceDelay
      else s.adviceTimer
    (∀ m, s.contexts[c] = .fill m → m.phase = .reading → m.validate ≠ 0#32 →
      exec (.recordRead .disk) s =
        .next { s with
          disk := { s.disk with out := rs ++ [.readExtent s.tickets c.val m.extent m.validate], driven := r.words }
          diskOwed := os, tickets := (s.tickets + 1) % 65536, adviceTimer := timer
          contexts := s.contexts.set c (.fill { m with order := .placed s.tickets s.settings.orderTimeout }) }) ∧
    (∀ m, s.contexts[c] = .flush m → m.phase = .writing → m.carried &&& s.dirtyOf m.extent ≠ 0#32 →
      exec (.recordRead .disk) s =
        .next { s with
          disk := { s.disk with
            out := rs ++ [.writeExtent s.tickets c.val m.extent (m.carried &&& s.dirtyOf m.extent)]
            driven := r.words }
          diskOwed := os, tickets := (s.tickets + 1) % 65536, adviceTimer := timer
          contexts := s.contexts.set c (.flush { m with order := .placed s.tickets s.settings.orderTimeout }) })) ∧
  (∀ (s : State) (r : Outbound) (rs : List Outbound) (c : Fin 4) (os : List FlashOwed), s.flash.out = r :: rs →
    rs.length < 16 → s.owedGrant .flash = none → s.flashOwed = .order c :: os →
    (∀ (i : Fin 8) d, s.claims[i] = some d → d.standing ≠ .pending .flash) →
    (∃ m, s.contexts[c] = .fill m ∧ m.phase = .writing ∧ m.validate = 0#32) ∨
      (∃ m, s.contexts[c] = .flush m ∧ m.phase = .reading ∧ m.work &&& s.dirtyOf m.extent = 0#32) →
    ∃ t, exec (.recordRead .flash) s = .next t ∧ t.contexts[c] = .idle ∧
      (os = [] → t.contexts = s.contexts.set c .idle ∧ t.tickets = s.tickets ∧ rs <+: t.flash.out) ∧
      (∀ n rest, os = .retire n :: rest → t.contexts = s.contexts.set c .idle ∧ t.tickets = s.tickets ∧
        t.flash.out = rs ++ [.retireSlot n] ∧ rest <+: t.flashOwed)) ∧
  (∀ (s : State) (r : Outbound) (rs : List Outbound) (c : Fin 4) (os : List DiskOwed), s.disk.out = r :: rs →
    rs.length < 16 → s.owedGrant .disk = none → s.diskOwed = .order c :: os →
    (∀ (i : Fin 8) d, s.claims[i] = some d → d.standing ≠ .pending .disk) →
    (∃ m, s.contexts[c] = .fill m ∧ m.phase = .reading ∧ m.validate = 0#32) ∨
      (∃ m, s.contexts[c] = .flush m ∧ m.phase = .writing ∧ m.carried &&& s.dirtyOf m.extent = 0#32) →
    ∃ t, exec (.recordRead .disk) s = .next t ∧ t.contexts[c].extentInMove = none ∧
      (os = [] → t.tickets = s.tickets ∧ rs <+: t.disk.out) ∧
      (∀ rest, os = .advice :: rest → t.tickets = s.tickets ∧ t.disk.out = rs ++ [.spinDownAdvice])) ∧
  (∀ (s : State) (r : Outbound) (rs : List Outbound) (d : Reason) (os : List DiskOwed), s.disk.out = r :: rs →
    rs.length < 16 → s.owedGrant .disk = none → s.diskOwed = .demand d :: os →
    exec (.recordRead .disk) s =
      .next { s with
        disk := { s.disk with out := rs ++ [.spinUpDemand d], driven := r.words }, diskOwed := os
        stats := { s.stats with spinUpDemands := min (s.stats.spinUpDemands + 1) 4294967295 } }) ∧
  (∀ (s : State) (r : Outbound) (rs : List Outbound) (os : List DiskOwed), s.disk.out = r :: rs →
    rs.length < 16 → s.owedGrant .disk = none → s.diskOwed = .advice :: os →
    exec (.recordRead .disk) s =
      .next { s with disk := { s.disk with out := rs ++ [.spinDownAdvice], driven := r.words }, diskOwed := os }))

/-- MALFORMED_ENTRY (R169): a malformed entry that the arbiter takes is answered BAD_FRAME with its kind code, and
changes nothing else. A well-formed SET of an unknown item, which no row of the table names, is taken here and
answered BAD_VALUE (R178, test 1; log entry 3). Its row does nothing where the arbiter takes from another port (log
entry 1). -/
def Obligations.AMalformedEntryIsAnsweredBadFrame : Prop :=
  (∀ (s : State) (p : Port) (k : Nat), s.arbiter = some p → s.headOf p = some (.entry (.malformed k)) →
    exec (.malformedEntry p) s = .next (s.answered p (.badFrame k))) ∧
  (∀ (s : State) (w : Word) (ws : List Word), s.arbiter = some .front →
    s.headOf .front = some (.entry (.request (w :: ws))) → kindOf w = 0x07 → decodeRequest .front (w :: ws) = none →
    exec (.malformedEntry .front) s =
      .next (s.answered .front (.answer 0x07 .badValue (word (field w 7 0) :: ws)))) ∧
  (∀ (s : State) (p : Port), s.arbiter ≠ some p → exec (.malformedEntry p) s = .next s)

/-- The map arbiter takes from the first ready port, starting from the one its pointer names; a port is ready when it
has a head request and the places of R173 are free for it (R52, R54, R129, R172, R173). The head of the front port is
the oldest re-admissible parked route, and otherwise, as on the other ports, the head of its FIFO. Every head needs
one place of its own queue; a front head also two flash places, and a TRIM of two resident extents four, parked or in
the FIFO and whatever its tag; a flash REPORT three flash places in all. That a ROUTE without sound sectors, to which
R1 gives no extents, needs two is log entry 17's reading, and that a malformed front entry needs two is log entry 23's
choice. -/
def Obligations.TheArbiterTakesTheFirstReadyPortWithRoom : Prop :=
  let both (s : State) (lba count : Nat) : Prop :=
    lba / 256 < (lba + count - 1) / 256 ∧ s.residentOf (lba / 256) ≠ none ∧ s.residentOf (lba / 256 + 1) ≠ none
  ((∀ (s : State) (p : Port), s.arbiter = some p ↔
    s.ready p = true ∧
      (p = s.pointer ∨
        (p = portAfter s.pointer ∧ s.ready s.pointer = false) ∨
        (p = portAfter (portAfter s.pointer) ∧ s.ready s.pointer = false ∧
          s.ready (portAfter s.pointer) = false))) ∧
  (∀ s : State, s.arbiter = none ↔ ∀ p, s.ready p = false) ∧
  portAfter .front = .flash ∧ portAfter .flash = .disk ∧ portAfter .disk = .front) ∧
  (∀ (s : State) (p : Port) (c : Instr) (ws : List Word), s.offered p c = some ws →
    (s.link p).out.length + 1 ≤ 16 ∧
    (p = .front → s.flash.out.length + 2 ≤ 16) ∧
    (∀ tag lba count, p = .front → c = .route tag 2 lba count → 1 ≤ count → count ≤ 256 → lba + count ≤ 4294967296 →
      both s lba count → s.flash.out.length + 4 ≤ 16) ∧
    (∀ ticket context status, p = .flash → c = .report .flash ticket context status →
      s.flash.out.length + 3 ≤ 16)) ∧
  ((∀ (s : State) (q : Parked), s.parked.find? (fun x => !s.routeParks x) = some q →
    s.headOf .front = some (.parked q)) ∧
  (∀ (s : State) (p : Port), p ≠ .front ∨ s.parked.find? (fun x => !s.routeParks x) = none →
    s.headOf p = (s.link p).fifo.head?.map .entry)) ∧
  ((∀ (s : State) (p : Port), s.headOf p = none → s.ready p = false) ∧
  (∀ (s : State) (h : Head), s.headOf .front = some h →
    (s.ready .front = true ↔ s.front.out.length + 1 ≤ 16 ∧ s.flash.out.length + s.frontNeeds h ≤ 16)) ∧
  (∀ (s : State) (h : Head), s.headOf .flash = some h →
    (s.ready .flash = true ↔ s.flash.out.length + flashNeeds h ≤ 16)) ∧
  (∀ (s : State) (h : Head), s.headOf .disk = some h → (s.ready .disk = true ↔ s.disk.out.length + 1 ≤ 16))) ∧
  (∀ s : State,
    (∀ k, s.frontNeeds (.entry (.malformed k)) = 2 ∧ flashNeeds (.entry (.malformed k)) = 1) ∧
    (∀ q : Parked, 1 ≤ q.count → q.count ≤ 256 →
      (q.kind = .trim ∧ both s q.lba q.count → s.frontNeeds (.parked q) = 4) ∧
      (¬ (q.kind = .trim ∧ both s q.lba q.count) → s.frontNeeds (.parked q) = 2)) ∧
    (∀ ws tag kind lba count, decodeRequest .front ws = some (.route tag kind lba count) →
      let wide := kind = 2 ∧ 1 ≤ count ∧ count ≤ 256 ∧ lba + count ≤ 4294967296 ∧ both s lba count
      (wide → s.frontNeeds (.entry (.request ws)) = 4) ∧ (¬ wide → s.frontNeeds (.entry (.request ws)) = 2)) ∧
    (∀ ws, (∀ tag kind lba count, decodeRequest .front ws ≠ some (.route tag kind lba count)) →
      s.frontNeeds (.entry (.request ws)) = 2) ∧
    (∀ ws ticket context status, decodeRequest .flash ws = some (.report .flash ticket context status) →
      flashNeeds (.entry (.request ws)) = 3) ∧
    (∀ ws, (∀ p ticket context status, decodeRequest .flash ws ≠ some (.report p ticket context status)) →
      flashNeeds (.entry (.request ws)) = 1))

/-- A request that the arbiter does not take now waits: its row leaves the state as it is (log entry 1; R172). One
that is taken leaves the head of its FIFO, no other FIFO changes, and the pointer moves to the port after. RESTART,
which empties every FIFO, apart. -/
def Obligations.ARequestWaitsOrLeavesItsFifo : Prop :=
  (∀ (s : State) (c : Instr) (p : Port) (ws : List Word), encodeRequest c = some (p, ws) → s.offered p c = none →
    exec c s = .next s) ∧
  (∀ (s : State) (c : Instr) (p : Port) (us ws : List Word), encodeRequest c = some (p, us) → c ≠ .restart →
    s.offered p c = some ws →
    ∃ t, exec c s = .next t ∧ (t.link p).fifo = (s.link p).fifo.tail ∧
      (∀ q, q ≠ p → (t.link q).fifo = (s.link q).fifo) ∧ t.pointer = portAfter p)

/-! ### Refusals -/

/-- Requests refused on the service state change nothing (R50, R67, R79, R82, R105, R127, R150, R153, R157, R160,
R162, R164, R178). Outside SERVING the requests that need it are answered NOT_READY; GEOMETRY outside COLD, ADOPT
and ADOPT_END outside ADOPTING, and the four S-dependent SETs while S has no value are answered WRONG_STATE. The
words a refused answer repeats are log entry 5's reading. -/
def Obligations.RequestsAreRefusedByTheServiceState : Prop :=
  (∀ (s : State) (ws : List Word), s.service ≠ .serving →
    (∀ tag kind lba count, s.offered .front (.route tag kind lba count) = some ws →
      exec (.route tag kind lba count) s = .next (s.answered .front (.routeAnswer .notReady tag false []))) ∧
    (∀ tag outcome, s.offered .front (.done tag outcome) = some ws →
      exec (.done tag outcome) s = .next (s.answered .front (.doneAnswer .notReady tag))) ∧
    (∀ p e, s.offered p (.claim p e) = some ws →
      exec (.claim p e) s = .next (s.answered p (.answer 0x03 .notReady ws.tail))) ∧
    (∀ p e, s.offered p (.release p e) = some ws →
      exec (.release p e) s = .next (s.answered p (.answer 0x04 .notReady ws.tail))) ∧
    (s.offered .front .flushAll = some ws →
      exec .flushAll s = .next (s.answered .front (.answer 0x05 .notReady ws.tail))) ∧
    (s.offered .front .retryStuck = some ws →
      exec .retryStuck s = .next (s.answered .front (.answer 0x06 .notReady ws.tail))) ∧
    (∀ p ticket context status, s.offered p (.report p ticket context status) = some ws →
      exec (.report p ticket context status) s =
        .next (s.answered p (.answer 0x0E .notReady (word ticket :: ws.tail)))) ∧
    (∀ slot, s.offered .flash (.unfence slot) = some ws →
      exec (.unfence slot) s = .next (s.answered .flash (.answer 0x0F .notReady ws.tail)))) ∧
  (∀ (s : State) (ws : List Word),
    (∀ n, s.service ≠ .cold → s.offered .flash (.geometry n) = some ws →
      exec (.geometry n) s = .next (s.answered .flash (.answer 0x0B .wrongState ws.tail))) ∧
    (∀ e n v d l, s.service ≠ .adopting → s.offered .flash (.adopt e n v d l) = some ws →
      exec (.adopt e n v d l) s = .next (s.answered .flash (.answer 0x0C .wrongState ws.tail))) ∧
    (s.service ≠ .adopting → s.offered .flash .adoptEnd = some ws →
      exec .adoptEnd s = .next (s.answered .flash (.answer 0x0D .wrongState ws.tail))) ∧
    (∀ v, s.sizes = none → s.offered .front (.setPinLimit v) = some ws →
      exec (.setPinLimit v) s = .next (s.answered .front (.answer 0x07 .wrongState (word 0x0D :: ws.tail)))) ∧
    (∀ v, s.sizes = none → s.offered .front (.setAbsorbReserve v) = some ws →
      exec (.setAbsorbReserve v) s = .next (s.answered .front (.answer 0x07 .wrongState (word 0x0E :: ws.tail)))) ∧
    (∀ v, s.sizes = none → s.offered .front (.setDirtyHigh v) = some ws →
      exec (.setDirtyHigh v) s = .next (s.answered .front (.answer 0x07 .wrongState (word 0x0F :: ws.tail)))) ∧
    (∀ v, s.sizes = none → s.offered .front (.setDirtyLow v) = some ws →
      exec (.setDirtyLow v) s = .next (s.answered .front (.answer 0x07 .wrongState (word 0x10 :: ws.tail)))))

/-- A field out of range that is not clamped is answered BAD_VALUE and changes nothing (R175, R50, R67, R79, R82,
R127, R132, R133, R137, R160, R182). QUERY's whole word 1 is log entry 4's reading, and the words a refused answer
repeats log entry 5's. -/
def Obligations.FieldsOutOfRangeAreAnsweredBadValue : Prop :=
  ∀ (s : State) (ws : List Word),
    (∀ tag kind lba count, s.service = .serving → s.offered .front (.route tag kind lba count) = some ws →
      (32 ≤ tag ∨ 3 ≤ kind ∨ count = 0 ∨ 257 ≤ count ∨ 4294967296 < lba + count) →
      exec (.route tag kind lba count) s = .next (s.answered .front (.routeAnswer .badValue tag false []))) ∧
    (∀ tag outcome, s.service = .serving → s.offered .front (.done tag outcome) = some ws →
      (32 ≤ tag ∨ 2 ≤ outcome) →
      exec (.done tag outcome) s = .next (s.answered .front (.doneAnswer .badValue tag))) ∧
    (∀ p e, s.service = .serving → s.offered p (.claim p e) = some ws → 16777216 ≤ e →
      exec (.claim p e) s = .next (s.answered p (.answer 0x03 .badValue ws.tail))) ∧
    (∀ p e, s.service = .serving → s.offered p (.release p e) = some ws → 16777216 ≤ e →
      exec (.release p e) s = .next (s.answered p (.answer 0x04 .badValue ws.tail))) ∧
    (∀ p ticket context status, s.service = .serving → s.offered p (.report p ticket context status) = some ws →
      (4 ≤ context ∨ 3 ≤ status ∨ (p = .flash ∧ status = 2)) →
      exec (.report p ticket context status) s =
        .next (s.answered p (.answer 0x0E .badValue (word ticket :: ws.tail)))) ∧
    (∀ x, s.offered .disk (.spindle x) = some ws → 4 ≤ x →
      exec (.spindle x) s = .next (s.answered .disk (.answer 0x10 .badValue ws.tail))) ∧
    (∀ x, s.offered .disk (.window x) = some ws → 2 ≤ x →
      exec (.window x) s = .next (s.answered .disk (.answer 0x11 .badValue ws.tail))) ∧
    (∀ v, s.offered .front (.setProfile v) = some ws → 2 ≤ v →
      exec (.setProfile v) s = .next (s.answered .front (.answer 0x07 .badValue (word 0x14 :: ws.tail)))) ∧
    (∀ n, s.service = .cold → s.offered .flash (.geometry n) = some ws → n < 256 →
      exec (.geometry n) s = .next (s.answered .flash (.answer 0x0B .badValue ws.tail))) ∧
    (∀ e, s.offered .front (.query e) = some ws → 16777216 ≤ e →
      exec (.query e) s = .next (s.answered .front (.answer 0x08 .badValue ws.tail)))

/-! ### Routes -/

/-- A READ is routed from the map as it stands (R53, R55, R65, R66, R71). Its answer: valid segments from FLASH, lost
ones NONE, absent ones and those of an extent that is not resident from DISK, bit by bit and sector by sector. Its
Route Table entry: the segments read from FLASH of each extent, and the disk flag, yes where a piece is DISK. The
counters: one route, and the sectors of the FLASH and of the DISK pieces. No segment set, move, slot or fence changes.
-/
def Obligations.AReadIsRoutedFromTheMapAndChangesNoSegment : Prop :=
  (∀ (s : State) (tag lba count : Nat) (q : Parked) (ws : List Word), s.service = .serving →
    validRoute tag 0 lba count = some q → s.tagInUse tag = false → s.routeParks q = false →
    s.offered .front (.route tag 0 lba count) = some ws →
    let ds := (routeSpans lba count).map fun sp =>
      match s.residentOf sp.extent with
      | some r => sp.readDecision r
      | none => sp.allDisk false
    let ps := answerPieces ds
    let read (e n : Nat) : Prop := ∃ r x, s.residentOf e = some r ∧ r.valid.getLsbD n = true ∧ lba ≤ x ∧
      x < lba + count ∧ x / 256 = e ∧ x % 256 / 8 = n
    ∃ t, exec (.route tag 0 lba count) s = .next t ∧
      s.front.out ++ [.routeAnswer .ok tag false ps] <+: t.front.out ∧
      (∀ p ∈ ps, ∀ x, p.first ≤ x → x < p.first + p.count →
        (s.residentOf (x / 256) = none → p.media = .disk) ∧
        (∀ r, s.residentOf (x / 256) = some r →
          (r.valid.getLsbD (x % 256 / 8) = true → p.media = .flash r.slot) ∧
          (r.valid.getLsbD (x % 256 / 8) = false → r.lost.getLsbD (x % 256 / 8) = true → p.media = .none) ∧
          (r.valid.getLsbD (x % 256 / 8) = false → r.lost.getLsbD (x % 256 / 8) = false → p.media = .disk))) ∧
      (∃ y, t.routes = insertBy (·.tag) y s.routes ∧ y = routeEntry q ds ∧ y.tag = tag ∧ y.kind = .read ∧
        y.first = lba / 256 ∧ (∀ n, n < 32 → (y.firstFlash.getLsbD n = true ↔ read (lba / 256) n)) ∧
        ((lba + count - 1) / 256 = lba / 256 → y.second = none) ∧
        ((lba + count - 1) / 256 ≠ lba / 256 → ∃ a, y.second = some (lba / 256 + 1, a) ∧
          ∀ n, n < 32 → (a.getLsbD n = true ↔ read (lba / 256 + 1) n)) ∧
        (y.disk = true ↔ ∃ p ∈ ps, p.media = .disk)) ∧
      (∀ e, t.segmentsOf e = s.segmentsOf e) ∧ t.contexts = s.contexts ∧ t.free = s.free ∧ t.fences = s.fences ∧
      t.tickets = s.tickets ∧ t.parked = s.parked ∧ t.settings = s.settings ∧ t.sizes = s.sizes ∧
      t.windows = s.windows ∧ t.epoch = s.epoch ∧ t.spindle = s.spindle ∧
      t.stats = { s.stats.routed .read ps 0 false with spinUpDemands := t.stats.spinUpDemands }) ∧
  (∀ (sp : Span) (r : Resident) (n : Nat), n < 32 →
    let d := sp.readDecision r
    let touched := decide (sp.lo < 8 * n + 8 ∧ 8 * n < sp.hi)
    d.slot = r.slot ∧
    d.flash.getLsbD n = (touched && r.valid.getLsbD n) ∧
    d.none.getLsbD n = (touched && r.lost.getLsbD n) ∧
    d.disk.getLsbD n = (touched && !r.valid.getLsbD n && !r.lost.getLsbD n) ∧
    (sp.allDisk false).flash.getLsbD n = false ∧ (sp.allDisk false).none.getLsbD n = false ∧
    (sp.allDisk false).disk.getLsbD n = touched) ∧
  (∀ (kind : RouteKind) (ps : List Piece) (absorbed : Nat) (forced : Bool) (c : Stats),
    let flash := (ps.map fun p => match p.media with
      | .flash _ => p.count
      | .disk => 0
      | .none => 0).sum
    let disk := (ps.map fun p => match p.media with
      | .flash _ => 0
      | .disk => p.count
      | .none => 0).sum
    let u := c.routed kind ps absorbed forced
    u.routes = min (c.routes + 1) 4294967295 ∧ u.absorbed = min (c.absorbed + absorbed) 4294967295 ∧
    (kind = .read → u.readFlash = min (c.readFlash + flash) 4294967295 ∧
      u.readDisk = min (c.readDisk + disk) 4294967295) ∧
    (kind = .write → u.writeFlash = min (c.writeFlash + flash) 4294967295 ∧
      u.writeDisk = min (c.writeDisk + disk) 4294967295) ∧
    (kind ≠ .read → u.readFlash = c.readFlash ∧ u.readDisk = c.readDisk) ∧
    (kind ≠ .write → u.writeFlash = c.writeFlash ∧ u.writeDisk = c.writeDisk) ∧
    u.forcedWakes = (if forced then min (c.forcedWakes + 1) 4294967295 else c.forcedWakes) ∧
    u.evictions = c.evictions ∧ u.fillsDone = c.fillsDone ∧ u.flushesDone = c.flushesDone ∧
    u.spinUpDemands = c.spinUpDemands ∧ u.lostSegments = c.lostSegments ∧ u.orderTimeouts = c.orderTimeouts)

/-- The media of a WRITE's segments in a resident extent: the table of R56. -/
def Obligations.AWriteChoosesTheMediaOfEachResidentSegment : Prop :=
  ∀ (sp : Span) (r : Resident) (policy : Policy) (n : Nat), n < 32 →
    let d := sp.writeDecision r policy
    let touched := sp.touchesSeg n
    let full := sp.coversSeg n && touched
    let valid := r.valid.getLsbD n
    let lost := r.lost.getLsbD n
    (r.LostApart → sp.lo < sp.hi →
      d.flash.getLsbD n =
        (touched && (valid || (full && lost) || (full && !valid && !lost && policy != .bypass))) ∧
      d.none.getLsbD n = (touched && lost && !full) ∧
      d.disk.getLsbD n = (touched && !valid && !lost && (!full || policy == .bypass)))

/-- A WRITE that touches a resident extent, as its first or its second (R56, R60, R66, R111, R112, R119): whatever its
other extent is, the segments routed FLASH become valid and dirty and leave lost, the move in flight on the extent
loses validate segments or gains redirtied ones, a record made whole leaves the Promotion Queue, and the Route Table
entry names the flash segments. Where every touched extent is resident: a clean record made dirty joins the Dirty
List's tail, first extent first, and every other record keeps its place there; a record that stays clean moves to its
clean list's tail, first extent first; the answer, the entry and the counters follow the decisions; no other extent,
move, slot or fence changes. The moment of the move to the clean list's tail is log entry 14's reading. -/
def Obligations.AWriteToAResidentExtentDirtiesItsFlashSegments : Prop :=
  (∀ (s : State) (tag lba count : Nat) (q : Parked) (sp : Span) (r : Resident) (ws : List Word),
    s.service = .serving → validRoute tag 1 lba count = some q → s.tagInUse tag = false → s.routeParks q = false →
    s.offered .front (.route tag 1 lba count) = some ws → sp ∈ routeSpans lba count →
    s.residentOf sp.extent = some r →
    let d := sp.writeDecision r (s.policyOf sp.extent)
    ∃ t u x, exec (.route tag 1 lba count) s = .next t ∧
      t.segmentsOf sp.extent =
        some (r.slot, r.state, r.valid ||| d.flash, r.dirty ||| d.flash, segLess r.lost d.flash) ∧
      (∀ c : Fin 4, s.contexts[c].extentInMove = some sp.extent →
        t.contexts[c] = Context.written sp.extent (sp.touched &&& r.absent) d.flash
          (decide (r.valid ||| d.flash = 0#32 ∧ segLess r.lost d.flash = 0#32)) s.contexts[c]) ∧
      (r.valid ||| d.flash ||| segLess r.lost d.flash = SegSet.all → sp.extent ∉ t.promo) ∧
      t.residentOf sp.extent = some u ∧ (r.drainMark = false → u.drainMark = false) ∧
      t.routes = insertBy (·.tag) x s.routes ∧ x.tag = tag ∧ x.kind = .write ∧
      ((x.first = sp.extent ∧ x.firstFlash = d.flash) ∨ x.second = some (sp.extent, d.flash))) ∧
  (∀ (s : State) (tag lba count : Nat) (q : Parked) (ws : List Word),
    s.service = .serving → validRoute tag 1 lba count = some q → s.tagInUse tag = false → s.routeParks q = false →
    s.offered .front (.route tag 1 lba count) = some ws →
    (∀ sp ∈ routeSpans lba count, s.residentOf sp.extent ≠ none) →
    let ds := (routeSpans lba count).map fun sp =>
      match s.residentOf sp.extent with
      | some r => sp.writeDecision r (s.policyOf sp.extent)
      | none => sp.allDisk false
    ∃ t, exec (.route tag 1 lba count) s = .next t ∧
      (∀ e, (∀ sp ∈ routeSpans lba count, sp.extent ≠ e) → t.segmentsOf e = s.segmentsOf e) ∧
      (∀ c : Fin 4, (∀ sp ∈ routeSpans lba count, s.contexts[c].extentInMove ≠ some sp.extent) →
        t.contexts[c] = s.contexts[c]) ∧
      s.front.out ++ [.routeAnswer .ok tag false (answerPieces ds)] <+: t.front.out ∧
      t.routes = insertBy (·.tag) (routeEntry q ds) s.routes ∧ t.free = s.free ∧ t.fences = s.fences ∧
      t.tickets = s.tickets ∧ t.parked = s.parked ∧
      t.stats = { s.stats.routed .write (answerPieces ds) 0 false with spinUpDemands := t.stats.spinUpDemands } ∧
      ((∀ sp ∈ routeSpans lba count, ∀ r, s.residentOf sp.extent = some r →
          (sp.extent ∈ s.dirtyList ↔ r.dirty ≠ 0#32)) →
        t.dirtyList = s.dirtyList ++ ((ds.filter fun d =>
          d.flash != 0#32 && !s.dirtyList.contains d.span.extent).map fun d => d.span.extent)) ∧
      (∀ b : Band, ((routeSpans lba count).map (·.extent)).filter (fun e =>
        (t.residentOf e).any fun u => u.cleanBand == some b) <:+ t.clean.get b)) ∧
  ((∀ (e : Nat) (gone flash : SegSet) (bare : Bool) (m : FillMove), m.extent = e →
    Context.written e gone flash bare (.fill m) =
      .fill { m with validate := segLess m.validate gone, fresh := m.fresh && bare }) ∧
  (∀ (e : Nat) (gone flash : SegSet) (bare : Bool) (m : FlushMove), m.extent = e →
    Context.written e gone flash bare (.flush m) = .flush { m with redirtied := m.redirtied ||| (flash &&& m.work) }) ∧
  (∀ (e : Nat) (gone flash : SegSet) (bare : Bool) (x : Context), x.extentInMove ≠ some e →
    Context.written e gone flash bare x = x))

/-- A WRITE to a non-resident extent to which absorb applies (R57 to R59, R66, R92, R97, R98, R101). With a free slot
to be had, the lowest whose RETIRE_SLOT is not owed takes a record of the fully covered segments, valid and dirty,
with the heat that the watch entry, caught up and weighed, or a fresh start gives it; the watch entry leaves, the
record joins the Dirty List's tail, and the answer routes the covered segments to the slot. So it is for an extent of
a route of two whose other extent is resident, and for two absorbed extents, the first before the second. With no free
slot a victim is evicted: its RETIRE_SLOT is placed or owed, EVICTIONS rises, its heat returns to the head of
last-touch order, and its slot passes on. With no victim, every clean record being held, claimed or, where pinned,
under a FILL, every touched segment goes to DISK, no record is made, and forced_wake is yes, and counted, when the
spindle is not UP. That a RETIRE_SLOT waits behind a record owed to the port is log entry 11's reading. -/
def Obligations.AnAbsorbTakesTheLowestFreeSlotOrForcesAWake : Prop :=
  let applies (s : State) (e : Nat) : Prop :=
    (s.spindle ≠ .up ∧ s.policyOf e ≠ .bypass) ∨ (s.policyOf e = .pin ∧ s.pinnedCount < s.pinLimit)
  let absorbed (sp : Span) (n : Nat) : Decision :=
    { span := sp, slot := n, flash := sp.full, disk := segLess sp.touched sp.full, none := 0#32, trimmed := 0#32,
      absorbed := sp.full, failed := false }
  let noVictim (s : State) : Prop :=
    (∀ b : Band, ∀ x ∈ s.clean.get b, s.held x = true ∨ s.claimed x = true) ∧
      ∀ r ∈ s.records, r.isPinnedClean = true → r.state = .filling ∨ s.held r.extent = true ∨ s.claimed r.extent = true
  (∀ (s : State) (tag lba count n : Nat) (q : Parked) (sp : Span) (ws : List Word),
    s.service = .serving → validRoute tag 1 lba count = some q → s.tagInUse tag = false → s.routeParks q = false →
    s.offered .front (.route tag 1 lba count) = some ws → routeSpans lba count = [sp] →
    s.residentOf sp.extent = none → sp.full ≠ 0#32 → applies s sp.extent →
    s.free.find? (fun m => !s.retireOwed m) = some n →
    let base := if (s.classify lba count).1 then s.settings.wSwrite else s.settings.wRwrite
    let weight := match s.policyOf sp.extent with
      | .bypass => 0
      | .boost => 2 * base
      | .normal => base
      | .pin => base
    ∃ t r, exec (.route tag 1 lba count) s = .next t ∧ t.residentOf sp.extent = some r ∧
      r.slot = n ∧ r.state = .resident ∧ r.valid = sp.full ∧ r.dirty = sp.full ∧ r.lost = 0#32 ∧
      r.pinned = (s.policyOf sp.extent == .pin && decide (s.pinnedCount < s.pinLimit)) ∧
      r.classified = s.policyOf sp.extent ∧ r.retries = 0 ∧ r.stuck = false ∧ r.drainMark = false ∧
      r.owed = .absent ∧
      (∀ x, s.watchOf sp.extent = some x →
        let caught := x.heat.caughtUp s.settings s.epoch
        r.heat = { caught with heat := min (caught.heat + weight) 65535 }) ∧
      (s.watchOf sp.extent = none →
        r.heat = { heat := min weight 65535, band := .b0, settle := 0, stamp := s.epoch }) ∧
      t.free = without n s.free ∧ t.watchOf sp.extent = none ∧
      t.dirtyList = (if sp.extent ∈ s.dirtyList then s.dirtyList else s.dirtyList ++ [sp.extent]) ∧
      (∀ e, e ≠ sp.extent → t.segmentsOf e = s.segmentsOf e) ∧ t.contexts = s.contexts ∧ t.fences = s.fences ∧
      s.front.out ++ [.routeAnswer .ok tag false (answerPieces [absorbed sp n])] <+: t.front.out ∧
      t.routes = insertBy (·.tag) (routeEntry q [absorbed sp n]) s.routes ∧ t.flashOwed = s.flashOwed ∧
      t.stats.evictions = s.stats.evictions ∧
      t.stats.absorbed = min (s.stats.absorbed + segCount sp.full) 4294967295) ∧
  ((∀ (s : State) (tag lba count n : Nat) (q : Parked) (sp other : Span) (ws : List Word),
    s.service = .serving → validRoute tag 1 lba count = some q → s.tagInUse tag = false → s.routeParks q = false →
    s.offered .front (.route tag 1 lba count) = some ws → sp ∈ routeSpans lba count →
    other ∈ routeSpans lba count → other ≠ sp → s.residentOf sp.extent = none → s.residentOf other.extent ≠ none →
    sp.full ≠ 0#32 → s.spindle ≠ .up → s.policyOf sp.extent ≠ .bypass →
    s.free.find? (fun m => !s.retireOwed m) = some n →
    ∃ t r, exec (.route tag 1 lba count) s = .next t ∧ t.residentOf sp.extent = some r ∧
      r.slot = n ∧ r.state = .resident ∧ r.valid = sp.full ∧ r.dirty = sp.full ∧ r.lost = 0#32 ∧
      (∀ x, (s.examineRoute q).watchOf sp.extent = some x → r.heat = x.heat) ∧
      t.free = without n s.free ∧ t.watchOf sp.extent = none ∧
      (∀ e, e ≠ sp.extent → e ≠ other.extent → t.segmentsOf e = s.segmentsOf e) ∧
      t.stats.evictions = s.stats.evictions ∧
      t.stats.absorbed = min (s.stats.absorbed + segCount sp.full) 4294967295) ∧
  (∀ (s : State) (tag lba count m n : Nat) (rest : List Nat) (q : Parked) (a b : Span) (ws : List Word),
    s.service = .serving → validRoute tag 1 lba count = some q → s.tagInUse tag = false → s.routeParks q = false →
    s.offered .front (.route tag 1 lba count) = some ws → routeSpans lba count = [a, b] →
    s.residentOf a.extent = none → s.residentOf b.extent = none → a.full ≠ 0#32 → b.full ≠ 0#32 →
    s.spindle ≠ .up → s.policyOf a.extent ≠ .bypass → s.policyOf b.extent ≠ .bypass →
    s.free.filter (fun k => !s.retireOwed k) = m :: n :: rest → m ≠ n →
    ∃ t x y, exec (.route tag 1 lba count) s = .next t ∧ t.residentOf a.extent = some x ∧
      t.residentOf b.extent = some y ∧ x.slot = m ∧ y.slot = n ∧ x.valid = a.full ∧ x.dirty = a.full ∧
      y.valid = b.full ∧ y.dirty = b.full ∧
      (∀ w, (s.examineRoute q).watchOf a.extent = some w → x.heat = w.heat) ∧
      (∀ w, (s.examineRoute q).watchOf b.extent = some w → y.heat = w.heat) ∧
      t.free = without n (without m s.free) ∧
      (a.extent ∉ s.dirtyList → b.extent ∉ s.dirtyList → t.dirtyList = s.dirtyList ++ [a.extent, b.extent]) ∧
      (∀ e, e ≠ a.extent → e ≠ b.extent → t.segmentsOf e = s.segmentsOf e) ∧
      s.front.out ++ [.routeAnswer .ok tag false (answerPieces [absorbed a m, absorbed b n])] <+: t.front.out ∧
      t.routes = insertBy (·.tag) (routeEntry q [absorbed a m, absorbed b n]) s.routes ∧
      t.stats.absorbed = min (s.stats.absorbed + (segCount a.full + segCount b.full)) 4294967295)) ∧
  (∀ (s v : State) (tag lba count e : Nat) (q : Parked) (sp : Span) (x : Resident) (ws : List Word),
    s.service = .serving → validRoute tag 1 lba count = some q → s.tagInUse tag = false → s.routeParks q = false →
    s.offered .front (.route tag 1 lba count) = some ws → routeSpans lba count = [sp] →
    s.residentOf sp.extent = none → sp.full ≠ 0#32 → applies s sp.extent →
    s.free.find? (fun m => !s.retireOwed m) = none →
    (s.examineRoute q).victim [sp.extent] (some .b3) = (some e, v) → v.residentOf e = some x →
    s.watch.length + 2 ≤ 4096 → s.watchOf e = none →
    ∃ t r, exec (.route tag 1 lba count) s = .next t ∧ t.residentOf sp.extent = some r ∧
      r.slot = x.slot ∧ r.state = .resident ∧ r.valid = sp.full ∧ r.dirty = sp.full ∧ r.lost = 0#32 ∧
      t.segmentsOf e = none ∧ (∀ y, y ≠ sp.extent → y ≠ e → t.segmentsOf y = s.segmentsOf y) ∧
      t.free = s.free ∧ t.fences = s.fences ∧ t.contexts = s.contexts ∧
      (s.flashOwed = [] → t.flashOwed = [] ∧ s.flash.out ++ [.retireSlot x.slot] <+: t.flash.out) ∧
      (s.flashOwed ≠ [] → t.flashOwed = s.flashOwed ++ [.retire x.slot]) ∧
      (x.heat.heat ≠ 0 → t.touch.head? = some e ∧ (e ∈ t.promo ↔ e ∈ v.promo) ∧
        ∃ w, t.watchOf e = some w ∧ w.heat = x.heat) ∧
      (x.heat.heat = 0 → t.watchOf e = none ∧ e ∉ t.promo) ∧
      (∀ b, e ∉ t.clean.get b) ∧
      s.front.out ++ [.routeAnswer .ok tag false (answerPieces [absorbed sp x.slot])] <+: t.front.out ∧
      t.routes = insertBy (·.tag) (routeEntry q [absorbed sp x.slot]) s.routes ∧
      t.stats.evictions = min (s.stats.evictions + 1) 4294967295 ∧
      t.stats.absorbed = min (s.stats.absorbed + segCount sp.full) 4294967295) ∧
  ((∀ (s : State) (tag lba count : Nat) (q : Parked) (sp : Span) (ws : List Word),
    s.service = .serving → validRoute tag 1 lba count = some q → s.tagInUse tag = false → s.routeParks q = false →
    s.offered .front (.route tag 1 lba count) = some ws → routeSpans lba count = [sp] →
    s.residentOf sp.extent = none → sp.full ≠ 0#32 → applies s sp.extent →
    s.free.find? (fun m => !s.retireOwed m) = none → noVictim s →
    ∃ t, exec (.route tag 1 lba count) s = .next t ∧
      s.front.out ++ [.routeAnswer .ok tag (s.spindle != .up) (answerPieces [sp.allDisk true])] <+: t.front.out ∧
      (∀ e, t.segmentsOf e = s.segmentsOf e) ∧ t.free = s.free ∧
      t.routes = insertBy (·.tag) (routeEntry q [sp.allDisk true]) s.routes ∧
      t.stats.forcedWakes =
        (if s.spindle = .up then s.stats.forcedWakes else min (s.stats.forcedWakes + 1) 4294967295)) ∧
  (∀ (s : State) (tag lba count : Nat) (q : Parked) (a b : Span) (ws : List Word),
    s.service = .serving → validRoute tag 1 lba count = some q → s.tagInUse tag = false → s.routeParks q = false →
    s.offered .front (.route tag 1 lba count) = some ws → routeSpans lba count = [a, b] →
    s.residentOf a.extent = none → s.residentOf b.extent = none → (a.full ≠ 0#32 ∨ b.full ≠ 0#32) →
    s.spindle ≠ .up → s.policyOf a.extent ≠ .bypass → s.policyOf b.extent ≠ .bypass →
    s.free.find? (fun m => !s.retireOwed m) = none → noVictim s →
    ∃ t, exec (.route tag 1 lba count) s = .next t ∧
      s.front.out ++ [.routeAnswer .ok tag true
        [{ media := .disk, first := lba, count := count }]] <+: t.front.out ∧
      (∀ e, t.segmentsOf e = s.segmentsOf e) ∧ t.free = s.free ∧
      t.stats.forcedWakes = min (s.stats.forcedWakes + 1) 4294967295))

/-- A TRIM of one extent or two (R61 to R63, R101). Of each resident one the fully covered segments leave valid, dirty
and lost, and a FILL's validate set; TRIM_MARK names those that left valid or lost; and a record left empty, RESIDENT
and unheld is retired, its RETIRE_SLOT placed or owed. The marks stand first extent first (R63), the retirements in
ascending slot order (R101), the Residency Table standing in that order. The watch entry of an
extent that is not resident is caught up, and leaves with its heat and its queue entry where the TRIM covers the whole
extent; an extent with neither record nor entry stays unknown. That both marks stand
before the first RETIRE_SLOT is log entry 19's reading of R63 and R101; that a RETIRE_SLOT waits behind a record owed to
the port is log entry 11's. -/
def Obligations.ATrimTakesItsSegmentsOutOfTheMap : Prop :=
  (∀ (s : State) (tag lba count : Nat) (q : Parked) (ws : List Word),
    s.service = .serving → validRoute tag 2 lba count = some q → s.tagInUse tag = false → s.routeParks q = false →
    s.offered .front (.route tag 2 lba count) = some ws →
    let gone (sp : Span) (r : Resident) : SegSet := sp.full &&& (r.valid ||| r.lost)
    let mark (sp : Span) : List Outbound :=
      match s.residentOf sp.extent with
      | none => []
      | some r => if gone sp r = 0#32 then [] else [.trimMark r.slot (gone sp r)]
    let retired (sp : Span) : List Nat :=
      match s.residentOf sp.extent with
      | none => []
      | some r =>
        if segLess r.valid sp.full = 0#32 ∧ segLess r.lost sp.full = 0#32 ∧ r.state = .resident ∧
          s.held sp.extent = false then [r.slot] else []
    let spans := routeSpans lba count
    ∃ t, exec (.route tag 2 lba count) s = .next t ∧
      s.front.out ++ [.routeAnswer .ok tag false []] <+: t.front.out ∧
      (∀ e, (∀ sp ∈ spans, sp.extent ≠ e) → t.segmentsOf e = s.segmentsOf e) ∧
      (∀ sp ∈ spans, s.residentOf sp.extent = none → t.segmentsOf sp.extent = none) ∧
      (∀ sp ∈ spans, ∀ r, s.residentOf sp.extent = some r →
        (retired sp = [] → t.segmentsOf sp.extent =
          some (r.slot, r.state, segLess r.valid sp.full, segLess r.dirty sp.full, segLess r.lost sp.full)) ∧
        (retired sp ≠ [] → t.segmentsOf sp.extent = none) ∧
        (segLess r.dirty sp.full = 0#32 → sp.extent ∉ t.dirtyList)) ∧
      (∀ c : Fin 4,
        (∀ sp ∈ spans, s.contexts[c].extentInMove = some sp.extent → s.residentOf sp.extent ≠ none →
          t.contexts[c] = Context.trimmed sp.extent sp.full s.contexts[c]) ∧
        ((∀ sp ∈ spans, s.contexts[c].extentInMove ≠ some sp.extent) → t.contexts[c] = s.contexts[c])) ∧
      t.fences = s.fences ∧
      s.flash.out ++ spans.flatMap mark <+: t.flash.out ∧ (s.flashOwed = [] → t.flashOwed = []) ∧
      (∀ n, n ∈ t.free ↔ n ∈ s.free ∨ n ∈ spans.flatMap retired) ∧
      (s.Ascending ∨ (spans.flatMap retired).length ≤ 1 →
        let inOrder := (spans.flatMap retired).foldl (fun l n => insertBy id n l) []
        t.free = inOrder.foldl (fun l n => insertBy id n l) s.free ∧
        (s.flashOwed = [] →
          s.flash.out ++ spans.flatMap mark ++ inOrder.map .retireSlot <+: t.flash.out) ∧
        (s.flashOwed ≠ [] → t.flashOwed = s.flashOwed ++ inOrder.map .retire)) ∧
      t.routes = insertBy (·.tag)
        { tag := tag, kind := .trim, first := lba / 256, firstFlash := 0#32,
          second := if (lba + count - 1) / 256 = lba / 256 then none else some (lba / 256 + 1, 0#32), disk := false }
        s.routes ∧
      t.stats = { s.stats.routed .trim [] 0 false with spinUpDemands := t.stats.spinUpDemands } ∧
      (∀ sp ∈ spans, ∀ x, s.residentOf sp.extent = none → s.watchOf sp.extent = some x → sp.full ≠ SegSet.all →
        s.watch.length < 4096 →
        let caught := x.heat.caughtUp s.settings s.epoch
        t.watchOf sp.extent = some { x with heat := { caught with heat := min caught.heat 65535 } })) ∧
  (∀ (s : State) (tag lba count : Nat) (q : Parked) (sp : Span) (ws : List Word),
    s.service = .serving → validRoute tag 2 lba count = some q → s.tagInUse tag = false → s.routeParks q = false →
    s.offered .front (.route tag 2 lba count) = some ws → routeSpans lba count = [sp] →
    s.residentOf sp.extent = none →
    ∃ t, exec (.route tag 2 lba count) s = .next t ∧
      (∀ e, t.segmentsOf e = s.segmentsOf e) ∧ t.contexts = s.contexts ∧ t.free = s.free ∧
      t.dirtyList = s.dirtyList ∧ t.clean = s.clean ∧
      (s.watchOf sp.extent = none → t.watch = s.watch ∧ t.touch = s.touch ∧ t.promo = s.promo) ∧
      (sp.full = SegSet.all → s.watchOf sp.extent ≠ none →
        t.watch = s.watch.filter (fun w => w.extent ≠ sp.extent) ∧ t.touch = without sp.extent s.touch ∧
        t.promo = without sp.extent s.promo) ∧
      (∀ x, sp.full ≠ SegSet.all → s.watchOf sp.extent = some x →
        let caught := x.heat.caughtUp s.settings s.epoch
        t.watchOf sp.extent = some { x with heat := { caught with heat := min caught.heat 65535 } } ∧
        t.touch = s.touch ∧
        (∀ e, e ≠ sp.extent → t.watchOf e = s.watchOf e))) ∧
  ((∀ (sp : Span), sp.full = SegSet.all ↔ sp.lo = 0 ∧ 256 ≤ sp.hi) ∧
  (∀ (e : Nat) (full : SegSet) (m : FillMove), m.extent = e →
    Context.trimmed e full (.fill m) = .fill { m with validate := segLess m.validate full }) ∧
  (∀ (e : Nat) (full : SegSet) (m : FlushMove), Context.trimmed e full (.flush m) = .flush m) ∧
  (∀ (e : Nat) (full : SegSet) (x : Context), x.extentInMove ≠ some e → Context.trimmed e full x = x))

/-- A ROUTE whose tag is in use is refused; one that touches an extent that parks is parked as sent, or answered BUSY
when 8 are parked (R17, R50, R51). An extent parks front routes when its claim's owner or pending port is the flash or
the disk port (R51, R84). -/
def Obligations.ARouteIsRefusedItsTagOrParked : Prop :=
  (∀ (s : State) (tag kind lba count : Nat) (q : Parked) (ws : List Word), s.service = .serving →
    validRoute tag kind lba count = some q → s.offered .front (.route tag kind lba count) = some ws →
    (s.tagInUse tag = true →
      exec (.route tag kind lba count) s = .next (s.answered .front (.routeAnswer .tagInUse tag false []))) ∧
    (s.tagInUse tag = false → s.routeParks q = true → s.parked.length < 8 →
      exec (.route tag kind lba count) s =
        .next { s with
          front := { s.front with fifo := s.front.fifo.tail }, parked := s.parked ++ [q], pointer := .flash }) ∧
    (s.tagInUse tag = false → s.routeParks q = true → 8 ≤ s.parked.length →
      exec (.route tag kind lba count) s = .next (s.answered .front (.routeAnswer .busy tag false [])))) ∧
  (∀ (s : State) (e : Nat),
    s.parks e = true ↔
      ∃ i c, s.claimIndex e = some i ∧ s.claims[i] = some c ∧ c.standing.port ≠ .front)

/-- PARKED_ROUTE_READMIT (R52, R53): the oldest parked route that no extent of it parks leaves the Park List and is
routed in this event as a ROUTE taken now is, the front FIFO left as it is. Its pieces and its forced_wake are those
of the decisions of parts 1 to 3 of R53 made on the state it is re-admitted in: for a READ the map's as it stands, for
a TRIM none; its Route Table entry and its counters follow them. Without such a route nothing happens; that case is
log entry 1's. -/
def Obligations.TheOldestReadmissibleRouteIsRouted : Prop :=
  (∀ (s : State) (q : Parked), s.arbiter = some .front → s.parked.find? (fun x => !s.routeParks x) = some q →
    s.service = .serving →
    let u : State := { s with parked := s.parked.erase q }
    let ds := ((u.examineRoute q).decideRoute q).1
    let forced := decide (s.spindle ≠ .up ∧ ∃ d ∈ ds, d.failed = true)
    let ps := if q.kind = .trim then [] else answerPieces ds
    ∃ t, exec .parkedRouteReadmit s = .next t ∧ t = { u.routed q with pointer := .flash } ∧
      t.parked = s.parked.erase q ∧ t.front.fifo = s.front.fifo ∧
      t.pointer = .flash ∧ t.routes = insertBy (·.tag) (routeEntry q ds) s.routes ∧
      (∃ x ∈ t.routes, x.tag = q.tag ∧ x.kind = q.kind ∧ x.first = q.lba / 256) ∧
      s.front.out ++ [.routeAnswer .ok q.tag forced ps] <+: t.front.out ∧
      (q.kind = .read → ds = (routeSpans q.lba q.count).map fun sp =>
        match s.residentOf sp.extent with
        | some r => sp.readDecision r
        | none => sp.allDisk false) ∧
      (q.kind ≠ .write → forced = false) ∧
      t.stats.routes = min (s.stats.routes + 1) 4294967295 ∧
      t.stats.forcedWakes =
        (if forced then min (s.stats.forcedWakes + 1) 4294967295 else s.stats.forcedWakes)) ∧
  (∀ (s : State) (tag kind lba count : Nat) (q : Parked) (ws : List Word), s.service = .serving →
    validRoute tag kind lba count = some q → s.tagInUse tag = false → s.routeParks q = false →
    s.offered .front (.route tag kind lba count) = some ws →
    let u : State := { s with front := { s.front with fifo := s.front.fifo.tail } }
    exec (.route tag kind lba count) s = .next { u.routed q with pointer := .flash }) ∧
  (∀ s : State, s.arbiter ≠ some .front ∨ s.parked.find? (fun x => !s.routeParks x) = none →
    exec .parkedRouteReadmit s = .next s)

/-- The pieces of a READ or WRITE answer cover the route's sectors exactly once, in LBA order, in at most 33 pieces
(R64, R65). -/
def Obligations.AnAnswersPiecesCoverTheRouteExactlyOnce : Prop :=
  ∀ (lba count : Nat) (ds : List Decision), 1 ≤ count → count ≤ 256 →
    ds.map (fun d => d.span) = routeSpans lba count →
    let ps := answerPieces ds
    (∃ p rest, ps = p :: rest ∧ p.first = lba) ∧
    List.IsChain (fun a b : Piece => b.first = a.first + a.count ∧ a.media ≠ b.media) ps ∧
    (ps.map (·.count)).sum = count ∧ ps.length ≤ 33

/-- DONE (R5, R67 to R70, R101, R147): the entry leaves the Route Table. OK changes no segment set of a record that is
not empty, and a disk-flagged entry re-arms the advice timer; an empty RESIDENT record of either extent that only this
entry held is retired in the same event, in ascending slot order. FAILED turns the flash-routed segments of a WRITE, of
its first extent and then its second, that are still valid from valid and dirty to lost, with LOST_MARK and the count
of them; a failed READ or TRIM changes no segment set. A tag without an entry is UNKNOWN_TAG. That order is log entry
19's reading of R101, and the wait behind a record owed to the port log entry 11's. -/
def Obligations.ADoneEndsTheRouteAndItsHolds : Prop :=
  ((∀ (s : State) (tag : Nat) (x : RouteEntry) (ws : List Word), s.service = .serving → tag < 32 →
    s.offered .front (.done tag 0) = some ws → s.routes.find? (fun y => y.tag == tag) = some x →
    (∀ e ∈ x.extents, ∀ r, s.residentOf e = some r → r.isEmpty = false) →
    ∃ t, exec (.done tag 0) s = .next t ∧ t.routes = s.routes.filter (fun y => y.tag ≠ tag) ∧
      s.front.out ++ [.doneAnswer .ok tag] <+: t.front.out ∧ (∀ e, t.segmentsOf e = s.segmentsOf e) ∧
      t.contexts = s.contexts ∧ t.free = s.free ∧ t.fences = s.fences ∧ t.watch = s.watch ∧ t.promo = s.promo ∧
      t.clean = s.clean ∧ t.dirtyList = s.dirtyList ∧
      t.adviceTimer =
        (if x.disk = true ∧ s.spindle = .up ∧ s.adviceSent = false ∧ s.settings.adviceDelay ≠ 0 then
          some s.settings.adviceDelay
        else s.adviceTimer)) ∧
  (∀ (s : State) (tag : Nat) (x : RouteEntry) (r : Resident) (ws : List Word), s.service = .serving → tag < 32 →
    s.offered .front (.done tag 0) = some ws → s.routes.find? (fun y => y.tag == tag) = some x →
    x.second = none → s.residentOf x.first = some r → r.isEmpty = true → r.state = .resident →
    (∀ y ∈ s.routes, y.tag ≠ tag → y.touches x.first = false) → s.flashOwed = [] →
    ∃ t, exec (.done tag 0) s = .next t ∧ t.routes = s.routes.filter (fun y => y.tag ≠ tag) ∧
      t.segmentsOf x.first = none ∧ t.free = insertBy id r.slot s.free ∧
      s.flash.out ++ [.retireSlot r.slot] <+: t.flash.out) ∧
  (∀ (s : State) (tag e : Nat) (x : RouteEntry) (r : Resident) (ws : List Word), s.service = .serving → tag < 32 →
    s.offered .front (.done tag 0) = some ws → s.routes.find? (fun y => y.tag == tag) = some x →
    e ∈ x.extents → s.residentOf e = some r →
    ∃ t, exec (.done tag 0) s = .next t ∧ t.routes = s.routes.filter (fun y => y.tag ≠ tag) ∧
      (∀ y, y ∉ x.extents → t.segmentsOf y = s.segmentsOf y) ∧
      (r.isEmpty = true ∧ r.state = .resident ∧ (∀ y ∈ s.routes, y.tag ≠ tag → y.touches e = false) →
        t.segmentsOf e = none ∧ r.slot ∈ t.free ∧
          (s.flashOwed = [] → .retireSlot r.slot ∈ t.flash.out) ∧
          (s.flashOwed ≠ [] → .retire r.slot ∈ t.flashOwed)) ∧
      (r.isEmpty = false ∨ r.state ≠ .resident ∨ (∃ y ∈ s.routes, y.tag ≠ tag ∧ y.touches e = true) →
        t.segmentsOf e = s.segmentsOf e)) ∧
  (∀ (s : State) (tag e : Nat) (a : SegSet) (x : RouteEntry) (r u : Resident) (ws : List Word),
    s.service = .serving → tag < 32 → s.Ascending →
    s.offered .front (.done tag 0) = some ws → s.routes.find? (fun y => y.tag == tag) = some x →
    x.second = some (e, a) → e ≠ x.first → (∀ y ∈ s.routes, y.tag ≠ tag → y.touches x.first = false) →
    (∀ y ∈ s.routes, y.tag ≠ tag → y.touches e = false) → s.residentOf x.first = some r → s.residentOf e = some u →
    r.isEmpty = true → r.state = .resident → u.isEmpty = true → u.state = .resident → s.flashOwed = [] →
    ∃ t, exec (.done tag 0) s = .next t ∧ t.segmentsOf x.first = none ∧ t.segmentsOf e = none ∧
      s.flash.out ++ [.retireSlot (min r.slot u.slot), .retireSlot (max r.slot u.slot)] <+: t.flash.out)) ∧
  ((∀ (s : State) (tag : Nat) (x : RouteEntry) (ws : List Word), s.service = .serving → tag < 32 →
    s.offered .front (.done tag 1) = some ws → s.routes.find? (fun y => y.tag == tag) = some x →
    x.kind = .write → (∀ a, x.second ≠ some (x.first, a)) →
    let sets := (x.first, x.firstFlash) :: x.second.toList
    let gone (y : Nat × SegSet) : SegSet :=
      match s.residentOf y.1 with
      | none => 0#32
      | some r => y.2 &&& r.valid
    ∃ t, exec (.done tag 1) s = .next t ∧ t.routes = s.routes.filter (fun y => y.tag ≠ tag) ∧
      s.front.out ++ [.doneAnswer .ok tag] <+: t.front.out ∧
      (∀ y ∈ sets, ∀ r, s.residentOf y.1 = some r → (gone y ≠ 0#32 ∨ r.isEmpty = false) →
        t.segmentsOf y.1 =
          some (r.slot, r.state, segLess r.valid (gone y), segLess r.dirty (gone y), r.lost ||| gone y) ∧
        (gone y ≠ 0#32 → segLess r.dirty (gone y) = 0#32 → y.1 ∉ t.dirtyList)) ∧
      (∀ e, e ∉ x.extents → t.segmentsOf e = s.segmentsOf e) ∧ t.contexts = s.contexts ∧
      s.flash.out ++ sets.flatMap (fun y =>
        match s.residentOf y.1 with
        | none => []
        | some r => if gone y = 0#32 then [] else [.lostMark r.slot (gone y)]) <+: t.flash.out ∧
      (s.stats.lostSegments ≤ 4294967295 ∨ (∃ y ∈ sets, gone y ≠ 0#32) →
        t.stats.lostSegments =
          min (s.stats.lostSegments + (sets.map fun y => segCount (gone y)).sum) 4294967295)) ∧
  (∀ (s : State) (tag : Nat) (x : RouteEntry) (ws : List Word), s.service = .serving → tag < 32 →
    s.offered .front (.done tag 1) = some ws → s.routes.find? (fun y => y.tag == tag) = some x →
    x.kind ≠ .write → (∀ e ∈ x.extents, ∀ r, s.residentOf e = some r → r.isEmpty = false) →
    ∃ t, exec (.done tag 1) s = .next t ∧ t.routes = s.routes.filter (fun y => y.tag ≠ tag) ∧
      s.front.out ++ [.doneAnswer .ok tag] <+: t.front.out ∧ (∀ e, t.segmentsOf e = s.segmentsOf e)) ∧
  (∀ (s : State) (tag outcome : Nat) (ws : List Word), s.service = .serving → tag < 32 → outcome < 2 →
    s.offered .front (.done tag outcome) = some ws → s.routes.find? (fun y => y.tag == tag) = none →
    exec (.done tag outcome) s = .next (s.answered .front (.doneAnswer .unknownTag tag))))

/-! ### Claims -/

/-- CLAIM (R78 to R80). Of an extent without an entry: the lowest free entry is taken, owned where the extent is
quiescent for the port and pending where it is not; with no free entry the answer is TABLE_FULL and nothing changes. Of
an extent that has an entry: a port already in it is answered ALREADY_OWNER, another joins the tail of the waiters. -/
def Obligations.AClaimTakesAFreeEntryOrJoinsTheWaiters : Prop :=
  ((∀ (s : State) (p : Port) (e : Nat),
    s.quiescent p e = true ↔ s.inMove e = false ∧ (p = .front ∨ s.held e = false)) ∧
  (∀ (s : State) (p : Port) (e : Nat) (i : Fin 8) (ws : List Word), s.service = .serving → e ≤ 16777215 →
    s.offered p (.claim p e) = some ws → (∀ (j : Fin 8) d, s.claims[j] = some d → d.extent ≠ e) →
    s.claims[i] = none → (∀ j : Fin 8, j < i → s.claims[j] ≠ none) →
    (s.quiescent p e = true →
      exec (.claim p e) s =
        .next { s.answered p (.answer 0x03 .ok ws.tail) with
          claims := s.claims.set i (some { extent := e, standing := .owned p false, waiters := [] }) }) ∧
    (s.quiescent p e = false →
      exec (.claim p e) s =
        .next { s.answered p (.answer 0x03 .waiting ws.tail) with
          claims := s.claims.set i (some { extent := e, standing := .pending p, waiters := [] }) })) ∧
  (∀ (s : State) (p : Port) (e : Nat) (ws : List Word), s.service = .serving → e ≤ 16777215 →
    s.offered p (.claim p e) = some ws → (∀ (j : Fin 8), ∃ d, s.claims[j] = some d ∧ d.extent ≠ e) →
    exec (.claim p e) s = .next (s.answered p (.answer 0x03 .tableFull ws.tail)))) ∧
  (∀ (s : State) (p : Port) (e : Nat) (i : Fin 8) (c : ClaimEntry) (ws : List Word), s.service = .serving →
    e ≤ 16777215 → s.offered p (.claim p e) = some ws → s.claims[i] = some c → c.extent = e →
    (∀ (j : Fin 8) d, j < i → s.claims[j] = some d → d.extent ≠ e) →
    ((c.standing.port = p ∨ p ∈ c.waiters) →
      exec (.claim p e) s = .next (s.answered p (.answer 0x03 .alreadyOwner ws.tail))) ∧
    (c.standing.port ≠ p → p ∉ c.waiters →
      exec (.claim p e) s =
        .next { s.answered p (.answer 0x03 .waiting ws.tail) with
          claims := s.claims.set i (some { c with waiters := c.waiters ++ [p] }) }))

/-- RELEASE (R82, R83, R87): a port not in the extent's entry is answered NOT_OWNER; a waiter leaves the waiters; the
owner or the pending port leaves the entry, which is freed, or granted to the first waiter where the extent is
quiescent for it, with its notice placed or owed, or pending for it. -/
def Obligations.AReleaseFreesTheEntryOrPassesItOn : Prop :=
  (∀ (s : State) (p : Port) (e : Nat) (ws : List Word), s.service = .serving → e ≤ 16777215 →
    s.offered p (.release p e) = some ws →
    (∀ (j : Fin 8) d, s.claims[j] = some d → d.extent = e → d.standing.port ≠ p ∧ p ∉ d.waiters) →
    exec (.release p e) s = .next (s.answered p (.answer 0x04 .notOwner ws.tail))) ∧
  (∀ (s : State) (p : Port) (e : Nat) (i : Fin 8) (c : ClaimEntry) (ws : List Word), s.service = .serving →
    e ≤ 16777215 → s.offered p (.release p e) = some ws → s.claims[i] = some c → c.extent = e →
    (∀ (j : Fin 8) d, j ≠ i → s.claims[j] = some d → d.extent ≠ e) →
    let t := s.answered p (.answer 0x04 .ok ws.tail)
    (c.standing.port ≠ p → p ∈ c.waiters → (∀ q, c.standing = .pending q → s.quiescent q e = false) →
      exec (.release p e) s =
        .next { t with claims := s.claims.set i (some { c with waiters := c.waiters.filter (fun q => q ≠ p) }) }) ∧
    (c.standing.port = p → c.waiters = [] →
      exec (.release p e) s = .next { t with claims := s.claims.set i none }) ∧
    (∀ w rest, c.standing.port = p → c.waiters = w :: rest →
      (s.quiescent w e = false →
        exec (.release p e) s =
          .next { t with
            claims := s.claims.set i (some { extent := e, standing := .pending w, waiters := rest }) }) ∧
      (s.quiescent w e = true → (t.link w).out.length < 16 →
        exec (.release p e) s =
          .next { t.setLink w { t.link w with out := (t.link w).out ++ [.claimGranted e] } with
            claims := s.claims.set i (some { extent := e, standing := .owned w false, waiters := rest }) }) ∧
      (s.quiescent w e = true → 16 ≤ (t.link w).out.length →
        exec (.release p e) s =
          .next { t with
            claims := s.claims.set i (some { extent := e, standing := .owned w true, waiters := rest }) })))

/-! ### Settings and inspection -/

/-- The SETs of one number that depends on nothing else (R178, R179): the clamped value is written and answered, and
nothing else changes. The answer's other words are the request's (log entry 5). The clamp of PROMOTE_BAND is log
entry 17's reading. -/
def Obligations.ASetOfOneNumberIsClampedWrittenAndAnswered : Prop :=
  ∀ (s : State) (v : Nat) (ws : List Word),
    (s.offered .front (.setEpochLen v) = some ws →
      exec (.setEpochLen v) s =
        .next (State.answered .front (.answer 0x07 .ok (word 0x01 :: word (min v 1023) :: ws.drop 2))
          { s with settings := { s.settings with epochLen := min v 1023 } })) ∧
    (s.offered .front (.setDecay v) = some ws →
      exec (.setDecay v) s =
        .next (State.answered .front (.answer 0x07 .ok (word 0x02 :: word (max 1 (min v 8)) :: ws.drop 2))
          { s with settings := { s.settings with decay := max 1 (min v 8) } })) ∧
    (s.offered .front (.setSettle v) = some ws →
      exec (.setSettle v) s =
        .next (State.answered .front (.answer 0x07 .ok (word 0x04 :: word (max 1 (min v 15)) :: ws.drop 2))
          { s with settings := { s.settings with settle := max 1 (min v 15) } })) ∧
    (∀ b : Band, b.rank = max 1 (min v 3) → s.offered .front (.setPromoteBand v) = some ws →
      exec (.setPromoteBand v) s =
        .next (State.answered .front (.answer 0x07 .ok (word 0x05 :: word b.rank :: ws.drop 2))
          { s with settings := { s.settings with promoteBand := b } })) ∧
    (s.offered .front (.setWRread v) = some ws →
      exec (.setWRread v) s =
        .next (State.answered .front (.answer 0x07 .ok (word 0x06 :: word (min v 255) :: ws.drop 2))
          { s with settings := { s.settings with wRread := min v 255 } })) ∧
    (s.offered .front (.setWRwrite v) = some ws →
      exec (.setWRwrite v) s =
        .next (State.answered .front (.answer 0x07 .ok (word 0x07 :: word (min v 255) :: ws.drop 2))
          { s with settings := { s.settings with wRwrite := min v 255 } })) ∧
    (s.offered .front (.setWSread v) = some ws →
      exec (.setWSread v) s =
        .next (State.answered .front (.answer 0x07 .ok (word 0x08 :: word (min v 255) :: ws.drop 2))
          { s with settings := { s.settings with wSread := min v 255 } })) ∧
    (s.offered .front (.setWSwrite v) = some ws →
      exec (.setWSwrite v) s =
        .next (State.answered .front (.answer 0x07 .ok (word 0x09 :: word (min v 255) :: ws.drop 2))
          { s with settings := { s.settings with wSwrite := min v 255 } })) ∧
    (s.offered .front (.setWakeBonus v) = some ws →
      exec (.setWakeBonus v) s =
        .next (State.answered .front (.answer 0x07 .ok (word 0x0A :: word (min v 255) :: ws.drop 2))
          { s with settings := { s.settings with wakeBonus := min v 255 } })) ∧
    (s.offered .front (.setSeqRun v) = some ws →
      exec (.setSeqRun v) s =
        .next (State.answered .front (.answer 0x07 .ok (word 0x0B :: word (max 64 (min v 65535)) :: ws.drop 2))
          { s with settings := { s.settings with seqRun := max 64 (min v 65535) } })) ∧
    (s.offered .front (.setOrderTimeout v) = some ws →
      exec (.setOrderTimeout v) s =
        .next (State.answered .front (.answer 0x07 .ok (word 0x11 :: word (max 1 (min v 255)) :: ws.drop 2))
          { s with settings := { s.settings with orderTimeout := max 1 (min v 255) } }))

/-- SET BANDS and SET WINDOW (R41, R178, R184): thresholds clamped to 1 to 65,535 and written together when strictly
increasing; a window's four fields written, base and mask in 24 bits; otherwise BAD_VALUE and nothing changed. The
unused words of the answers are log entry 5's reading. -/
def Obligations.SetBandsAndSetWindowWriteAllTheirFieldsOrNone : Prop :=
  (∀ (s : State) (t1 t2 t3 : Nat) (ws : List Word), s.offered .front (.setBands t1 t2 t3) = some ws →
    let a := max 1 (min t1 65535)
    let b := max 1 (min t2 65535)
    let c := max 1 (min t3 65535)
    (a < b → b < c →
      exec (.setBands t1 t2 t3) s =
        .next (State.answered .front (.answer 0x07 .ok (word 0x03 :: word a :: word b :: word c :: ws.drop 4))
          { s with settings := { s.settings with t1 := a, t2 := b, t3 := c } })) ∧
    (¬ (a < b ∧ b < c) →
      exec (.setBands t1 t2 t3) s =
        .next (s.answered .front (.answer 0x07 .badValue (word 0x03 :: ws.tail))))) ∧
  (∀ (s : State) (n base mask policy : Nat) (enable : Bool) (ws : List Word),
    s.offered .front (.setWindow n base mask policy enable) = some ws →
    (∀ (h : n < 8) (x : Policy), policy = x.value →
      exec (.setWindow n base mask policy enable) s =
        .next (State.answered .front
          (.answer 0x07 .ok [word (n * 256 + 0x0C), word (base % 16777216), word (mask % 16777216), word x.value,
            word (if enable then 1 else 0)])
          { s with
            windows := s.windows.set n
              { base := base % 16777216, mask := mask % 16777216, policy := x, enable := enable } h })) ∧
    (8 ≤ n ∨ 4 ≤ policy →
      exec (.setWindow n base mask policy enable) s =
        .next (s.answered .front (.answer 0x07 .badValue (word (n * 256 + 0x0C) :: ws.tail)))))

/-- The SETs that depend on S (R136, R161, R178 to R180): PIN_LIMIT to S, ABSORB_RESERVE to half of S, DIRTY_HIGH 1
to S with DIRTY_LOW kept below it and both answered, DIRTY_LOW below DIRTY_HIGH; in SERVING the two watermarks
compare urgent mode in their event, and the DIRTY_CEILING demand with it. ADVICE_DELAY (R147) stops the timer at 0
and arms a stopped one in an UP period without advice; FILL_WAKE and PROFILE (R137, R180) test the FILL demand, in
SERVING. The unused words of the answers are log entry 5's reading. -/
def Obligations.SetsOfSAndOfTheSchedulerActInTheirEvent : Prop :=
  (∀ (s : State) (z : Sizes) (v : Nat) (ws : List Word), s.sizes = some z →
    (s.offered .front (.setPinLimit v) = some ws →
      exec (.setPinLimit v) s =
        .next (State.answered .front (.answer 0x07 .ok (word 0x0D :: word (min v z.slots) :: ws.drop 2))
          { s with sizes := some { z with pinLimit := min v z.slots } })) ∧
    (s.offered .front (.setAbsorbReserve v) = some ws →
      exec (.setAbsorbReserve v) s =
        .next (State.answered .front (.answer 0x07 .ok (word 0x0E :: word (min v (z.slots / 2)) :: ws.drop 2))
          { s with sizes := some { z with absorbReserve := min v (z.slots / 2) } })) ∧
    (s.offered .front (.setDirtyHigh v) = some ws →
      let high := max 1 (min v z.slots)
      let low := min z.dirtyLow (high - 1)
      let t := State.answered .front (.answer 0x07 .ok (word 0x0F :: word high :: word low :: ws.drop 3))
        { s with sizes := some { z with dirtyHigh := high, dirtyLow := low } }
      exec (.setDirtyHigh v) s =
        .next (if s.service = .serving then
          State.demandFor .dirtyCeiling { t with urgent := urgentAfter s.urgent s.dirtyList.length high low }
        else t)) ∧
    (s.offered .front (.setDirtyLow v) = some ws →
      let low := min v (z.dirtyHigh - 1)
      let t := State.answered .front (.answer 0x07 .ok (word 0x10 :: word low :: ws.drop 2))
        { s with sizes := some { z with dirtyLow := low } }
      exec (.setDirtyLow v) s =
        .next (if s.service = .serving then
          State.demandFor .dirtyCeiling { t with urgent := urgentAfter s.urgent s.dirtyList.length z.dirtyHigh low }
        else t))) ∧
  (∀ (s : State) (v : Nat) (ws : List Word),
    (s.offered .front (.setAdviceDelay v) = some ws →
      exec (.setAdviceDelay v) s =
        .next (State.answered .front (.answer 0x07 .ok (word 0x12 :: word (min v 255) :: ws.drop 2))
          { s with
            settings := { s.settings with adviceDelay := min v 255 }
            adviceTimer :=
              if v = 0 then none
              else if s.adviceTimer = none ∧ s.service = .serving ∧ s.spindle = .up ∧ s.adviceSent = false then
                some (min v 255)
              else s.adviceTimer })) ∧
    (s.offered .front (.setFillWake v) = some ws →
      let t := State.answered .front (.answer 0x07 .ok (word 0x13 :: word (min v 64) :: ws.drop 2))
        { s with settings := { s.settings with fillWake := min v 64 } }
      exec (.setFillWake v) s = .next (if s.service = .serving then t.demandFor .fill else t)) ∧
    (∀ x : Profile, v = x.value → s.offered .front (.setProfile v) = some ws →
      let t := State.answered .front (.answer 0x07 .ok (word 0x14 :: word x.value :: ws.drop 2))
        { s with settings := { s.settings with profile := x } }
      exec (.setProfile v) s = .next (if s.service = .serving then t.demandFor .fill else t)))

/-- The spin-up demands (R145, R146): the condition of each reason; a flag clears, and its owed demand is dropped,
when the condition does not hold; a demand is produced, placed or owed, when it holds with the spindle not UP and
the flag no; otherwise nothing happens. That a demand waits behind a record owed to the port is log entry 11's
reading. -/
def Obligations.ADemandIsProducedOwedOrDropped : Prop :=
  (∀ s : State,
    (s.demandHolds .dirtyCeiling = true ↔ s.urgent = true) ∧ (s.demandHolds .drain = true ↔ s.drain = true) ∧
    (s.demandHolds .fill = true ↔
      s.settings.profile = .mains ∧ s.settings.fillWake ≠ 0 ∧ s.settings.fillWake ≤ s.promo.length)) ∧
  (∀ (s : State) (r : Reason),
    (s.demandHolds r = false →
      s.demandFor r =
        { s with
          demands := s.demands.set r false
          diskOwed := s.diskOwed.filter (fun o => o ≠ .demand r) }) ∧
    (s.demandHolds r = true → s.spindle = .up ∨ s.demands.get r = true → s.demandFor r = s) ∧
    (s.demandHolds r = true → s.spindle ≠ .up → s.demands.get r = false →
      s.disk.out.length < 16 → s.diskOwed = [] →
      s.demandFor r =
        { s with
          demands := s.demands.set r true
          disk := { s.disk with out := s.disk.out ++ [.spinUpDemand r] }
          stats := { s.stats with spinUpDemands := min (s.stats.spinUpDemands + 1) 4294967295 } }) ∧
    (s.demandHolds r = true → s.spindle ≠ .up → s.demands.get r = false →
      16 ≤ s.disk.out.length ∨ s.diskOwed ≠ [] →
      s.demandFor r = { s with demands := s.demands.set r true, diskOwed := s.diskOwed ++ [.demand r] })) ∧
  (∀ s : State, s.demandAll = ((s.demandFor .dirtyCeiling).demandFor .drain).demandFor .fill)

/-- What an event that can end holds, moves or a drain ends with, in SERVING (R81, R87, R136, R145, R146, R151). No
entry stays pending for a port its extent is quiescent for; a drain with nothing unflushed is over and its marks are
gone; urgent mode agrees with the watermarks; each demand flag agrees with its condition, and a demand is produced for
each reason whose condition holds with the spindle not UP and the flag no. The records it places stand in the order of
log entry 6: the grants in entry order, then DRAINED, and on the disk port the demands, DIRTY_CEILING, DRAIN, FILL
(R145), the first of them placed and the rest owed. The map, the moves and the routes stand. Every step, of DONE,
REPORT, ROUTE, TRIM, an expiry, a start, a read or a reset, leaves this carried out (`State.Concluded`), where
DIRTY_LOW is below DIRTY_HIGH (R179), the records are lawful and the lists filed, as every step keeps them. A grant
leaves its notice, a drain that ends, its moves matched by their records, its DRAINED with the stuck count (a front
link reset, POWER_ON and RESTART apart), and a flag that becomes yes its demand. -/
def Obligations.AnEventEndsWithGrantsTheDrainAndUrgentMode : Prop :=
  (∀ s : State, s.service ≠ .serving → s.finish = s) ∧
  (∀ s : State, s.service = .serving →
    let t := s.finish
    let granted (p : Port) : List Nat := allClaims.filterMap fun i =>
      match s.claims[i] with
      | none => none
      | some c => if c.standing = .pending p ∧ s.quiescent p c.extent = true then some c.extent else none
    let notices (p : Port) : List Outbound :=
      ((granted p).take (16 - (s.link p).out.length)).map .claimGranted
    let stuck := s.records.countP (fun r => r.drainMark && r.stuck)
    let room := decide (s.front.out.length + (granted .front).length < 16)
    (∀ (i : Fin 8) c, s.claims[i] = some c →
      (∀ q, c.standing = .pending q → s.quiescent q c.extent = true →
        ∃ owed, t.claims[i] = some { c with standing := .owned q owed }) ∧
      (∀ q, c.standing = .pending q → s.quiescent q c.extent = false → t.claims[i] = some c) ∧
      (∀ q g, c.standing = .owned q g → t.claims[i] = some c)) ∧
    (∀ i : Fin 8, s.claims[i] = none → t.claims[i] = none) ∧
    t.drain = (s.drain && s.records.any (fun r => r.drainMark && !r.stuck)) ∧
    (s.drain = true → t.drain = false →
      (∀ r ∈ t.records, r.drainMark = false) ∧
      (t.drainedOwed = some stuck ∨ .drained stuck ∈ t.front.out) ∧
      t.drainedOwed = (if room then s.drainedOwed else some stuck)) ∧
    (s.drain = false ∨ t.drain = true → t.drainedOwed = s.drainedOwed ∧ t.records = s.records) ∧
    t.front.out = s.front.out ++ notices .front ++
      (if s.drain && !t.drain && room then [.drained stuck] else []) ∧
    t.flash.out = s.flash.out ++ notices .flash ∧
    t.urgent = urgentAfter s.urgent s.dirtyList.length s.dirtyHigh s.dirtyLow ∧
    (∀ r, t.demands.get r = (t.demandHolds r && (s.demands.get r || s.spindle != .up))) ∧
    (∃ placed owed : List Reason,
      placed ++ owed = [Reason.dirtyCeiling, .drain, .fill].filter (fun r =>
        t.demandHolds r && s.spindle != .up && !s.demands.get r) ∧
      t.disk.out = s.disk.out ++ notices .disk ++ placed.map .spinUpDemand ∧
      t.diskOwed = s.diskOwed.filter (fun o =>
        [Reason.dirtyCeiling, .drain, .fill].all fun r => o != .demand r || t.demandHolds r) ++ owed.map .demand ∧
      t.stats = { s.stats with spinUpDemands := t.stats.spinUpDemands } ∧
      (s.stats.spinUpDemands ≤ 4294967295 →
        t.stats.spinUpDemands = min (s.stats.spinUpDemands + placed.length) 4294967295) ∧
      (s.diskOwed = [] → s.disk.out.length + (granted .disk).length + 3 ≤ 16 → owed = []) ∧
      (16 ≤ s.disk.out.length → placed = [])) ∧
    (∀ e, t.segmentsOf e = s.segmentsOf e) ∧ t.contexts = s.contexts ∧ t.routes = s.routes ∧ t.free = s.free ∧
    t.fences = s.fences ∧ t.watch = s.watch ∧ t.clean = s.clean ∧ t.dirtyList = s.dirtyList ∧
    t.promo = s.promo ∧ t.parked = s.parked ∧ t.tickets = s.tickets ∧ t.adviceTimer = s.adviceTimer ∧
    t.flashOwed = s.flashOwed ∧ t.lastKind = s.lastKind ∧ (∀ p, s.link p = { t.link p with out := (s.link p).out }) ∧
    (∀ p, (s.link p).out <+: (t.link p).out)) ∧
  (∀ count high low : Nat,
    (urgentAfter false count high low = true ↔ high ≤ count) ∧ (urgentAfter true count high low = true ↔ low < count)) ∧
  (∀ s t : State, s.SettingsInRange → s.RecordsLawful → s.ListsFiled → s.Concluded → step s = .next t → t.Concluded) ∧
  (∀ (s t : State) (c : Instr), s.Concluded → s.RecordsLawful → exec c s = .next t →
    (∀ (i : Fin 8) x y q, s.claims[i] = some x → x.standing = .pending q → t.claims[i] = some y →
      y.standing = .owned q false → .claimGranted y.extent ∈ (t.link q).out) ∧
    (s.MovesMatched → s.drain = true → t.drain = false → c ≠ .powerOn → c ≠ .restart → c ≠ .frontLinkReset →
      let stuck := t.records.countP fun r => r.stuck && s.records.any fun x => x.extent == r.extent && x.drainMark
      .drained stuck ∈ t.front.out ∨ t.drainedOwed = some stuck) ∧
    (∀ r, s.demands.get r = false → t.demands.get r = true →
      .spinUpDemand r ∈ t.disk.out ∨ .demand r ∈ t.diskOwed))

/-- QUERY, QUERY SUMMARY and STATS (R181 to R184): in SERVING a QUERY examines its extent first and reports it after
that; outside SERVING it examines nothing; the summary changes nothing; STATS carries the thirteen counters as they
stand, and with clear each becomes 0 after it is copied. QUERY's whole word 1 is log entry 4's reading. -/
def Obligations.QueriesAndStatsReportWhatStands : Prop :=
  ((∀ (s : State) (e : Nat) (ws : List Word), s.offered .front (.query e) = some ws → e ≤ 16777215 →
    let x := s.examine 0 e
    (s.service = .serving →
      exec (.query e) s =
        .next ((x.answered .front (.answer 0x08 .ok (ws.tail ++ x.queryWords e))).demandFor .fill)) ∧
    (s.service ≠ .serving →
      exec (.query e) s = .next (s.answered .front (.answer 0x08 .ok (ws.tail ++ s.queryWords e))))) ∧
  (∀ (s : State) (e : Nat),
    (∀ r, s.residentOf e = some r →
      s.queryWords e =
        [word (2 * 16777216 + r.state.value * 65536 + r.slot), r.valid, r.dirty, r.lost,
          word (r.heat.heat * 65536 + r.heat.band.rank * 256 + (if r.drainMark then 1 else 0) * 4 +
            (if r.stuck then 1 else 0) * 2 + (if r.pinned then 1 else 0)),
          word (r.retries * 256 + s.queuePosition r.extent)]) ∧
    (∀ x, s.residentOf e = none → s.watchOf e = some x →
      s.queryWords e =
        [word 16777216, 0#32, 0#32, 0#32, word (x.heat.heat * 65536 + x.heat.band.rank * 256),
          word (s.queuePosition x.extent)]) ∧
    (s.residentOf e = none → s.watchOf e = none → s.queryWords e = [0#32, 0#32, 0#32, 0#32, 0#32, 0#32]) ∧
    (e ∉ s.promo → s.queuePosition e = 0) ∧
    (∀ a b, s.promo = a ++ e :: b → e ∉ a → s.queuePosition e = a.length + 1)) ∧
  (∀ (s : State) (ws : List Word), s.offered .front .querySummary = some ws →
    exec .querySummary s =
      .next (s.answered .front (.answer 0x08 .ok (ws.tail ++
        [word ((s.sizes.map (·.slots)).getD 0), word s.free.length, word (s.promo.length * 256 + s.fences.length),
          word s.dirtyList.length, word (s.records.countP (fun r => r.pinned)),
          word (s.spindle.value * 16777216 + s.bgWindow.value * 65536 + s.settings.profile.value * 256 +
            (if s.urgent then 1 else 0) * 128 + (if s.drain then 1 else 0) * 64 + s.service.value),
          word s.epoch]))))) ∧
  (∀ (s : State) (clear : Bool) (ws : List Word), s.offered .front (.stats clear) = some ws →
    exec (.stats clear) s =
      .next { s.answered .front (.answer 0x09 .ok (ws.tail ++
        [word s.stats.routes, word s.stats.readFlash, word s.stats.readDisk, word s.stats.writeFlash,
          word s.stats.writeDisk, word s.stats.absorbed, word s.stats.fillsDone, word s.stats.flushesDone,
          word s.stats.evictions, word s.stats.forcedWakes, word s.stats.spinUpDemands, word s.stats.lostSegments,
          word s.stats.orderTimeouts])) with
        stats := if clear then
            { routes := 0, readFlash := 0, readDisk := 0, writeFlash := 0, writeDisk := 0, absorbed := 0,
              fillsDone := 0, flushesDone := 0, evictions := 0, forcedWakes := 0, spinUpDemands := 0,
              lostSegments := 0, orderTimeouts := 0 }
          else s.stats })

/-! ### Bring-up -/

/-- GEOMETRY and ADOPT_END (R160, R161, R164): S is fixed and clamped, its settings take their defaults, every slot is
free and the part is ADOPTING; service begins with the count of records, the epoch timer, urgent mode, an UP period
where the spindle is UP, and the demands. -/
def Obligations.GeometryFixesTheSlotsAndAdoptEndBeginsService : Prop :=
  (∀ (s : State) (n : Nat) (ws : List Word), s.service = .cold → s.offered .flash (.geometry n) = some ws → 256 ≤ n →
    let k := min n 65536
    exec (.geometry n) s =
      .next (State.answered .flash (.answer 0x0B .ok (ws.tail ++ [word k]))
        { s with
          sizes := some { slots := k, pinLimit := k / 4, absorbReserve := k / 16, dirtyHigh := k / 4, dirtyLow := k / 8 }
          free := List.range k, cursor := 0, service := .adopting })) ∧
  (∀ (s : State) (ws : List Word), s.service = .adopting → s.offered .flash .adoptEnd = some ws →
    let t := State.answered .flash (.answer 0x0D .ok (ws.tail ++ [word s.records.length]))
      { s with
        service := .serving
        epochTimer := some s.settings.epochLen
        urgent := urgentAfter s.urgent s.dirtyList.length s.dirtyHigh s.dirtyLow
        adviceSent := if s.spindle = .up then false else s.adviceSent
        adviceTimer :=
          if s.spindle = .up ∧ s.settings.adviceDelay ≠ 0 then some s.settings.adviceDelay else s.adviceTimer }
    exec .adoptEnd s = .next t.demandAll)

/-- ADOPT (R162, R163): the record it creates, in the table, out of the free pool and on the list its dirty set gives
it; BAD_VALUE and DUPLICATE change nothing. -/
def Obligations.AnAdoptCreatesTheRecordItNames : Prop :=
  ∀ (s : State) (e n : Nat) (valid dirty lost : SegSet) (ws : List Word), s.service = .adopting →
    s.offered .flash (.adopt e n valid dirty lost) = some ws →
    let good := e ≤ 16777215 ∧ n < s.slots ∧ segLess dirty valid = 0#32 ∧ valid &&& lost = 0#32 ∧
      ¬ (valid = 0#32 ∧ lost = 0#32)
    (¬ good →
      exec (.adopt e n valid dirty lost) s = .next (s.answered .flash (.answer 0x0C .badValue ws.tail))) ∧
    (good → (∃ r ∈ s.records, r.extent = e ∨ r.slot = n) →
      exec (.adopt e n valid dirty lost) s = .next (s.answered .flash (.answer 0x0C .duplicate ws.tail))) ∧
    (good → (∀ r ∈ s.records, r.extent ≠ e ∧ r.slot ≠ n) →
      ∃ t, exec (.adopt e n valid dirty lost) s = .next t ∧
        t = { s.answered .flash (.answer 0x0C .ok ws.tail) with
          records := t.records, free := t.free, clean := t.clean, dirtyList := t.dirtyList, promo := t.promo } ∧
        t.records = insertBy (·.slot)
          { extent := e, slot := n, state := .resident, valid := valid, dirty := dirty, lost := lost, pinned := false,
            heat := { heat := s.settings.t1, band := .b1, settle := 0, stamp := s.epoch },
            classified := s.policyOf e, retries := 0, stuck := false, drainMark := false, owed := .absent }
          s.records ∧
        t.free = s.free.filter (fun m => m ≠ n) ∧
        (dirty ≠ 0#32 → t.dirtyList = if e ∈ s.dirtyList then s.dirtyList else s.dirtyList ++ [e]) ∧
        (dirty = 0#32 → ∀ b : Band, e ∉ s.clean.get b →
          t.clean.get b =
            if b = (if s.policyOf e = .bypass then .b0 else .b1) then s.clean.get b ++ [e] else s.clean.get b) ∧
        (e ∉ s.promo → t.promo = s.promo))

/-! ### Reports, timeouts and fences -/

/-- A REPORT that is not current (R104, R127) is STALE and changes nothing but the fence its ticket names on the flash
port: lifted, its slot freed, and its RETIRE_SLOT placed, or owed behind what is owed (log entry 11). -/
def Obligations.AStaleReportLiftsOnlyTheFenceOfItsTicket : Prop :=
  ∀ (s : State) (p : Port) (ticket context status : Nat) (c : Fin 4) (ws : List Word), s.service = .serving →
    s.offered p (.report p ticket context status) = some ws → context = c.val →
    (status ≤ 1 ∨ (p = .disk ∧ status = 2)) →
    (∀ k, s.contexts[c].placed = some (ticket, k) → s.contexts[c].orderPort ≠ some p) →
    let t := s.answered p (.answer 0x0E .stale (word ticket :: ws.tail))
    (p = .disk ∨ (∀ f ∈ s.fences, f.ticket ≠ ticket) → exec (.report p ticket context status) s = .next t) ∧
    (∀ f, p = .flash → s.fences.find? (fun x => x.ticket == ticket) = some f → s.flashOwed = [] →
      exec (.report p ticket context status) s =
        .next { t with
          fences := s.fences.erase f
          free := insertBy id f.slot s.free
          flash := { t.flash with out := t.flash.out ++ [.retireSlot f.slot] } }) ∧
    (∀ f, p = .flash → s.fences.find? (fun x => x.ticket == ticket) = some f → s.flashOwed ≠ [] →
      exec (.report p ticket context status) s =
        .next { t with
          fences := s.fences.erase f
          free := insertBy id f.slot s.free
          flashOwed := s.flashOwed ++ [.retire f.slot] })

/-- A current OK report of a move's first order (R107, R108, R111, R113, R118, R120): the move is WRITING and its
second order is placed with the next ticket, or pending; a FILL with nothing left to validate completes at once.
That an order waits behind a record owed to its port is log entry 11's reading. -/
def Obligations.AFirstOrdersReportPlacesTheSecond : Prop :=
  (∀ (s : State) (c : Fin 4) (m : FillMove) (ticket timer : Nat) (ws : List Word), s.service = .serving →
    s.offered .disk (.report .disk ticket c.val 0) = some ws → s.contexts[c] = .fill m → m.phase = .reading →
    m.order = .placed ticket timer →
    (m.validate ≠ 0#32 → s.flash.out.length < 16 → s.flashOwed = [] →
      ∃ t, exec (.report .disk ticket c.val 0) s = .next t ∧
        s.flash.out ++ [.writeSlot s.tickets c.val m.slot m.extent m.validate] <+: t.flash.out ∧
        s.disk.out ++ [.answer 0x0E .ok (word ticket :: ws.tail)] <+: t.disk.out ∧
        t.contexts = s.contexts.set c
          (.fill { m with phase := .writing, order := .placed s.tickets s.settings.orderTimeout }) ∧
        t.tickets = (s.tickets + 1) % 65536 ∧ (∀ e, t.segmentsOf e = s.segmentsOf e) ∧ t.free = s.free ∧
        t.fences = s.fences) ∧
    (m.validate ≠ 0#32 → 16 ≤ s.flash.out.length ∨ s.flashOwed ≠ [] →
      ∃ t, exec (.report .disk ticket c.val 0) s = .next t ∧
        t.contexts = s.contexts.set c (.fill { m with phase := .writing, order := .pending }) ∧
        t.flashOwed = s.flashOwed ++ [.order c] ∧ t.tickets = s.tickets ∧
        (∀ e, t.segmentsOf e = s.segmentsOf e)) ∧
    (m.validate = 0#32 →
      ∃ t, exec (.report .disk ticket c.val 0) s = .next t ∧ t.contexts = s.contexts.set c .idle ∧
        t.stats.fillsDone = min (s.stats.fillsDone + 1) 4294967295 ∧ t.tickets = s.tickets)) ∧
  (∀ (s : State) (c : Fin 4) (m : FlushMove) (r : Resident) (ticket timer : Nat) (ws : List Word),
    s.service = .serving → s.offered .flash (.report .flash ticket c.val 0) = some ws → s.contexts[c] = .flush m →
    m.phase = .reading → m.order = .placed ticket timer → s.residentOf m.extent = some r →
    m.carried &&& r.dirty ≠ 0#32 → s.disk.out.length < 16 → s.diskOwed = [] →
    ∃ t, exec (.report .flash ticket c.val 0) s = .next t ∧
      s.disk.out ++ [.writeExtent s.tickets c.val m.extent (m.carried &&& r.dirty)] <+: t.disk.out ∧
      t.contexts = s.contexts.set c
        (.flush { m with phase := .writing, order := .placed s.tickets s.settings.orderTimeout }) ∧
      t.tickets = (s.tickets + 1) % 65536 ∧ (∀ e, t.segmentsOf e = s.segmentsOf e)) ∧
  (∀ (s : State) (c : Fin 4) (m : FlushMove) (r : Resident) (ticket timer : Nat) (ws : List Word),
    s.service = .serving → s.offered .flash (.report .flash ticket c.val 0) = some ws → s.contexts[c] = .flush m →
    m.phase = .reading → m.order = .placed ticket timer → s.residentOf m.extent = some r →
    m.carried &&& r.dirty ≠ 0#32 → 16 ≤ s.disk.out.length ∨ s.diskOwed ≠ [] →
    ∃ t, exec (.report .flash ticket c.val 0) s = .next t ∧
      t.contexts = s.contexts.set c (.flush { m with phase := .writing, order := .pending }) ∧
      t.diskOwed.filter (fun o => !o.isDemand) = s.diskOwed.filter (fun o => !o.isDemand) ++ [.order c] ∧
      t.tickets = s.tickets ∧ (∀ e, t.segmentsOf e = s.segmentsOf e))

/-- A FILL completes at its WRITE_SLOT report (R5, R113): the validate set becomes valid and clean, the record
RESIDENT; a record left empty and unheld is retired. A FLUSH completes at its WRITE_EXTENT report (R121, R126): the
work set less the redirtied set leaves the dirty set and stays valid, the mark and the retries clear, and CLEAN_MARK
is placed or held. That a mark waits behind a record owed to the port is log entry 11's reading. -/
def Obligations.AMoveCompletesAtItsSecondReport : Prop :=
  (∀ (s : State) (c : Fin 4) (m : FillMove) (r : Resident) (ticket timer : Nat) (ws : List Word),
    s.service = .serving → s.offered .flash (.report .flash ticket c.val 0) = some ws → s.contexts[c] = .fill m →
    m.phase = .writing → m.order = .placed ticket timer → s.residentOf m.extent = some r →
    let valid := r.valid ||| m.validate
    ∃ t, exec (.report .flash ticket c.val 0) s = .next t ∧ t.contexts = s.contexts.set c .idle ∧
      t.stats.fillsDone = min (s.stats.fillsDone + 1) 4294967295 ∧
      s.flash.out ++ [.answer 0x0E .ok (word ticket :: ws.tail)] <+: t.flash.out ∧
      (∀ e, e ≠ m.extent → t.segmentsOf e = s.segmentsOf e) ∧
      (valid ≠ 0#32 ∨ r.lost ≠ 0#32 ∨ s.held m.extent = true →
        t.segmentsOf m.extent = some (r.slot, .resident, valid, r.dirty, r.lost) ∧
        (r.dirty = 0#32 → r.pinned = false →
          m.extent ∈ t.clean.get (if r.classified = .bypass then .b0 else r.heat.band)) ∧
        (valid ||| r.lost = SegSet.all → m.extent ∉ t.promo)) ∧
      (valid = 0#32 → r.lost = 0#32 → s.held m.extent = false → t.segmentsOf m.extent = none)) ∧
  (∀ (s : State) (c : Fin 4) (m : FlushMove) (r : Resident) (ticket timer : Nat) (ws : List Word),
    s.service = .serving → s.offered .disk (.report .disk ticket c.val 0) = some ws → s.contexts[c] = .flush m →
    m.phase = .writing → m.order = .placed ticket timer → s.residentOf m.extent = some r → r.isEmpty = false →
    let cleaned := segLess m.work m.redirtied &&& r.dirty
    let dirty := segLess r.dirty cleaned
    ∃ t u, exec (.report .disk ticket c.val 0) s = .next t ∧
      s.disk.out ++ [.answer 0x0E .ok (word ticket :: ws.tail)] <+: t.disk.out ∧
      t.segmentsOf m.extent = some (r.slot, .resident, r.valid, dirty, r.lost) ∧
      (∀ e, e ≠ m.extent → t.segmentsOf e = s.segmentsOf e) ∧
      t.residentOf m.extent = some u ∧ u.drainMark = false ∧ u.retries = 0 ∧
      u.stuck = (r.stuck && dirty != 0#32) ∧
      (dirty = 0#32 → m.extent ∉ t.dirtyList) ∧ (m.extent ∈ s.dirtyList → dirty ≠ 0#32 → t.dirtyList = s.dirtyList) ∧
      t.stats.flushesDone = min (s.stats.flushesDone + 1) 4294967295 ∧
      (cleaned = 0#32 → t.contexts = s.contexts.set c .idle) ∧
      (cleaned ≠ 0#32 → s.flash.out.length < 16 → s.flashOwed = [] →
        t.contexts = s.contexts.set c .idle ∧ s.flash.out ++ [.cleanMark m.slot cleaned] <+: t.flash.out) ∧
      (cleaned ≠ 0#32 → 16 ≤ s.flash.out.length ∨ s.flashOwed ≠ [] →
        t.contexts = s.contexts.set c (.marking m.slot cleaned) ∧ t.flashOwed = s.flashOwed ++ [.mark c]))

/-- The failure reports. WRITE_EXTENT MEDIA_ERROR charges the record, which goes to the Dirty List's tail and is stuck,
with its notice, at the third (R9, R123). READ_SLOT MEDIA_ERROR loses the work set's segments still dirty and not
redirtied, with LOST_MARK, the LOST notice and the count (R122). A FILL's MEDIA_ERROR carries the heat penalty: a fresh
record is removed and leaves no heat and no queue entry, a partial one is RESIDENT with heat 0. NOT_SPINNING leaves a
partial record's heat and queue entry as they are, and removes a fresh one whose heat returns to the Watch List with its
queue entry kept; of a FLUSH in WRITING it leaves sets, list place, mark, retries and stuck status (R114 to R116, R124).
That a RETIRE_SLOT waits behind a record owed to the port is log entry 11's reading. -/
def Obligations.AFailedReportAbortsTheMove : Prop :=
  ((∀ (s : State) (c : Fin 4) (m : FlushMove) (r : Resident) (ticket timer : Nat) (ws : List Word),
    s.service = .serving → s.offered .disk (.report .disk ticket c.val 1) = some ws → s.contexts[c] = .flush m →
    m.phase = .writing → m.order = .placed ticket timer → s.residentOf m.extent = some r → r.dirty ≠ 0#32 →
    ∃ t u, exec (.report .disk ticket c.val 1) s = .next t ∧ t.contexts = s.contexts.set c .idle ∧
      t.residentOf m.extent = some u ∧ u.retries = min (r.retries + 1) 3 ∧
      u.stuck = (r.stuck || decide (3 ≤ r.retries + 1)) ∧
      t.segmentsOf m.extent = some (r.slot, .resident, r.valid, r.dirty, r.lost) ∧
      (∀ e, e ≠ m.extent → t.segmentsOf e = s.segmentsOf e) ∧
      t.dirtyList = s.dirtyList.filter (fun e => e ≠ m.extent) ++ [m.extent] ∧
      (r.stuck = false → 2 ≤ r.retries → s.front.out.length < 16 →
        s.front.out ++ [.stuck m.extent] <+: t.front.out) ∧
      (r.stuck = false → 2 ≤ r.retries → 16 ≤ s.front.out.length → r.owed = .absent → u.owed = .stuck)) ∧
  (∀ (s : State) (c : Fin 4) (m : FlushMove) (r : Resident) (ticket timer : Nat) (ws : List Word),
    s.service = .serving → s.offered .flash (.report .flash ticket c.val 1) = some ws → s.contexts[c] = .flush m →
    m.phase = .reading → m.order = .placed ticket timer → s.residentOf m.extent = some r →
    segLess m.work m.redirtied &&& r.dirty ≠ 0#32 → (∀ f ∈ s.fences, f.ticket ≠ ticket) →
    let gone := segLess m.work m.redirtied &&& r.dirty
    ∃ t, exec (.report .flash ticket c.val 1) s = .next t ∧ t.contexts = s.contexts.set c .idle ∧
      t.segmentsOf m.extent =
        some (r.slot, .resident, segLess r.valid gone, segLess r.dirty gone, r.lost ||| gone) ∧
      (∀ e, e ≠ m.extent → t.segmentsOf e = s.segmentsOf e) ∧
      s.flash.out ++ [.answer 0x0E .ok (word ticket :: ws.tail), .lostMark r.slot gone] <+: t.flash.out ∧
      (s.front.out.length < 16 → s.front.out ++ [.lost m.extent gone] <+: t.front.out) ∧
      (16 ≤ s.front.out.length → r.owed = .absent →
        ∃ u, t.residentOf m.extent = some u ∧ u.owed = .lost gone) ∧
      t.stats.lostSegments = min (s.stats.lostSegments + segCount gone) 4294967295)) ∧
  ((∀ (s : State) (c : Fin 4) (p : Port) (m : FillMove) (r : Resident) (ticket timer : Nat) (ws : List Word),
    s.service = .serving → s.offered p (.report p ticket c.val 1) = some ws → s.contexts[c] = .fill m →
    m.orderPort = p → m.order = .placed ticket timer → s.residentOf m.extent = some r →
    (∀ f ∈ s.fences, f.ticket ≠ ticket) →
    ∃ t, exec (.report p ticket c.val 1) s = .next t ∧ t.contexts = s.contexts.set c .idle ∧ m.extent ∉ t.promo ∧
      (∀ e, e ≠ m.extent → t.segmentsOf e = s.segmentsOf e) ∧ t.stats.fillsDone = s.stats.fillsDone ∧
      (m.fresh = true → t.segmentsOf m.extent = none ∧ t.free = insertBy id r.slot s.free ∧ t.watch = s.watch ∧
        t.fences = s.fences) ∧
      (m.fresh = false → r.isEmpty = false →
        ∃ u, t.residentOf m.extent = some u ∧ u.heat = { r.heat with heat := 0 } ∧
          t.segmentsOf m.extent = some (r.slot, .resident, r.valid, r.dirty, r.lost))) ∧
  (∀ (s : State) (c : Fin 4) (m : FillMove) (r : Resident) (ticket timer : Nat) (ws : List Word),
    s.service = .serving → s.offered .disk (.report .disk ticket c.val 2) = some ws → s.contexts[c] = .fill m →
    m.phase = .reading → m.order = .placed ticket timer → s.residentOf m.extent = some r → m.fresh = false →
    r.isEmpty = false → r.valid ||| r.lost ≠ SegSet.all →
    ∃ t u, exec (.report .disk ticket c.val 2) s = .next t ∧ t.contexts = s.contexts.set c .idle ∧
      t.residentOf m.extent = some u ∧ u.heat = r.heat ∧ t.promo = s.promo ∧
      t.segmentsOf m.extent = some (r.slot, .resident, r.valid, r.dirty, r.lost))) ∧
  ((∀ (s : State) (c : Fin 4) (m : FillMove) (r : Resident) (ticket timer : Nat) (ws : List Word),
    s.service = .serving → s.offered .disk (.report .disk ticket c.val 2) = some ws → s.contexts[c] = .fill m →
    m.phase = .reading → m.order = .placed ticket timer → s.residentOf m.extent = some r → m.fresh = true →
    s.watch.length < 4096 → s.watchOf m.extent = none →
    let h := r.heat.caughtUp s.settings s.epoch
    ∃ t, exec (.report .disk ticket c.val 2) s = .next t ∧ t.contexts = s.contexts.set c .idle ∧
      t.segmentsOf m.extent = none ∧ (∀ e, e ≠ m.extent → t.segmentsOf e = s.segmentsOf e) ∧
      t.free = insertBy id r.slot s.free ∧ t.fences = s.fences ∧ t.stats.fillsDone = s.stats.fillsDone ∧
      (h.heat ≠ 0 → t.promo = s.promo ∧ t.touch = m.extent :: s.touch ∧
        ∃ w, t.watchOf m.extent = some w ∧ w.heat = h) ∧
      (h.heat = 0 → t.promo = s.promo.filter (fun e => e ≠ m.extent) ∧ t.watch = s.watch ∧ t.touch = s.touch) ∧
      (s.flash.out.length < 16 → s.flashOwed = [] →
        t.flashOwed = [] ∧ s.flash.out ++ [.retireSlot r.slot] <+: t.flash.out) ∧
      (16 ≤ s.flash.out.length ∨ s.flashOwed ≠ [] → t.flashOwed = s.flashOwed ++ [.retire r.slot])) ∧
  (∀ (s : State) (c : Fin 4) (m : FlushMove) (r : Resident) (ticket timer : Nat) (ws : List Word),
    s.service = .serving → s.offered .disk (.report .disk ticket c.val 2) = some ws → s.contexts[c] = .flush m →
    m.phase = .writing → m.order = .placed ticket timer → s.residentOf m.extent = some r → r.isEmpty = false →
    ∃ t u, exec (.report .disk ticket c.val 2) s = .next t ∧ t.contexts = s.contexts.set c .idle ∧
      t.residentOf m.extent = some u ∧
      t.segmentsOf m.extent = some (r.slot, .resident, r.valid, r.dirty, r.lost) ∧
      (∀ e, e ≠ m.extent → t.segmentsOf e = s.segmentsOf e) ∧ t.free = s.free ∧ t.flashOwed = s.flashOwed ∧
      t.stats.flushesDone = s.stats.flushesDone ∧ t.stats.lostSegments = s.stats.lostSegments ∧
      (r.dirty ≠ 0#32 → u.retries = r.retries ∧ u.stuck = r.stuck ∧ (r.stuck = false → u.drainMark = r.drainMark) ∧
        (m.extent ∈ s.dirtyList → t.dirtyList = s.dirtyList))))

/-- UNFENCE (R105): refused NOT_READY outside SERVING and BAD_VALUE for a slot not below S; otherwise answered OK with
the slot, and the slot's fence, if it has one, is lifted and the slot is free. The one word of each answer, the slot as
sent, given once in an OK answer too, is log entry 5's reading. -/
def Obligations.AnUnfenceLiftsTheFenceOfItsSlot : Prop :=
  ∀ (s : State) (n : Nat) (ws : List Word), s.offered .flash (.unfence n) = some ws →
    (s.service ≠ .serving → exec (.unfence n) s = .next (s.answered .flash (.answer 0x0F .notReady [word n]))) ∧
    (s.service = .serving → s.slots ≤ n →
      exec (.unfence n) s = .next (s.answered .flash (.answer 0x0F .badValue [word n]))) ∧
    (s.service = .serving → n < s.slots → (∀ f ∈ s.fences, f.slot ≠ n) →
      exec (.unfence n) s = .next (s.answered .flash (.answer 0x0F .ok [word n]))) ∧
    (s.service = .serving → n < s.slots → (∃ f ∈ s.fences, f.slot = n) →
      exec (.unfence n) s =
        .next { s.answered .flash (.answer 0x0F .ok [word n]) with
          fences := s.fences.filter (fun f => f.slot ≠ n), free := insertBy id n s.free })

/-- ORDER_TIMER_EXPIRY (R103, R117, R123, R124, R128): a stopped timer does not expire; a fresh FILL loses
its record, in READING with RETIRE_SLOT, in WRITING with its slot fenced under the order's ticket, and its heat returns
to the Watch List; a partial FILL leaves its record as it was, with its heat and queue entry and no fence; a FLUSH
READING ends without charge, a FLUSH WRITING with one. The case of a stopped timer is log entry 1's, and a RETIRE_SLOT's
wait behind a record owed to the port log entry 11's. -/
def Obligations.AnOrderTimerExpiryEndsTheMove : Prop :=
  (∀ (s : State) (c : Fin 4), s.contexts[c].placed = none → exec (.orderTimerExpiry c) s = .next s) ∧
  (∀ (s : State) (c : Fin 4) (m : FillMove) (r : Resident) (ticket timer : Nat), s.contexts[c] = .fill m →
    m.order = .placed ticket timer → s.residentOf m.extent = some r → m.fresh = true →
    ∃ t, exec (.orderTimerExpiry c) s = .next t ∧ t.contexts = s.contexts.set c .idle ∧
      t.segmentsOf m.extent = none ∧ (∀ e, e ≠ m.extent → t.segmentsOf e = s.segmentsOf e) ∧
      t.stats.orderTimeouts = min (s.stats.orderTimeouts + 1) 4294967295 ∧
      (m.phase = .writing →
        t.fences = s.fences ++ [{ slot := r.slot, ticket := ticket }] ∧ t.free = s.free ∧ t.flashOwed = s.flashOwed) ∧
      (m.phase = .reading → t.fences = s.fences ∧ t.free = insertBy id r.slot s.free)) ∧
  (∀ (s : State) (c : Fin 4) (m : FillMove) (r : Resident) (ticket timer : Nat), s.contexts[c] = .fill m →
    m.order = .placed ticket timer → s.residentOf m.extent = some r → m.fresh = true → s.watch.length < 4096 →
    s.watchOf m.extent = none →
    let h := r.heat.caughtUp s.settings s.epoch
    ∃ t, exec (.orderTimerExpiry c) s = .next t ∧
      (h.heat ≠ 0 → t.promo = s.promo ∧ t.touch = m.extent :: s.touch ∧
        ∃ w, t.watchOf m.extent = some w ∧ w.heat = h) ∧
      (h.heat = 0 → t.promo = s.promo.filter (fun e => e ≠ m.extent) ∧ t.watch = s.watch ∧ t.touch = s.touch) ∧
      (m.phase = .reading → s.flash.out.length < 16 → s.flashOwed = [] →
        t.flashOwed = [] ∧ s.flash.out ++ [.retireSlot r.slot] <+: t.flash.out) ∧
      (m.phase = .reading → 16 ≤ s.flash.out.length ∨ s.flashOwed ≠ [] →
        t.flashOwed = s.flashOwed ++ [.retire r.slot])) ∧
  (∀ (s : State) (c : Fin 4) (m : FillMove) (r : Resident) (ticket timer : Nat), s.contexts[c] = .fill m →
    m.order = .placed ticket timer → s.residentOf m.extent = some r → m.fresh = false → r.isEmpty = false →
    ∃ t u, exec (.orderTimerExpiry c) s = .next t ∧ t.contexts = s.contexts.set c .idle ∧
      t.residentOf m.extent = some u ∧ t.segmentsOf m.extent = some (r.slot, .resident, r.valid, r.dirty, r.lost) ∧
      (∀ e, e ≠ m.extent → t.segmentsOf e = s.segmentsOf e) ∧ u.heat = r.heat ∧
      (r.valid ||| r.lost ≠ SegSet.all → t.promo = s.promo) ∧ t.watch = s.watch ∧ t.fences = s.fences ∧
      t.free = s.free ∧ t.flashOwed = s.flashOwed ∧ t.stats.fillsDone = s.stats.fillsDone ∧
      t.stats.orderTimeouts = min (s.stats.orderTimeouts + 1) 4294967295) ∧
  (∀ (s : State) (c : Fin 4) (m : FlushMove) (r : Resident) (ticket timer : Nat), s.contexts[c] = .flush m →
    m.order = .placed ticket timer → s.residentOf m.extent = some r → r.dirty ≠ 0#32 → r.isEmpty = false →
    ∃ t u, exec (.orderTimerExpiry c) s = .next t ∧ t.contexts = s.contexts.set c .idle ∧
      t.residentOf m.extent = some u ∧ t.segmentsOf m.extent = some (r.slot, .resident, r.valid, r.dirty, r.lost) ∧
      (∀ e, e ≠ m.extent → t.segmentsOf e = s.segmentsOf e) ∧
      t.stats.orderTimeouts = min (s.stats.orderTimeouts + 1) 4294967295 ∧
      (m.phase = .reading → u.retries = r.retries ∧ u.stuck = r.stuck) ∧
      (m.phase = .writing →
        u.retries = min (r.retries + 1) 3 ∧ u.stuck = (r.stuck || decide (3 ≤ r.retries + 1)) ∧
        t.dirtyList = s.dirtyList.filter (fun e => e ≠ m.extent) ++ [m.extent]))

/-! ### The Scheduler -/

/-- What is eligible (R138 to R140), START_EVENT with nothing to start (R141), and the start of the eligible flush
in the lowest IDLE context (R107 to R109, R118, R142): the record is FLUSHING, its dirty set is the work set, and
READ_SLOT is placed or pending. The case with nothing to start is log entry 1's, and the order's wait behind a
record owed to its port log entry 11's. -/
def Obligations.AStartEventStartsTheEligibleFlush : Prop :=
  ((∀ (s : State) (e : Nat), s.flushable e = true ↔
    ∃ r, s.residentOf e = some r ∧ r.stuck = false ∧ s.claimed e = false ∧ r.state = .resident) ∧
  (∀ (s : State) (e : Nat), s.eligibleFlush = some e ↔
    s.service = .serving ∧ s.spindle = .up ∧ (s.bgWindow = .opened ∨ s.urgent = true ∨ s.drain = true) ∧
      s.dirtyList.find? (fun x => s.flushable x) = some e) ∧
  (∀ (s : State) (e : Nat), s.fillable e = true ↔
    s.claimed e = false ∧
      ((∃ r, s.residentOf e = some r ∧ r.state = .resident) ∨
        (s.residentOf e = none ∧ s.canGetSlot e = true ∧ ∀ n ∈ s.free, s.retireOwed n = false))) ∧
  (∀ (s : State) (e : Nat), s.eligibleFill = some e ↔
    s.service = .serving ∧ s.spindle = .up ∧ s.bgWindow = .opened ∧ s.urgent = false ∧
      ¬ (s.settings.profile = .battery ∧ s.adviceSent = true) ∧
      s.promo.find? (fun x => s.fillable x) = some e)) ∧
  ((∀ s : State,
    (s.eligibleFlush = none ∧ s.eligibleFill = none) ∨ (∀ c : Fin 4, s.contexts[c] ≠ .idle) →
    exec .startEvent s = .next s) ∧
  (∀ (s : State) (c : Fin 4) (e : Nat) (r : Resident), s.contexts[c] = .idle →
    (∀ d : Fin 4, d < c → s.contexts[d] ≠ .idle) → s.eligibleFlush = some e → s.residentOf e = some r →
    (s.eligibleFill = none ∨ s.drain = true ∨ s.lastKind = .fill) → r.dirty ≠ 0#32 →
    ∃ t, exec .startEvent s = .next t ∧
      t.segmentsOf e = some (r.slot, .flushing, r.valid, r.dirty, r.lost) ∧
      (∀ x, x ≠ e → t.segmentsOf x = s.segmentsOf x) ∧ t.lastKind = .flush ∧ t.dirtyList = s.dirtyList ∧
      t.free = s.free ∧ t.fences = s.fences ∧ t.watch = s.watch ∧
      (s.flash.out.length < 16 → s.flashOwed = [] →
        t.contexts = s.contexts.set c (.flush
          { phase := .reading, extent := e, slot := r.slot, work := r.dirty, redirtied := 0#32, carried := r.dirty,
            order := .placed s.tickets s.settings.orderTimeout }) ∧
        t.tickets = (s.tickets + 1) % 65536 ∧
        s.flash.out ++ [.readSlot s.tickets c.val r.slot e r.dirty] <+: t.flash.out) ∧
      (16 ≤ s.flash.out.length ∨ s.flashOwed ≠ [] →
        t.contexts = s.contexts.set c (.flush
          { phase := .reading, extent := e, slot := r.slot, work := r.dirty, redirtied := 0#32, carried := 0#32,
            order := .pending }) ∧
        t.tickets = s.tickets ∧ t.flashOwed = s.flashOwed ++ [.order c])))

/-- START_EVENT with a fill to start (R6, R94, R95, R97, R99, R107 to R110, R142, R143): the fill of the eligible
entry, of a partial resident in its own slot, or fresh, with the lowest free slot, where the free count is above
ABSORB_RESERVE; READ_EXTENT is placed, or pending. At the reserve a victim below the candidate's band is evicted first,
its slot freed. A fresh fill that gets no slot does not start: the next entry that passes is tried as things then
stand, then the eligible flush is started, and otherwise nothing. No start event removes a record that is dirty,
moving, held or claimed. An order's wait behind a record owed to its port is log entry 11's reading. The entries tried
after a failed attempt are log entry 12's reading. -/
def Obligations.AStartEventStartsTheEligibleFill : Prop :=
  ((∀ (s : State) (c : Fin 4) (e : Nat) (r : Resident), s.contexts[c] = .idle →
    (∀ d : Fin 4, d < c → s.contexts[d] ≠ .idle) → s.eligibleFill = some e → s.residentOf e = some r →
    (s.eligibleFlush = none ∨ (s.drain = false ∧ s.lastKind = .flush)) → r.valid ||| r.lost ≠ SegSet.all →
    let missing := ~~~(r.valid ||| r.lost)
    let move (order : OrderState) : FillMove :=
      { phase := .reading, fresh := false, extent := e, slot := r.slot, work := missing, validate := missing,
        order := order }
    ∃ t, exec .startEvent s = .next t ∧
      t.segmentsOf e = some (r.slot, .filling, r.valid, r.dirty, r.lost) ∧
      (∀ x, x ≠ e → t.segmentsOf x = s.segmentsOf x) ∧ t.lastKind = .fill ∧ t.free = s.free ∧ t.promo = s.promo ∧
      (s.disk.out.length < 16 → s.diskOwed = [] →
        t.contexts = s.contexts.set c (.fill (move (.placed s.tickets s.settings.orderTimeout))) ∧
        t.tickets = (s.tickets + 1) % 65536 ∧
        s.disk.out ++ [.readExtent s.tickets c.val e missing] <+: t.disk.out) ∧
      (16 ≤ s.disk.out.length ∨ s.diskOwed ≠ [] →
        t.contexts = s.contexts.set c (.fill (move .pending)) ∧ t.tickets = s.tickets ∧ .order c ∈ t.diskOwed)) ∧
  (∀ (s : State) (c : Fin 4) (e n : Nat) (x : WatchEntry), s.contexts[c] = .idle →
    (∀ d : Fin 4, d < c → s.contexts[d] ≠ .idle) → s.eligibleFill = some e → s.residentOf e = none →
    s.watchOf e = some x → (s.eligibleFlush = none ∨ (s.drain = false ∧ s.lastKind = .flush)) →
    s.absorbReserve < s.free.length → s.free.head? = some n →
    let move (order : OrderState) : FillMove :=
      { phase := .reading, fresh := true, extent := e, slot := n, work := SegSet.all, validate := SegSet.all,
        order := order }
    ∃ t r, exec .startEvent s = .next t ∧ t.residentOf e = some r ∧ r.slot = n ∧ r.state = .filling ∧
      r.valid = 0#32 ∧ r.dirty = 0#32 ∧ r.lost = 0#32 ∧ r.heat = x.heat.caughtUp s.settings s.epoch ∧
      r.pinned = (s.policyOf e == .pin && decide (s.pinnedCount < s.pinLimit)) ∧
      (∀ y, y ≠ e → t.segmentsOf y = s.segmentsOf y) ∧ t.watchOf e = none ∧
      t.free = s.free.filter (fun k => k ≠ n) ∧ t.promo = s.promo ∧ t.lastKind = .fill ∧
      t.stats.evictions = s.stats.evictions ∧
      (s.disk.out.length < 16 → s.diskOwed = [] →
        t.contexts = s.contexts.set c (.fill (move (.placed s.tickets s.settings.orderTimeout))) ∧
        t.tickets = (s.tickets + 1) % 65536 ∧
        s.disk.out ++ [.readExtent s.tickets c.val e SegSet.all] <+: t.disk.out) ∧
      (16 ≤ s.disk.out.length ∨ s.diskOwed ≠ [] →
        t.contexts = s.contexts.set c (.fill (move .pending)) ∧ t.tickets = s.tickets ∧ .order c ∈ t.diskOwed)) ∧
  (∀ (s v : State) (c : Fin 4) (e n k : Nat) (x : WatchEntry) (y : Resident), s.contexts[c] = .idle →
    (∀ d : Fin 4, d < c → s.contexts[d] ≠ .idle) → s.eligibleFill = some e → s.residentOf e = none →
    s.watchOf e = some x → (s.eligibleFlush = none ∨ (s.drain = false ∧ s.lastKind = .flush)) →
    s.free.length = s.absorbReserve → s.watch.length < 4096 → s.flash.out.length < 16 → s.flashOwed = [] →
    (s.passingCatchUp e).victim [] (x.heat.caughtUp s.settings s.epoch).band.below = (some k, v) →
    v.residentOf k = some y → (insertBy id y.slot s.free).head? = some n →
    ∃ t r, exec .startEvent s = .next t ∧ t.segmentsOf k = none ∧ t.residentOf e = some r ∧ r.slot = n ∧
      r.state = .filling ∧ r.heat = x.heat.caughtUp s.settings s.epoch ∧
      (∀ z, z ≠ e → z ≠ k → t.segmentsOf z = s.segmentsOf z) ∧
      t.free = without n (insertBy id y.slot s.free) ∧ t.lastKind = .fill ∧
      t.stats.evictions = min (s.stats.evictions + 1) 4294967295 ∧ (∀ b, k ∉ t.clean.get b) ∧
      s.flash.out ++ [.retireSlot y.slot] <+: t.flash.out)) ∧
  ((∀ (s u : State) (c : Fin 4) (e : Nat) (before after : List Nat), s.contexts[c] = .idle →
    (∀ d : Fin 4, d < c → s.contexts[d] ≠ .idle) → s.eligibleFill = some e → s.residentOf e = none →
    (s.eligibleFlush = none ∨ (s.drain = false ∧ s.lastKind = .flush)) → s.fillSlot e = (none, u) →
    s.promo = before ++ e :: after → e ∉ before →
    let next := (u.promo.filter fun x => x ≠ e ∧ x ∉ before).find? fun x => u.fillable x
    u.contexts = s.contexts ∧ u.lastKind = s.lastKind ∧ u.tickets = s.tickets ∧
    (∀ x, u.segmentsOf x = s.segmentsOf x ∨ u.segmentsOf x = none) ∧
    (∀ f r, next = some f → u.residentOf f = some r → r.valid ||| r.lost ≠ SegSet.all →
      ∃ t m, exec .startEvent s = .next t ∧ t.lastKind = .fill ∧ t.contexts = s.contexts.set c (.fill m) ∧
        m.extent = f ∧ m.slot = r.slot ∧ m.fresh = false ∧ m.work = ~~~(r.valid ||| r.lost) ∧ m.validate = m.work ∧
        t.segmentsOf f = some (r.slot, .filling, r.valid, r.dirty, r.lost) ∧
        (∀ x, x ≠ f → t.segmentsOf x = u.segmentsOf x)) ∧
    (∀ f n w, next = some f → u.residentOf f = none → u.fillSlot f = (some n, w) →
      ∃ t m r, exec .startEvent s = .next t ∧ t.lastKind = .fill ∧ t.contexts = s.contexts.set c (.fill m) ∧
        m.extent = f ∧ m.slot = n ∧ m.fresh = true ∧ t.residentOf f = some r ∧ r.slot = n ∧ r.state = .filling ∧
        (∀ x, x ≠ f → t.segmentsOf x = w.segmentsOf x)) ∧
    (∀ f r, next = none → u.eligibleFlush = some f → u.residentOf f = some r → r.dirty ≠ 0#32 →
      ∃ t m, exec .startEvent s = .next t ∧ t.lastKind = .flush ∧ t.contexts = s.contexts.set c (.flush m) ∧
        m.extent = f ∧ m.slot = r.slot ∧ m.work = r.dirty ∧
        t.segmentsOf f = some (r.slot, .flushing, r.valid, r.dirty, r.lost)) ∧
    (next = none → u.eligibleFlush = none → exec .startEvent s = .next u.finish)) ∧
  (∀ (s t : State) (e : Nat) (r : Resident), s.ListsFiled → exec .startEvent s = .next t → s.residentOf e = some r →
    t.residentOf e = none → r.dirty = 0#32 ∧ r.state = .resident ∧ s.held e = false ∧ s.claimed e = false))

/-- FLUSH_ALL (R150, R151): BUSY while a drain is active or a DRAINED is owed; otherwise every dirty record is marked,
the answer carries their number, and a drain is active unless nothing is unflushed: then DRAINED follows the answer,
or is owed where the answer took the last place. -/
def Obligations.AFlushAllMarksEveryDirtyRecord : Prop :=
  ∀ (s : State) (ws : List Word), s.service = .serving → s.offered .front .flushAll = some ws →
    (s.drain = true ∨ s.drainedOwed ≠ none →
      exec .flushAll s = .next (s.answered .front (.answer 0x05 .busy ws.tail))) ∧
    (s.drain = false → s.drainedOwed = none →
      let count := s.records.countP (fun r => r.dirty != 0#32)
      let marked := s.records.map fun r => if r.dirty = 0#32 then r else { r with drainMark := true }
      let t := State.answered .front (.answer 0x05 .ok (ws.tail ++ [word count])) { s with records := marked }
      ((∃ r ∈ marked, r.drainMark = true ∧ r.stuck = false) →
        exec .flushAll s = .next (State.demandFor .drain { t with drain := true })) ∧
      ((∀ r ∈ marked, r.drainMark = true → r.stuck = true) → s.front.out.length + 2 ≤ 16 →
        exec .flushAll s =
          .next (State.demandFor .drain { t with
            records := marked.map fun r => { r with drainMark := false }
            front := { t.front with
              out := t.front.out ++ [.drained (marked.countP fun r => r.drainMark && r.stuck)] } })) ∧
      ((∀ r ∈ marked, r.drainMark = true → r.stuck = true) → 16 < s.front.out.length + 2 →
        exec .flushAll s =
          .next (State.demandFor .drain { t with
            records := marked.map fun r => { r with drainMark := false }
            drainedOwed := some (marked.countP fun r => r.drainMark && r.stuck) })))

/-- RETRY_STUCK (R153): the count of stuck residents, every stuck status no and every count of retries 0, the owed STUCK
notices of the stuck dropped and owed LOST notices kept, the Dirty List's order as it was. -/
def Obligations.ARetryStuckFreesEveryStuckRecord : Prop :=
  ∀ (s : State) (ws : List Word), s.offered .front .retryStuck = some ws →
    (s.service ≠ .serving →
      exec .retryStuck s = .next (s.answered .front (.answer 0x06 .notReady ws.tail))) ∧
    (s.service = .serving →
      ∃ t f, exec .retryStuck s = .next t ∧
        t = { s.answered .front (.answer 0x06 .ok (ws.tail ++ [word (s.records.countP (fun r => r.stuck))])) with
          records := s.records.map f } ∧
        t.dirtyList = s.dirtyList ∧
        ∀ r ∈ s.records, f r = { r with stuck := false, retries := 0, owed := (f r).owed } ∧
          (r.stuck = true → r.owed = .stuck → (f r).owed = .absent) ∧
          (∀ a, r.owed = .lost a → (f r).owed = .lost a) ∧ (r.owed = .absent → (f r).owed = .absent) ∧
          (f r).unflushed = r.drainMark ∧
          (r.stuck = true → s.residentOf r.extent = some r → r.state = .resident → s.claimed r.extent = false →
            t.flushable r.extent = true))

/-- SPINDLE (R132, R134, R146): the state is taken and answered; in SERVING an UP report that begins an UP period arms
the advice timer and drops the owed demands, a report that ends one stops it and drops an owed advice, and a DOWN report
reconsiders the demands. WINDOW (R133): the background window is taken and answered. That the answer to SPINDLE stands
before the demands in the disk queue is log entry 6's choice. -/
def Obligations.ASpindleReportTurnsTheUpPeriod : Prop :=
  (∀ (s : State) (x : Spindle) (ws : List Word), s.offered .disk (.spindle x.value) = some ws →
    let t := State.answered .disk (.answer 0x10 .ok (ws.tail ++ [word x.value])) { s with spindle := x }
    let reconsidered (d : List DiskOwed) : DemandFlags :=
      { dirtyCeiling := decide (DiskOwed.demand .dirtyCeiling ∈ d), drain := decide (DiskOwed.demand .drain ∈ d),
        fill := decide (DiskOwed.demand .fill ∈ d) }
    let ended : State :=
      { t with adviceTimer := none, adviceSent := false, diskOwed := s.diskOwed.filter (fun o => o ≠ .advice) }
    (s.service ≠ .serving → exec (.spindle x.value) s = .next t) ∧
    (s.service = .serving → x = .up → s.spindle ≠ .up →
      exec (.spindle x.value) s =
        .next (State.demandAll { t with
          diskOwed := s.diskOwed.filter (fun o => !o.isDemand)
          adviceSent := false
          adviceTimer := if s.settings.adviceDelay = 0 then s.adviceTimer else some s.settings.adviceDelay })) ∧
    (s.service = .serving → x = .up → s.spindle = .up →
      exec (.spindle x.value) s =
        .next (State.demandAll { t with diskOwed := s.diskOwed.filter (fun o => !o.isDemand) })) ∧
    (s.service = .serving → x ≠ .up → s.spindle = .up →
      exec (.spindle x.value) s =
        .next (State.demandAll (if x = .down then { ended with demands := reconsidered ended.diskOwed } else ended))) ∧
    (s.service = .serving → x ≠ .up → s.spindle ≠ .up →
      exec (.spindle x.value) s =
        .next (State.demandAll (if x = .down then { t with demands := reconsidered s.diskOwed } else t)))) ∧
  (∀ (s : State) (x : BgWindow) (ws : List Word), s.offered .disk (.window x.value) = some ws →
    exec (.window x.value) s =
      .next (State.answered .disk (.answer 0x11 .ok (ws.tail ++ [word x.value])) { s with bgWindow := x }))

/-- ADVICE_TIMER_EXPIRY (R148): with every condition met the advice is placed, or owed, and the timer stays stopped;
otherwise the timer is re-armed. A stopped timer does not expire. The case of a stopped timer is log entry 1's, and
the wait behind a record owed to the port log entry 11's. -/
def Obligations.AnAdviceTimerExpirySendsTheAdviceOrRearms : Prop :=
  (∀ s : State, s.adviceTimer = none → exec .adviceTimerExpiry s = .next s) ∧
  (∀ (s : State) (n : Nat), s.adviceTimer = some n →
    let due := (∀ c : Fin 4, s.contexts[c].orderPort ≠ some .disk) ∧ (∀ x ∈ s.routes, x.disk = false) ∧
      s.urgent = false ∧ s.drain = false ∧ s.eligibleFlush = none ∧
      (s.settings.profile = .mains → s.promo = [])
    let t : State := { s with adviceSent := true, adviceTimer := none }
    (due → s.disk.out.length < 16 → s.diskOwed = [] →
      exec .adviceTimerExpiry s =
        .next { t with disk := { s.disk with out := s.disk.out ++ [.spinDownAdvice] } }) ∧
    (due → 16 ≤ s.disk.out.length ∨ s.diskOwed ≠ [] →
      exec .adviceTimerExpiry s = .next { t with diskOwed := s.diskOwed ++ [.advice] }) ∧
    (¬ due → s.service = .serving → s.spindle = .up → s.adviceSent = false → s.settings.adviceDelay ≠ 0 →
      exec .adviceTimerExpiry s = .next { s with adviceTimer := some s.settings.adviceDelay }))

/-- EPOCH_TIMER_EXPIRY (R34 to R37): the counter increases and wraps, the next period starts with the EPOCH_LEN in
force, and the age sweep visits the 64 places from the cursor on, round the circle of S + 4,096; a visit examines
the record or the entry of its place. A stopped timer does not expire. The case of a stopped timer is log entry 1's.
-/
def Obligations.AnEpochExpiryVisitsTheNext64Places : Prop :=
  (∀ s : State, s.epochTimer = none → exec .epochTimerExpiry s = .next s) ∧
  (∀ (s : State) (n : Nat), s.epochTimer = some n → s.WithinCapacity →
    let circle := s.slots + 4096
    let visited := (List.range 64).foldl (fun (u : State) i => u.sweepPlace ((s.cursor + i) % circle))
      { s with epoch := (s.epoch + 1) % 65536, epochTimer := some s.settings.epochLen }
    let t : State := { visited with cursor := (s.cursor + 64) % circle }
    exec .epochTimerExpiry s = .next (if s.service = .serving then t.demandFor .fill else t)) ∧
  (∀ (s : State) (p : Nat),
    (∀ r, p < s.slots → s.residentIn p = some r → s.sweepPlace p = s.examineResident 0 r) ∧
    (∀ x, s.slots ≤ p → s.watch.find? (fun w => w.place == p - s.slots) = some x →
      s.sweepPlace p = s.examineWatched 0 x) ∧
    (p < s.slots → s.residentIn p = none → s.sweepPlace p = s) ∧
    (s.slots ≤ p → s.watch.find? (fun w => w.place == p - s.slots) = none → s.sweepPlace p = s))

/-! ### Link resets -/

/-- FRONT_LINK_RESET (R5, R89, R155, R165, R166): the front link, the routes, the parked routes, the drain and the front
port's claims go; an empty RESIDENT record is retired, and every other record keeps its segments. In SERVING an entry of
the Claim Table that does not name the front port stands, granted where its extent has become quiescent for its pending
port; one that the front port owned or was pending for passes to its first waiter, or is freed without one (R90). -/
def Obligations.AFrontLinkResetEndsRoutesDrainAndFrontClaims : Prop :=
  ∀ s : State, s.WithinCapacity → ∃ t, exec .frontLinkReset s = .next t ∧
    t.front.fifo = [] ∧ t.front.out = [] ∧ t.routes = [] ∧ t.parked = [] ∧ t.drain = false ∧ t.drainedOwed = none ∧
    (∀ r ∈ t.records, r.drainMark = false ∧ r.owed = .absent) ∧
    (∀ (i : Fin 8) c, t.claims[i] = some c → c.standing.port ≠ .front ∧ (.front : Port) ∉ c.waiters) ∧
    (s.service = .serving → s.LeftBy .front t) ∧
    (∀ e r, s.residentOf e = some r →
      (r.isEmpty = true ∧ r.state = .resident → t.segmentsOf e = none) ∧
      (r.isEmpty = false ∨ r.state ≠ .resident → t.segmentsOf e = s.segmentsOf e)) ∧
    t.contexts = s.contexts ∧ t.fences = s.fences ∧ t.tickets = s.tickets ∧ t.streams = s.streams ∧
    t.windows = s.windows ∧ t.settings = s.settings ∧ t.sizes = s.sizes ∧ t.service = s.service ∧
    t.pointer = s.pointer ∧ t.adviceTimer = s.adviceTimer ∧
    t.flash.fifo = s.flash.fifo ∧ t.disk.fifo = s.disk.fifo

/-- FLASH_LINK_RESET (R89, R104, R114, R124, R130, R165, R167), by service state: in COLD the link alone is emptied;
in ADOPTING the part returns to COLD and keeps what R167 lists; in SERVING the flash moves end, a fresh FILL's record
removed and its slot freed and any other record RESIDENT with its sets as they are, held marks and owed retirements
are dropped, and every fenced slot is free; a fresh FILL's heat returns to the Watch List, its queue entry kept, and a
FLUSH ends uncharged. The Claim Table stands but for the flash port, which leaves each entry to its first waiter, and
for what the ended moves grant (R90). That the model's own queue is kept is log entry 2's choice, and that the words
last driven on the link are kept, in COLD too, log entry 9's. -/
def Obligations.AFlashLinkResetActsByServiceState : Prop :=
  (∀ s : State, s.service = .cold →
    exec .flashLinkReset s = .next { s with flash := { s.flash with fifo := [], out := [] } }) ∧
  (∀ s : State, s.service = .adopting →
    exec .flashLinkReset s =
      .next { State.reset with
        pending := s.pending, front := s.front, flash := { s.flash with fifo := [], out := [] }, disk := s.disk
        pointer := s.pointer, settings := s.settings, windows := s.windows, stats := s.stats, tickets := s.tickets
        spindle := s.spindle, bgWindow := s.bgWindow }) ∧
  (∀ s : State, s.service = .serving → s.WithinCapacity →
    ∃ t, exec .flashLinkReset s = .next t ∧ t.service = .serving ∧ t.flash.fifo = [] ∧ t.flash.out = [] ∧
      t.flashOwed = [] ∧ t.fences = [] ∧ (∀ f ∈ s.fences, f.slot ∈ t.free) ∧ (∀ n ∈ s.free, n ∈ t.free) ∧
      (∀ c : Fin 4, s.contexts[c].orderPort = some .flash → t.contexts[c] = .idle) ∧
      (∀ (c : Fin 4) n a, s.contexts[c] = .marking n a → t.contexts[c] = .idle) ∧
      (∀ c : Fin 4, s.contexts[c].orderPort = some .disk → t.contexts[c] = s.contexts[c]) ∧
      (∀ e, (∀ c : Fin 4, s.contexts[c].orderPort = some .flash → s.contexts[c].extentInMove ≠ some e) →
        t.segmentsOf e = s.segmentsOf e) ∧
      (∀ (i : Fin 8) c, t.claims[i] = some c → c.standing.port ≠ .flash ∧ (.flash : Port) ∉ c.waiters) ∧
      s.LeftBy .flash t ∧
      t.routes = s.routes ∧ t.parked = s.parked ∧ t.sizes = s.sizes ∧ t.settings = s.settings ∧
      t.spindle = s.spindle ∧ t.front.fifo = s.front.fifo ∧ t.disk.fifo = s.disk.fifo ∧
      (s.MovesMatched →
        (∀ (c : Fin 4) m r, s.contexts[c] = .fill m → m.phase = .writing → s.residentOf m.extent = some r →
          (m.fresh = true → t.segmentsOf m.extent = none ∧ r.slot ∈ t.free) ∧
          (m.fresh = true → s.watch.length + 4 ≤ 4096 → s.watchOf m.extent = none →
            let h := r.heat.caughtUp s.settings s.epoch
            (h.heat ≠ 0 → (m.extent ∈ t.promo ↔ m.extent ∈ s.promo) ∧ ∃ w, t.watchOf m.extent = some w ∧ w.heat = h) ∧
            (h.heat = 0 → m.extent ∉ t.promo ∧ t.watchOf m.extent = none)) ∧
          (m.fresh = false → r.isEmpty = false → ∃ u, t.residentOf m.extent = some u ∧ u.heat = r.heat ∧
            t.segmentsOf m.extent = some (r.slot, .resident, r.valid, r.dirty, r.lost) ∧
            (r.valid ||| r.lost ≠ SegSet.all → (m.extent ∈ t.promo ↔ m.extent ∈ s.promo)))) ∧
        (∀ (c : Fin 4) m r, s.contexts[c] = .flush m → m.phase = .reading → s.residentOf m.extent = some r →
          r.isEmpty = false → ∃ u, t.residentOf m.extent = some u ∧
            t.segmentsOf m.extent = some (r.slot, .resident, r.valid, r.dirty, r.lost) ∧
            (r.dirty ≠ 0#32 → u.retries = r.retries ∧ u.stuck = r.stuck ∧
              (r.stuck = false → u.drainMark = r.drainMark))) ∧
        (s.RecordsLawful → s.ListsFiled → t.dirtyList = s.dirtyList)))

/-- DISK_LINK_RESET (R89, R131, R154, R165, R168): the link is emptied, the spindle DOWN and the background window
OPEN; in SERVING the UP period ends, and the demands are made afresh in the emptied queue. The disk moves end: a fresh
FILL's record is removed, its slot freed with RETIRE_SLOT placed or owed, its heat returned to the Watch List and its
queue entry kept; a partial FILL's record is RESIDENT with its sets, heat and queue entry; a FLUSH ends uncharged. The
Claim Table stands but for the disk port, which leaves each entry to its first waiter, and for what the ended moves
grant (R90). That the model's own queue is kept is log entry 2's choice, and that the words last driven on the link are
kept outside SERVING log entry 9's. -/
def Obligations.ADiskLinkResetReconsidersTheDemands : Prop :=
  (∀ s : State, s.service ≠ .serving →
    exec .diskLinkReset s =
      .next { s with disk := { s.disk with fifo := [], out := [] }, spindle := .down, bgWindow := .opened }) ∧
  (∀ s : State, s.service = .serving → s.WithinCapacity →
    ∃ t, exec .diskLinkReset s = .next t ∧ t.service = .serving ∧ t.disk.fifo = [] ∧ t.spindle = .down ∧
      t.bgWindow = .opened ∧ t.adviceTimer = none ∧ t.adviceSent = false ∧ t.diskOwed = [] ∧
      t.disk.out = ([Reason.dirtyCeiling, .drain, .fill].filter (fun r => t.demandHolds r)).map .spinUpDemand ∧
      (∀ r, t.demands.get r = t.demandHolds r) ∧
      (∀ c : Fin 4, s.contexts[c].orderPort = some .disk → t.contexts[c] = .idle) ∧
      (∀ c : Fin 4, s.contexts[c].orderPort ≠ some .disk → t.contexts[c] = s.contexts[c]) ∧
      (∀ e, (∀ c : Fin 4, s.contexts[c].orderPort = some .disk → s.contexts[c].extentInMove ≠ some e) →
        t.segmentsOf e = s.segmentsOf e) ∧
      (∀ (i : Fin 8) c, t.claims[i] = some c → c.standing.port ≠ .disk ∧ (.disk : Port) ∉ c.waiters) ∧
      s.LeftBy .disk t ∧
      t.routes = s.routes ∧ t.parked = s.parked ∧ t.fences = s.fences ∧ t.settings = s.settings ∧ t.sizes = s.sizes ∧
      t.front.fifo = s.front.fifo ∧ t.flash.fifo = s.flash.fifo ∧
      s.flash.out <+: t.flash.out ∧ (∀ n ∈ s.free, n ∈ t.free) ∧
      (s.MovesMatched →
        (∀ (c : Fin 4) m r, s.contexts[c] = .fill m → m.phase = .reading → s.residentOf m.extent = some r →
          (m.fresh = true → t.segmentsOf m.extent = none ∧ r.slot ∈ t.free ∧
            (.retireSlot r.slot ∈ t.flash.out ∨ .retire r.slot ∈ t.flashOwed)) ∧
          (m.fresh = true → s.watch.length + 4 ≤ 4096 → s.watchOf m.extent = none →
            let h := r.heat.caughtUp s.settings s.epoch
            (h.heat ≠ 0 → (m.extent ∈ t.promo ↔ m.extent ∈ s.promo) ∧ ∃ w, t.watchOf m.extent = some w ∧ w.heat = h) ∧
            (h.heat = 0 → m.extent ∉ t.promo ∧ t.watchOf m.extent = none)) ∧
          (m.fresh = false → r.isEmpty = false → ∃ u, t.residentOf m.extent = some u ∧ u.heat = r.heat ∧
            t.segmentsOf m.extent = some (r.slot, .resident, r.valid, r.dirty, r.lost) ∧
            (r.valid ||| r.lost ≠ SegSet.all → (m.extent ∈ t.promo ↔ m.extent ∈ s.promo)))) ∧
        (∀ (c : Fin 4) m r, s.contexts[c] = .flush m → m.phase = .writing → s.residentOf m.extent = some r →
          r.isEmpty = false → ∃ u, t.residentOf m.extent = some u ∧
            t.segmentsOf m.extent = some (r.slot, .resident, r.valid, r.dirty, r.lost) ∧
            (r.dirty ≠ 0#32 → u.retries = r.retries ∧ u.stuck = r.stuck ∧
              (r.stuck = false → u.drainMark = r.drainMark))) ∧
        (s.RecordsLawful → s.ListsFiled → t.dirtyList = s.dirtyList)))

/-! ### Heat, windows and victims -/

/-- The decay of one epoch step (R26), and the steps an examination finds owed, taken with the DECAY in force then. -/
def Obligations.AnEpochStepDecaysTheHeat : Prop :=
  (∀ (g : Settings) (h : Heat),
    (1 ≤ h.heat → (h.epochStep g).heat = h.heat - max (h.heat / 2 ^ g.decay) 1) ∧
    (h.heat = 0 → (h.epochStep g).heat = 0) ∧
    (h.heat ≠ 0 → (h.epochStep g).heat + 1 ≤ h.heat) ∧
    (h.heat ≠ 0 → h.heat < 2 ^ g.decay → (h.epochStep g).heat + 1 = h.heat) ∧
    (h.heat = 65535 → g.decay = 1 → (h.epochStep g).heat + 32767 = 65535) ∧
    (h.heat = 65535 → g.decay = 8 → (h.epochStep g).heat + 255 = 65535) ∧
    (1 ≤ h.heat → h.heat ≤ 65535 → (h.epochStep g).heat ≤ 65534) ∧
    (∀ n, Heat.epochSteps g 0 h = h ∧ Heat.epochSteps g (n + 1) h = Heat.epochSteps g n (h.epochStep g))) ∧
  (∀ (s : State) (r : Resident) (n : Nat), s.residentOf r.extent = some r → n ≤ 64 → s.epoch < 65536 →
    r.heat.stamp < 65536 → (r.heat.stamp + n) % 65536 = s.epoch → r.heat.heat ≤ 65535 →
    ∃ u, (s.examineResident 0 r).residentOf r.extent = some u ∧
      u.heat.heat = (Heat.epochSteps s.settings n r.heat).heat)

/-- Bands and settling (R25, R27, R28): the raw band is taken of the decayed heat; the settled band follows it when the
count of disagreeing steps reaches SETTLE; past the forget horizon the record is reset in one step. -/
def Obligations.AnEpochStepSettlesTheBand : Prop :=
  (∀ (g : Settings) (n : Nat),
    (n < g.t1 → g.rawBand n = .b0) ∧ (g.t1 ≤ n → n < g.t2 → g.rawBand n = .b1) ∧
    (g.t1 ≤ n → g.t2 ≤ n → n < g.t3 → g.rawBand n = .b2) ∧
    (g.t1 ≤ n → g.t2 ≤ n → g.t3 ≤ n → g.rawBand n = .b3)) ∧
  (∀ (g : Settings) (h : Heat),
    let u := h.epochStep g
    let raw := g.rawBand u.heat
    (raw = h.band → u.band = h.band ∧ u.settle = 0) ∧
    (raw ≠ h.band → h.settle + 1 < g.settle → u.band = h.band ∧ u.settle = h.settle + 1) ∧
    (raw ≠ h.band → g.settle ≤ h.settle + 1 → u.band = raw ∧ u.settle = 0)) ∧
  (∀ (g : Settings) (epoch : Nat) (h : Heat), epoch < 65536 → h.stamp < 65536 →
    let owed := if h.stamp ≤ epoch then epoch - h.stamp else epoch + 65536 - h.stamp
    (owed ≤ 64 → h.caughtUp g epoch = { Heat.epochSteps g owed h with stamp := epoch }) ∧
    (64 < owed → h.caughtUp g epoch = { heat := 0, band := .b0, settle := 0, stamp := epoch }))

/-- The examination of a resident record (R18, R24, R31 to R33, R43, R47): its heat and stamp, the pinned flag by the
table of R47, the policy it is classified under, its place on the Promotion Queue, and its clean list: it keeps its
place on the list its contents still give it, joins another at the head, or at the tail where it lost the pinned flag,
and leaves every list when they give it none; its segments stand. The examination of a watch entry (R13, R24, R31,
R32): its heat, band, settle count and stamp, and its extent's place on the Promotion Queue; its place and its
last-touch position stand. -/
def Obligations.AnExaminationBringsARecordUpToDate : Prop :=
  (∀ (s : State) (w : Nat) (r : Resident), s.residentOf r.extent = some r →
    let t := s.examineResident w r
    let policy := s.policyOf r.extent
    let caught := r.heat.caughtUp s.settings s.epoch
    s.examine w r.extent = t ∧
    ∃ u, t.residentOf r.extent = some u ∧
      u.heat = { caught with heat := min (caught.heat + w) 65535 } ∧ u.classified = policy ∧
      (u.pinned = true ↔ policy = .pin ∧
        (if r.pinned then s.pinnedCount ≤ s.pinLimit else s.pinnedCount < s.pinLimit)) ∧
      (∀ e, t.segmentsOf e = s.segmentsOf e) ∧
      (let candidate := r.valid ||| r.lost ≠ SegSet.all ∧ policy ≠ .bypass ∧
          (s.settings.promoteBand.rank ≤ u.heat.band.rank ∨ (policy = .pin ∧ t.pinnedCount < s.pinLimit));
        (¬ candidate → t.promo = s.promo.filter (fun e => e ≠ r.extent)) ∧
        (candidate → r.extent ∈ s.promo → t.promo = s.promo) ∧
        (candidate → r.extent ∉ s.promo → s.promo.length < 64 → t.promo = s.promo ++ [r.extent]) ∧
        (candidate → r.extent ∉ s.promo → 64 ≤ s.promo.length → t.promo = s.promo)) ∧
      (let band := if policy = .bypass then .b0 else u.heat.band
        ∀ b : Band,
          (r.dirty ≠ 0#32 ∨ u.pinned = true ∨ r.state ≠ .resident ∨ b ≠ band →
            t.clean.get b = (s.clean.get b).filter (fun e => e ≠ r.extent)) ∧
          (r.dirty = 0#32 → u.pinned = false → r.state = .resident → b = band →
            (r.extent ∈ s.clean.get b → t.clean.get b = s.clean.get b) ∧
            (r.extent ∉ s.clean.get b → r.pinned = false → t.clean.get b = r.extent :: s.clean.get b) ∧
            (r.extent ∉ s.clean.get b → r.pinned = true → t.clean.get b = s.clean.get b ++ [r.extent]))) ∧
      t.watch = s.watch ∧ t.free = s.free ∧ t.contexts = s.contexts ∧ t.front = s.front ∧ t.flash = s.flash ∧
      t.disk = s.disk) ∧
  (∀ (s : State) (w : Nat) (x : WatchEntry), s.watchOf x.extent = some x → s.residentOf x.extent = none →
    let t := s.examineWatched w x
    let policy := s.policyOf x.extent
    let caught := x.heat.caughtUp s.settings s.epoch
    let heat := { caught with heat := min (caught.heat + w) 65535 }
    let candidate := policy ≠ .bypass ∧
      (s.settings.promoteBand.rank ≤ caught.band.rank ∨ (policy = .pin ∧ s.pinnedCount < s.pinLimit))
    s.examine w x.extent = t ∧
    t = { s with watch := t.watch, promo := t.promo } ∧
    t.watchOf x.extent = some { x with heat := heat } ∧ (∀ e, e ≠ x.extent → t.watchOf e = s.watchOf e) ∧
    t.watch.map (·.place) = s.watch.map (·.place) ∧ t.watch.map (·.extent) = s.watch.map (·.extent) ∧
    (¬ candidate → t.promo = s.promo.filter (fun e => e ≠ x.extent)) ∧
    (candidate → x.extent ∈ s.promo → t.promo = s.promo) ∧
    (candidate → x.extent ∉ s.promo → s.promo.length < 64 → t.promo = s.promo ++ [x.extent]) ∧
    (candidate → x.extent ∉ s.promo → 64 ≤ s.promo.length → t.promo = s.promo)) ∧
  (∀ (s : State) (w e : Nat), s.residentOf e = none → s.watchOf e = none → s.examine w e = s)

/-- A READ within one extent that is neither resident nor watched (R13, R20 to R23, R29): it is classified by the Stream
Table, its weight, with WAKE_BONUS where the spindle is not UP, makes a watch entry in the lowest free place, at the
tail of last-touch order; with no weight no entry is made. -/
def Obligations.AReadOfAnUnknownExtentStartsItsHeat : Prop :=
  (∀ (s : State) (tag lba count : Nat) (q : Parked) (sp : Span) (ws : List Word), s.service = .serving →
    validRoute tag 0 lba count = some q → s.tagInUse tag = false → s.routeParks q = false →
    s.offered .front (.route tag 0 lba count) = some ws → routeSpans lba count = [sp] →
    s.residentOf sp.extent = none → s.watchOf sp.extent = none → s.watch.length < 4096 →
    let sequential := (s.classify lba count).1
    let route := (if sequential then s.settings.wSread else s.settings.wRread) +
      (if s.spindle = .up then 0 else s.settings.wakeBonus)
    let weight := match s.policyOf sp.extent with
      | .bypass => 0
      | .boost => 2 * route
      | .normal => route
      | .pin => route
    ∃ t, exec (.route tag 0 lba count) s = .next t ∧
      t.streams = (s.classify lba count).2.streams ∧ t.streamUse = (s.classify lba count).2.streamUse ∧
      (weight ≠ 0 → t.touch = s.touch ++ [sp.extent] ∧ ∃ x, t.watchOf sp.extent = some x ∧
        x.place = lowestGap 0 s.watch ∧
        x.heat = { heat := min weight 65535, band := .b0, settle := 0, stamp := s.epoch }) ∧
      (weight = 0 → t.watch = s.watch ∧ t.touch = s.touch)) ∧
  (∀ (s : State) (lba count : Nat) (i : Fin 4),
    let t := (s.classify lba count).2
    let sequential := (s.classify lba count).1
    (∀ x, s.streamUse.find? (fun j => (s.streams[j].map (·.next)) == some lba) = some i → s.streams[i] = some x →
      t.streams = s.streams.set i (some { next := lba + count, run := min (x.run + count) 65535 }) ∧
      t.streamUse = i :: s.streamUse.filter (fun j => j ≠ i) ∧
      (sequential = true ↔ s.settings.seqRun ≤ min (x.run + count) 65535)) ∧
    ((∀ j ∈ s.streamUse, ∀ x, s.streams[j] = some x → x.next ≠ lba) →
      (s.streams[i] = none ∧ (∀ j : Fin 4, j < i → s.streams[j] ≠ none)) ∨
        ((∀ j : Fin 4, s.streams[j] ≠ none) ∧ s.streamUse.getLast? = some i) →
      t.streams = s.streams.set i (some { next := lba + count, run := count }) ∧
      t.streamUse = i :: s.streamUse.filter (fun j => j ≠ i) ∧ (sequential = true ↔ s.settings.seqRun ≤ count)))

/-- The policy of an extent (R42): that of the first enabled window, in number order, whose masked base equals the
masked extent; NORMAL where none matches. -/
def Obligations.AnExtentTakesThePolicyOfItsFirstMatchingWindow : Prop :=
  (∀ (s : State) (e : Nat),
    (∀ n : Fin 8, s.windows[n].enable = true → e &&& s.windows[n].mask = s.windows[n].base &&& s.windows[n].mask →
      (∀ k : Fin 8, k < n →
        ¬ (s.windows[k].enable = true ∧ e &&& s.windows[k].mask = s.windows[k].base &&& s.windows[k].mask)) →
      s.policyOf e = s.windows[n].policy) ∧
    ((∀ n : Fin 8,
        ¬ (s.windows[n].enable = true ∧ e &&& s.windows[n].mask = s.windows[n].base &&& s.windows[n].mask)) →
      s.policyOf e = .normal)) ∧
  (∀ (w : PolicyWindow) (e : Nat), w.enable = true →
    (w.mask = 0 → w.hits e = true) ∧
    (e ≤ 16777215 → w.base ≤ 16777215 → w.mask = 16777215 → (w.hits e = true ↔ e = w.base)) ∧
    (w.mask = 1 → w.base = 1 → (w.hits e = true ↔ e % 2 = 1)) ∧
    (∀ k, k ≤ 24 → e ≤ 16777215 → w.base ≤ 16777215 → w.mask = 16777216 - 2 ^ k →
      (w.hits e = true ↔ e / 2 ^ k = w.base / 2 ^ k))) ∧
  (∀ (w : PolicyWindow) (e : Nat), w.enable = false → w.hits e = false) ∧
  (∀ (s t : State) (e : Nat), s.windows = t.windows → s.policyOf e = t.policyOf e)

/-- A victim (R86, R95, R96) is a record of an allowed clean list, and its extent is neither held nor claimed nor
excluded; with no list allowed there is none. The choice goes through the allowed lists from the coldest, each from
its head: the first record not skipped is caught up, and is the victim where that leaves it on its list; otherwise the
walk begins again from the state its catch-up left. Where every record of the allowed lists is skipped, the pin scan
takes the first record in slot order that is pinned-clean, not in FILLING and not skipped, and that its catch-up puts
on an allowed list; and with nothing pinned-clean there is no victim and nothing changes. -/
def Obligations.AVictimIsNeverHeldClaimedOrExcluded : Prop :=
  let skipped (s : State) (excluded : List Nat) (e : Nat) : Prop :=
    s.held e = true ∨ s.claimed e = true ∨ e ∈ excluded
  (∀ (s t : State) (excluded : List Nat) (ceiling : Option Band) (e : Nat),
    s.victim excluded ceiling = (some e, t) →
    s.held e = false ∧ s.claimed e = false ∧ e ∉ excluded ∧
      ∃ b top : Band, ceiling = some top ∧ b.rank ≤ top.rank ∧ e ∈ t.clean.get b) ∧
  (∀ (s : State) (excluded : List Nat) (b top : Band) (e : Nat) (before after : List Nat), b.rank ≤ top.rank →
    (∀ c : Band, c.rank < b.rank → ∀ x ∈ s.clean.get c, skipped s excluded x) →
    s.clean.get b = before ++ e :: after → (∀ x ∈ before, skipped s excluded x) → ¬ skipped s excluded e →
    let t := s.examine 0 e
    (e ∈ t.clean.get b → s.victim excluded (some top) = (some e, t)) ∧
    (e ∉ t.clean.get b → ∀ n,
      s.walk excluded (bandsUpTo (some top)) (n + 1) = t.walk excluded (bandsUpTo (some top)) n)) ∧
  (∀ (s u : State) (excluded : List Nat) (ceiling : Option Band) (e : Nat),
    s.walk excluded (bandsUpTo ceiling) (s.clean.size + 1) = (some e, u) → s.victim excluded ceiling = (some e, u)) ∧
  (∀ (s : State) (excluded : List Nat) (ceiling : Option Band),
    (∀ top b : Band, ceiling = some top → b.rank ≤ top.rank → ∀ x ∈ s.clean.get b, skipped s excluded x) →
    (s.pinnedCleanCount = 0 → s.victim excluded ceiling = (none, s)) ∧
    (∀ (r : Resident) (before after : List Resident) (b top : Band), (s.records.map (·.extent)).Nodup →
      s.records = before ++ r :: after →
      (∀ x ∈ before, x.isPinnedClean = false ∨ x.state = .filling ∨ skipped s excluded x.extent) →
      r.isPinnedClean = true → r.state ≠ .filling → ¬ skipped s excluded r.extent →
      let t := s.examineResident 0 r
      ceiling = some top → b.rank ≤ top.rank → r.extent ∈ t.clean.get b →
        s.victim excluded ceiling = (some r.extent, t)))

/-! ### The laws every step keeps -/

/-- The state after power-on is safe. -/
def Obligations.ThePowerOnStateIsSafe : Prop :=
  State.reset.Safe

/-- Every step keeps every setting, S and every window field in its range, and a value of S outside COLD (R41, R156,
R160, R178, R179); the FIFOs, the
outbound queues, the Park List and the Promotion Queue within their capacities, the sweep cursor on its circle, no port
twice in a Claim Table entry, and the counters at most 4,294,967,295 (R17, R36, R77, R135, R170, R171, R181). -/
def Obligations.StepKeepsSettingsQueuesAndCountersInRange : Prop :=
  (∀ s t : State, s.SettingsInRange → step s = .next t → t.SettingsInRange) ∧
  (∀ s t : State, s.WithinCapacity → s.stats.Bounded → step s = .next t → t.WithinCapacity ∧ t.stats.Bounded)

/-- Every step keeps every record lawful (R2, R4, R8 to R10, R29): dirty segments are valid, a clean record has no
drain mark, retries or stuck status, a FLUSHING one is not stuck (R123, R138), heat is in range, no two records are of
one extent, and the Dirty List's records are dirty. Every step keeps every dirty record on the Dirty List, and every
clean, unpinned RESIDENT record on one clean list, that of its band, once (R8, R18, R94); every record's lost set
apart from its valid set, and every move matched by its record (R3, R4, R109, R111, R112); and every extent's heat in
one place: none is both watched and resident (R12). -/
def Obligations.StepKeepsEveryRecordLawful : Prop :=
  (∀ s t : State, s.SettingsInRange → s.RecordsLawful → step s = .next t → t.RecordsLawful) ∧
  (∀ s t : State, s.ListsFiled → step s = .next t → t.ListsFiled) ∧
  (∀ s t : State, s.ListsFiled → s.MovesMatched → step s = .next t → t.MovesMatched) ∧
  (∀ s t : State, s.HeatOnce → step s = .next t → t.HeatOnce)

/-- Every step keeps every slot in one place: free, fenced, or occupied by one record (R92, R93, R103); and the free
pool, the Residency Table and the Watch List in ascending order of slots, slots and places, nothing twice, so that the
first that fits is the lowest (R12, R92, R101). -/
def Obligations.StepKeepsEverySlotInOnePlace : Prop :=
  (∀ s t : State, s.SlotsAccounted → step s = .next t → t.SlotsAccounted) ∧
  (∀ s t : State, s.SlotsAccounted → s.HeatOnce → s.Ascending → step s = .next t → t.Ascending)

/-- Every step keeps the fences and the reservations of fresh FILLs within the 8 places of the fenced set (R99,
R103). -/
def Obligations.StepKeepsTheFencedSetWithinItsPlaces : Prop :=
  ∀ s t : State, s.FencesFit → step s = .next t → t.FencesFit

/-- A request's words, sent as a frame, are well formed, and spell the same request (R169, R177, R184). That a QUERY
whose extent has more than 24 bits is sent and read with the whole of its word 1 is log entry 4's reading. -/
def Obligations.AnEncodedRequestDecodesToItself : Prop :=
  ∀ (c : Instr) (p : Port) (ws : List Word), c.wellFormed = true → encodeRequest c = some (p, ws) →
    frameWords p (halvesOf ws) = some ws ∧ decodeRequest p ws = some c

/-- What each kind of state can be changed by, POWER_ON and RESTART apart: the service state by GEOMETRY, ADOPT_END
and a flash link reset (R156); settings by SETs (R178), windows by SET WINDOW (R41), S and what depends on it by SETs,
GEOMETRY and a flash link reset (R161); the spindle and the background window by their reports and a disk link reset
(R132, R133); epochs by the epoch timer (R35, R36); streams, parked routes and the Route Table by routes, their ends
and resets (R15, R17, R19); the last-kind marker by a start event (R141); tickets by the events that place orders
(R107); fences by reports, timeouts, UNFENCE and a flash link reset (R103, R104); segments (no two records being of
one extent, R2), moves, the free pool and claims by the commands that act on the map, besides ADOPT, GEOMETRY,
UNFENCE, CLAIM and RELEASE. -/
def Obligations.OnlyTheNamedCommandsChangeEachKindOfState : Prop :=
  ∀ (s t : State) (c : Instr), exec c s = .next t → c ≠ .powerOn → c ≠ .restart →
    (c ≠ .flashLinkReset → c ≠ .adoptEnd → (∀ n, c ≠ .geometry n) → t.service = s.service) ∧
    (isSet c = false → t.settings = s.settings) ∧
    ((∀ n base mask policy enable, c ≠ .setWindow n base mask policy enable) → t.windows = s.windows) ∧
    (c ≠ .flashLinkReset → isSet c = false → (∀ n, c ≠ .geometry n) → t.sizes = s.sizes) ∧
    (c ≠ .diskLinkReset → (∀ x, c ≠ .spindle x) → t.spindle = s.spindle) ∧
    (c ≠ .diskLinkReset → (∀ x, c ≠ .window x) → t.bgWindow = s.bgWindow) ∧
    (c ≠ .flashLinkReset → c ≠ .epochTimerExpiry →
      t.epoch = s.epoch ∧ (c ≠ .adoptEnd → t.epochTimer = s.epochTimer) ∧
        ((∀ n, c ≠ .geometry n) → t.cursor = s.cursor)) ∧
    (c ≠ .flashLinkReset → isRouting c = false →
      t.streams = s.streams ∧ t.streamUse = s.streamUse ∧ (c ≠ .frontLinkReset → t.parked = s.parked) ∧
        (c ≠ .frontLinkReset → (∀ tag outcome, c ≠ .done tag outcome) → t.routes = s.routes)) ∧
    (c ≠ .flashLinkReset → c ≠ .startEvent → t.lastKind = s.lastKind) ∧
    (c ≠ .startEvent → (∀ p, c ≠ .recordRead p) →
      (∀ p ticket context status, c ≠ .report p ticket context status) → t.tickets = s.tickets) ∧
    (c ≠ .flashLinkReset → (∀ n, c ≠ .unfence n) → (∀ i, c ≠ .orderTimerExpiry i) →
      (∀ p ticket context status, c ≠ .report p ticket context status) → t.fences = s.fences) ∧
    (actsOnMap c = false →
      t.contexts = s.contexts ∧
      ((∀ e n v d l, c ≠ .adopt e n v d l) →
        ((s.records.map (·.extent)).Nodup → ∀ e, t.segmentsOf e = s.segmentsOf e) ∧
          ((∀ n, c ≠ .geometry n) → (∀ n, c ≠ .unfence n) → t.free = s.free)) ∧
      ((∀ p e, c ≠ .claim p e) → (∀ p e, c ≠ .release p e) → t.claims = s.claims))
end

