-- ==== Sys2Proof/Laws/State.lean ====
section
/-! SUPPORT. What each plain update of the state leaves as it was: one lemma per field per update. -/

set_option Elab.async false

namespace Sys2Proof.Machine

/-! ### The link of a port -/

@[simp] theorem State.link_setLink (s : State) (p : Port) (l : Link) : (s.setLink p l).link p = l := by
  cases p <;> rfl

theorem State.link_setLink_of_ne (s : State) (p q : Port) (l : Link) (h : q ≠ p) :
    (s.setLink p l).link q = s.link q := by
  cases p <;> cases q <;> first | rfl | exact absurd rfl h

@[simp] theorem State.setLink_pending (s : State) (p : Port) (l : Link) :
    (s.setLink p l).pending = s.pending := by cases p <;> rfl

@[simp] theorem State.setLink_pointer (s : State) (p : Port) (l : Link) :
    (s.setLink p l).pointer = s.pointer := by cases p <;> rfl

@[simp] theorem State.setLink_service (s : State) (p : Port) (l : Link) :
    (s.setLink p l).service = s.service := by cases p <;> rfl

@[simp] theorem State.setLink_sizes (s : State) (p : Port) (l : Link) :
    (s.setLink p l).sizes = s.sizes := by cases p <;> rfl

@[simp] theorem State.setLink_settings (s : State) (p : Port) (l : Link) :
    (s.setLink p l).settings = s.settings := by cases p <;> rfl

@[simp] theorem State.setLink_windows (s : State) (p : Port) (l : Link) :
    (s.setLink p l).windows = s.windows := by cases p <;> rfl

@[simp] theorem State.setLink_records (s : State) (p : Port) (l : Link) :
    (s.setLink p l).records = s.records := by cases p <;> rfl

@[simp] theorem State.setLink_routes (s : State) (p : Port) (l : Link) :
    (s.setLink p l).routes = s.routes := by cases p <;> rfl

@[simp] theorem State.setLink_parked (s : State) (p : Port) (l : Link) :
    (s.setLink p l).parked = s.parked := by cases p <;> rfl

@[simp] theorem State.setLink_stats (s : State) (p : Port) (l : Link) :
    (s.setLink p l).stats = s.stats := by cases p <;> rfl

@[simp] theorem State.setLink_watch (s : State) (p : Port) (l : Link) :
    (s.setLink p l).watch = s.watch := by cases p <;> rfl

@[simp] theorem State.setLink_touch (s : State) (p : Port) (l : Link) :
    (s.setLink p l).touch = s.touch := by cases p <;> rfl

@[simp] theorem State.setLink_streams (s : State) (p : Port) (l : Link) :
    (s.setLink p l).streams = s.streams := by cases p <;> rfl

@[simp] theorem State.setLink_streamUse (s : State) (p : Port) (l : Link) :
    (s.setLink p l).streamUse = s.streamUse := by cases p <;> rfl

@[simp] theorem State.setLink_epoch (s : State) (p : Port) (l : Link) :
    (s.setLink p l).epoch = s.epoch := by cases p <;> rfl

@[simp] theorem State.setLink_epochTimer (s : State) (p : Port) (l : Link) :
    (s.setLink p l).epochTimer = s.epochTimer := by cases p <;> rfl

@[simp] theorem State.setLink_cursor (s : State) (p : Port) (l : Link) :
    (s.setLink p l).cursor = s.cursor := by cases p <;> rfl

@[simp] theorem State.setLink_claims (s : State) (p : Port) (l : Link) :
    (s.setLink p l).claims = s.claims := by cases p <;> rfl

@[simp] theorem State.setLink_free (s : State) (p : Port) (l : Link) :
    (s.setLink p l).free = s.free := by cases p <;> rfl

@[simp] theorem State.setLink_clean (s : State) (p : Port) (l : Link) :
    (s.setLink p l).clean = s.clean := by cases p <;> rfl

@[simp] theorem State.setLink_fences (s : State) (p : Port) (l : Link) :
    (s.setLink p l).fences = s.fences := by cases p <;> rfl

@[simp] theorem State.setLink_contexts (s : State) (p : Port) (l : Link) :
    (s.setLink p l).contexts = s.contexts := by cases p <;> rfl

@[simp] theorem State.setLink_tickets (s : State) (p : Port) (l : Link) :
    (s.setLink p l).tickets = s.tickets := by cases p <;> rfl

@[simp] theorem State.setLink_flashOwed (s : State) (p : Port) (l : Link) :
    (s.setLink p l).flashOwed = s.flashOwed := by cases p <;> rfl

@[simp] theorem State.setLink_diskOwed (s : State) (p : Port) (l : Link) :
    (s.setLink p l).diskOwed = s.diskOwed := by cases p <;> rfl

@[simp] theorem State.setLink_spindle (s : State) (p : Port) (l : Link) :
    (s.setLink p l).spindle = s.spindle := by cases p <;> rfl

@[simp] theorem State.setLink_bgWindow (s : State) (p : Port) (l : Link) :
    (s.setLink p l).bgWindow = s.bgWindow := by cases p <;> rfl

@[simp] theorem State.setLink_promo (s : State) (p : Port) (l : Link) :
    (s.setLink p l).promo = s.promo := by cases p <;> rfl

@[simp] theorem State.setLink_dirtyList (s : State) (p : Port) (l : Link) :
    (s.setLink p l).dirtyList = s.dirtyList := by cases p <;> rfl

@[simp] theorem State.setLink_urgent (s : State) (p : Port) (l : Link) :
    (s.setLink p l).urgent = s.urgent := by cases p <;> rfl

@[simp] theorem State.setLink_drain (s : State) (p : Port) (l : Link) :
    (s.setLink p l).drain = s.drain := by cases p <;> rfl

@[simp] theorem State.setLink_drainedOwed (s : State) (p : Port) (l : Link) :
    (s.setLink p l).drainedOwed = s.drainedOwed := by cases p <;> rfl

@[simp] theorem State.setLink_demands (s : State) (p : Port) (l : Link) :
    (s.setLink p l).demands = s.demands := by cases p <;> rfl

@[simp] theorem State.setLink_adviceTimer (s : State) (p : Port) (l : Link) :
    (s.setLink p l).adviceTimer = s.adviceTimer := by cases p <;> rfl

@[simp] theorem State.setLink_adviceSent (s : State) (p : Port) (l : Link) :
    (s.setLink p l).adviceSent = s.adviceSent := by cases p <;> rfl

@[simp] theorem State.setLink_lastKind (s : State) (p : Port) (l : Link) :
    (s.setLink p l).lastKind = s.lastKind := by cases p <;> rfl

/-! ### A record placed in an outbound queue -/

@[simp] theorem State.place_pending (s : State) (p : Port) (r : Outbound) :
    (s.place p r).pending = s.pending := by
  unfold State.place; split <;> simp

@[simp] theorem State.place_pointer (s : State) (p : Port) (r : Outbound) :
    (s.place p r).pointer = s.pointer := by
  unfold State.place; split <;> simp

@[simp] theorem State.place_service (s : State) (p : Port) (r : Outbound) :
    (s.place p r).service = s.service := by
  unfold State.place; split <;> simp

@[simp] theorem State.place_sizes (s : State) (p : Port) (r : Outbound) :
    (s.place p r).sizes = s.sizes := by
  unfold State.place; split <;> simp

@[simp] theorem State.place_settings (s : State) (p : Port) (r : Outbound) :
    (s.place p r).settings = s.settings := by
  unfold State.place; split <;> simp

@[simp] theorem State.place_windows (s : State) (p : Port) (r : Outbound) :
    (s.place p r).windows = s.windows := by
  unfold State.place; split <;> simp

@[simp] theorem State.place_records (s : State) (p : Port) (r : Outbound) :
    (s.place p r).records = s.records := by
  unfold State.place; split <;> simp

@[simp] theorem State.place_routes (s : State) (p : Port) (r : Outbound) :
    (s.place p r).routes = s.routes := by
  unfold State.place; split <;> simp

@[simp] theorem State.place_parked (s : State) (p : Port) (r : Outbound) :
    (s.place p r).parked = s.parked := by
  unfold State.place; split <;> simp

@[simp] theorem State.place_stats (s : State) (p : Port) (r : Outbound) :
    (s.place p r).stats = s.stats := by
  unfold State.place; split <;> simp

@[simp] theorem State.place_watch (s : State) (p : Port) (r : Outbound) :
    (s.place p r).watch = s.watch := by
  unfold State.place; split <;> simp

@[simp] theorem State.place_touch (s : State) (p : Port) (r : Outbound) :
    (s.place p r).touch = s.touch := by
  unfold State.place; split <;> simp

@[simp] theorem State.place_streams (s : State) (p : Port) (r : Outbound) :
    (s.place p r).streams = s.streams := by
  unfold State.place; split <;> simp

@[simp] theorem State.place_streamUse (s : State) (p : Port) (r : Outbound) :
    (s.place p r).streamUse = s.streamUse := by
  unfold State.place; split <;> simp

@[simp] theorem State.place_epoch (s : State) (p : Port) (r : Outbound) :
    (s.place p r).epoch = s.epoch := by
  unfold State.place; split <;> simp

@[simp] theorem State.place_epochTimer (s : State) (p : Port) (r : Outbound) :
    (s.place p r).epochTimer = s.epochTimer := by
  unfold State.place; split <;> simp

@[simp] theorem State.place_cursor (s : State) (p : Port) (r : Outbound) :
    (s.place p r).cursor = s.cursor := by
  unfold State.place; split <;> simp

@[simp] theorem State.place_claims (s : State) (p : Port) (r : Outbound) :
    (s.place p r).claims = s.claims := by
  unfold State.place; split <;> simp

@[simp] theorem State.place_free (s : State) (p : Port) (r : Outbound) :
    (s.place p r).free = s.free := by
  unfold State.place; split <;> simp

@[simp] theorem State.place_clean (s : State) (p : Port) (r : Outbound) :
    (s.place p r).clean = s.clean := by
  unfold State.place; split <;> simp

@[simp] theorem State.place_fences (s : State) (p : Port) (r : Outbound) :
    (s.place p r).fences = s.fences := by
  unfold State.place; split <;> simp

@[simp] theorem State.place_contexts (s : State) (p : Port) (r : Outbound) :
    (s.place p r).contexts = s.contexts := by
  unfold State.place; split <;> simp

@[simp] theorem State.place_tickets (s : State) (p : Port) (r : Outbound) :
    (s.place p r).tickets = s.tickets := by
  unfold State.place; split <;> simp

@[simp] theorem State.place_flashOwed (s : State) (p : Port) (r : Outbound) :
    (s.place p r).flashOwed = s.flashOwed := by
  unfold State.place; split <;> simp

@[simp] theorem State.place_diskOwed (s : State) (p : Port) (r : Outbound) :
    (s.place p r).diskOwed = s.diskOwed := by
  unfold State.place; split <;> simp

@[simp] theorem State.place_spindle (s : State) (p : Port) (r : Outbound) :
    (s.place p r).spindle = s.spindle := by
  unfold State.place; split <;> simp

@[simp] theorem State.place_bgWindow (s : State) (p : Port) (r : Outbound) :
    (s.place p r).bgWindow = s.bgWindow := by
  unfold State.place; split <;> simp

@[simp] theorem State.place_promo (s : State) (p : Port) (r : Outbound) :
    (s.place p r).promo = s.promo := by
  unfold State.place; split <;> simp

@[simp] theorem State.place_dirtyList (s : State) (p : Port) (r : Outbound) :
    (s.place p r).dirtyList = s.dirtyList := by
  unfold State.place; split <;> simp

@[simp] theorem State.place_urgent (s : State) (p : Port) (r : Outbound) :
    (s.place p r).urgent = s.urgent := by
  unfold State.place; split <;> simp

@[simp] theorem State.place_drain (s : State) (p : Port) (r : Outbound) :
    (s.place p r).drain = s.drain := by
  unfold State.place; split <;> simp

@[simp] theorem State.place_drainedOwed (s : State) (p : Port) (r : Outbound) :
    (s.place p r).drainedOwed = s.drainedOwed := by
  unfold State.place; split <;> simp

@[simp] theorem State.place_demands (s : State) (p : Port) (r : Outbound) :
    (s.place p r).demands = s.demands := by
  unfold State.place; split <;> simp

@[simp] theorem State.place_adviceTimer (s : State) (p : Port) (r : Outbound) :
    (s.place p r).adviceTimer = s.adviceTimer := by
  unfold State.place; split <;> simp

@[simp] theorem State.place_adviceSent (s : State) (p : Port) (r : Outbound) :
    (s.place p r).adviceSent = s.adviceSent := by
  unfold State.place; split <;> simp

@[simp] theorem State.place_lastKind (s : State) (p : Port) (r : Outbound) :
    (s.place p r).lastKind = s.lastKind := by
  unfold State.place; split <;> simp

/-! ### A context replaced -/

@[simp] theorem State.setContext_pending (s : State) (c : Fin 4) (x : Context) :
    (s.setContext c x).pending = s.pending := rfl

@[simp] theorem State.setContext_front (s : State) (c : Fin 4) (x : Context) :
    (s.setContext c x).front = s.front := rfl

@[simp] theorem State.setContext_flash (s : State) (c : Fin 4) (x : Context) :
    (s.setContext c x).flash = s.flash := rfl

@[simp] theorem State.setContext_disk (s : State) (c : Fin 4) (x : Context) :
    (s.setContext c x).disk = s.disk := rfl

@[simp] theorem State.setContext_pointer (s : State) (c : Fin 4) (x : Context) :
    (s.setContext c x).pointer = s.pointer := rfl

@[simp] theorem State.setContext_service (s : State) (c : Fin 4) (x : Context) :
    (s.setContext c x).service = s.service := rfl

@[simp] theorem State.setContext_sizes (s : State) (c : Fin 4) (x : Context) :
    (s.setContext c x).sizes = s.sizes := rfl

@[simp] theorem State.setContext_settings (s : State) (c : Fin 4) (x : Context) :
    (s.setContext c x).settings = s.settings := rfl

@[simp] theorem State.setContext_windows (s : State) (c : Fin 4) (x : Context) :
    (s.setContext c x).windows = s.windows := rfl

@[simp] theorem State.setContext_records (s : State) (c : Fin 4) (x : Context) :
    (s.setContext c x).records = s.records := rfl

@[simp] theorem State.setContext_routes (s : State) (c : Fin 4) (x : Context) :
    (s.setContext c x).routes = s.routes := rfl

@[simp] theorem State.setContext_parked (s : State) (c : Fin 4) (x : Context) :
    (s.setContext c x).parked = s.parked := rfl

@[simp] theorem State.setContext_stats (s : State) (c : Fin 4) (x : Context) :
    (s.setContext c x).stats = s.stats := rfl

@[simp] theorem State.setContext_watch (s : State) (c : Fin 4) (x : Context) :
    (s.setContext c x).watch = s.watch := rfl

@[simp] theorem State.setContext_touch (s : State) (c : Fin 4) (x : Context) :
    (s.setContext c x).touch = s.touch := rfl

@[simp] theorem State.setContext_streams (s : State) (c : Fin 4) (x : Context) :
    (s.setContext c x).streams = s.streams := rfl

@[simp] theorem State.setContext_streamUse (s : State) (c : Fin 4) (x : Context) :
    (s.setContext c x).streamUse = s.streamUse := rfl

@[simp] theorem State.setContext_epoch (s : State) (c : Fin 4) (x : Context) :
    (s.setContext c x).epoch = s.epoch := rfl

@[simp] theorem State.setContext_epochTimer (s : State) (c : Fin 4) (x : Context) :
    (s.setContext c x).epochTimer = s.epochTimer := rfl

@[simp] theorem State.setContext_cursor (s : State) (c : Fin 4) (x : Context) :
    (s.setContext c x).cursor = s.cursor := rfl

@[simp] theorem State.setContext_claims (s : State) (c : Fin 4) (x : Context) :
    (s.setContext c x).claims = s.claims := rfl

@[simp] theorem State.setContext_free (s : State) (c : Fin 4) (x : Context) :
    (s.setContext c x).free = s.free := rfl

@[simp] theorem State.setContext_clean (s : State) (c : Fin 4) (x : Context) :
    (s.setContext c x).clean = s.clean := rfl

@[simp] theorem State.setContext_fences (s : State) (c : Fin 4) (x : Context) :
    (s.setContext c x).fences = s.fences := rfl

@[simp] theorem State.setContext_tickets (s : State) (c : Fin 4) (x : Context) :
    (s.setContext c x).tickets = s.tickets := rfl

@[simp] theorem State.setContext_flashOwed (s : State) (c : Fin 4) (x : Context) :
    (s.setContext c x).flashOwed = s.flashOwed := rfl

@[simp] theorem State.setContext_diskOwed (s : State) (c : Fin 4) (x : Context) :
    (s.setContext c x).diskOwed = s.diskOwed := rfl

@[simp] theorem State.setContext_spindle (s : State) (c : Fin 4) (x : Context) :
    (s.setContext c x).spindle = s.spindle := rfl

@[simp] theorem State.setContext_bgWindow (s : State) (c : Fin 4) (x : Context) :
    (s.setContext c x).bgWindow = s.bgWindow := rfl

@[simp] theorem State.setContext_promo (s : State) (c : Fin 4) (x : Context) :
    (s.setContext c x).promo = s.promo := rfl

@[simp] theorem State.setContext_dirtyList (s : State) (c : Fin 4) (x : Context) :
    (s.setContext c x).dirtyList = s.dirtyList := rfl

@[simp] theorem State.setContext_urgent (s : State) (c : Fin 4) (x : Context) :
    (s.setContext c x).urgent = s.urgent := rfl

@[simp] theorem State.setContext_drain (s : State) (c : Fin 4) (x : Context) :
    (s.setContext c x).drain = s.drain := rfl

@[simp] theorem State.setContext_drainedOwed (s : State) (c : Fin 4) (x : Context) :
    (s.setContext c x).drainedOwed = s.drainedOwed := rfl

@[simp] theorem State.setContext_demands (s : State) (c : Fin 4) (x : Context) :
    (s.setContext c x).demands = s.demands := rfl

@[simp] theorem State.setContext_adviceTimer (s : State) (c : Fin 4) (x : Context) :
    (s.setContext c x).adviceTimer = s.adviceTimer := rfl

@[simp] theorem State.setContext_adviceSent (s : State) (c : Fin 4) (x : Context) :
    (s.setContext c x).adviceSent = s.adviceSent := rfl

@[simp] theorem State.setContext_lastKind (s : State) (c : Fin 4) (x : Context) :
    (s.setContext c x).lastKind = s.lastKind := rfl

/-! ### A Claim Table entry replaced -/

@[simp] theorem State.setClaim_pending (s : State) (i : Fin 8) (x : Option ClaimEntry) :
    (s.setClaim i x).pending = s.pending := rfl

@[simp] theorem State.setClaim_front (s : State) (i : Fin 8) (x : Option ClaimEntry) :
    (s.setClaim i x).front = s.front := rfl

@[simp] theorem State.setClaim_flash (s : State) (i : Fin 8) (x : Option ClaimEntry) :
    (s.setClaim i x).flash = s.flash := rfl

@[simp] theorem State.setClaim_disk (s : State) (i : Fin 8) (x : Option ClaimEntry) :
    (s.setClaim i x).disk = s.disk := rfl

@[simp] theorem State.setClaim_pointer (s : State) (i : Fin 8) (x : Option ClaimEntry) :
    (s.setClaim i x).pointer = s.pointer := rfl

@[simp] theorem State.setClaim_service (s : State) (i : Fin 8) (x : Option ClaimEntry) :
    (s.setClaim i x).service = s.service := rfl

@[simp] theorem State.setClaim_sizes (s : State) (i : Fin 8) (x : Option ClaimEntry) :
    (s.setClaim i x).sizes = s.sizes := rfl

@[simp] theorem State.setClaim_settings (s : State) (i : Fin 8) (x : Option ClaimEntry) :
    (s.setClaim i x).settings = s.settings := rfl

@[simp] theorem State.setClaim_windows (s : State) (i : Fin 8) (x : Option ClaimEntry) :
    (s.setClaim i x).windows = s.windows := rfl

@[simp] theorem State.setClaim_records (s : State) (i : Fin 8) (x : Option ClaimEntry) :
    (s.setClaim i x).records = s.records := rfl

@[simp] theorem State.setClaim_routes (s : State) (i : Fin 8) (x : Option ClaimEntry) :
    (s.setClaim i x).routes = s.routes := rfl

@[simp] theorem State.setClaim_parked (s : State) (i : Fin 8) (x : Option ClaimEntry) :
    (s.setClaim i x).parked = s.parked := rfl

@[simp] theorem State.setClaim_stats (s : State) (i : Fin 8) (x : Option ClaimEntry) :
    (s.setClaim i x).stats = s.stats := rfl

@[simp] theorem State.setClaim_watch (s : State) (i : Fin 8) (x : Option ClaimEntry) :
    (s.setClaim i x).watch = s.watch := rfl

@[simp] theorem State.setClaim_touch (s : State) (i : Fin 8) (x : Option ClaimEntry) :
    (s.setClaim i x).touch = s.touch := rfl

@[simp] theorem State.setClaim_streams (s : State) (i : Fin 8) (x : Option ClaimEntry) :
    (s.setClaim i x).streams = s.streams := rfl

@[simp] theorem State.setClaim_streamUse (s : State) (i : Fin 8) (x : Option ClaimEntry) :
    (s.setClaim i x).streamUse = s.streamUse := rfl

@[simp] theorem State.setClaim_epoch (s : State) (i : Fin 8) (x : Option ClaimEntry) :
    (s.setClaim i x).epoch = s.epoch := rfl

@[simp] theorem State.setClaim_epochTimer (s : State) (i : Fin 8) (x : Option ClaimEntry) :
    (s.setClaim i x).epochTimer = s.epochTimer := rfl

@[simp] theorem State.setClaim_cursor (s : State) (i : Fin 8) (x : Option ClaimEntry) :
    (s.setClaim i x).cursor = s.cursor := rfl

@[simp] theorem State.setClaim_free (s : State) (i : Fin 8) (x : Option ClaimEntry) :
    (s.setClaim i x).free = s.free := rfl

@[simp] theorem State.setClaim_clean (s : State) (i : Fin 8) (x : Option ClaimEntry) :
    (s.setClaim i x).clean = s.clean := rfl

@[simp] theorem State.setClaim_fences (s : State) (i : Fin 8) (x : Option ClaimEntry) :
    (s.setClaim i x).fences = s.fences := rfl

@[simp] theorem State.setClaim_contexts (s : State) (i : Fin 8) (x : Option ClaimEntry) :
    (s.setClaim i x).contexts = s.contexts := rfl

@[simp] theorem State.setClaim_tickets (s : State) (i : Fin 8) (x : Option ClaimEntry) :
    (s.setClaim i x).tickets = s.tickets := rfl

@[simp] theorem State.setClaim_flashOwed (s : State) (i : Fin 8) (x : Option ClaimEntry) :
    (s.setClaim i x).flashOwed = s.flashOwed := rfl

@[simp] theorem State.setClaim_diskOwed (s : State) (i : Fin 8) (x : Option ClaimEntry) :
    (s.setClaim i x).diskOwed = s.diskOwed := rfl

@[simp] theorem State.setClaim_spindle (s : State) (i : Fin 8) (x : Option ClaimEntry) :
    (s.setClaim i x).spindle = s.spindle := rfl

@[simp] theorem State.setClaim_bgWindow (s : State) (i : Fin 8) (x : Option ClaimEntry) :
    (s.setClaim i x).bgWindow = s.bgWindow := rfl

@[simp] theorem State.setClaim_promo (s : State) (i : Fin 8) (x : Option ClaimEntry) :
    (s.setClaim i x).promo = s.promo := rfl

@[simp] theorem State.setClaim_dirtyList (s : State) (i : Fin 8) (x : Option ClaimEntry) :
    (s.setClaim i x).dirtyList = s.dirtyList := rfl

@[simp] theorem State.setClaim_urgent (s : State) (i : Fin 8) (x : Option ClaimEntry) :
    (s.setClaim i x).urgent = s.urgent := rfl

@[simp] theorem State.setClaim_drain (s : State) (i : Fin 8) (x : Option ClaimEntry) :
    (s.setClaim i x).drain = s.drain := rfl

@[simp] theorem State.setClaim_drainedOwed (s : State) (i : Fin 8) (x : Option ClaimEntry) :
    (s.setClaim i x).drainedOwed = s.drainedOwed := rfl

@[simp] theorem State.setClaim_demands (s : State) (i : Fin 8) (x : Option ClaimEntry) :
    (s.setClaim i x).demands = s.demands := rfl

@[simp] theorem State.setClaim_adviceTimer (s : State) (i : Fin 8) (x : Option ClaimEntry) :
    (s.setClaim i x).adviceTimer = s.adviceTimer := rfl

@[simp] theorem State.setClaim_adviceSent (s : State) (i : Fin 8) (x : Option ClaimEntry) :
    (s.setClaim i x).adviceSent = s.adviceSent := rfl

@[simp] theorem State.setClaim_lastKind (s : State) (i : Fin 8) (x : Option ClaimEntry) :
    (s.setClaim i x).lastKind = s.lastKind := rfl

/-! ### The arbiter's pointer -/

@[simp] theorem State.advance_pending (s : State) (p : Port) :
    (s.advance p).pending = s.pending := rfl

@[simp] theorem State.advance_front (s : State) (p : Port) :
    (s.advance p).front = s.front := rfl

@[simp] theorem State.advance_flash (s : State) (p : Port) :
    (s.advance p).flash = s.flash := rfl

@[simp] theorem State.advance_disk (s : State) (p : Port) :
    (s.advance p).disk = s.disk := rfl

@[simp] theorem State.advance_service (s : State) (p : Port) :
    (s.advance p).service = s.service := rfl

@[simp] theorem State.advance_sizes (s : State) (p : Port) :
    (s.advance p).sizes = s.sizes := rfl

@[simp] theorem State.advance_settings (s : State) (p : Port) :
    (s.advance p).settings = s.settings := rfl

@[simp] theorem State.advance_windows (s : State) (p : Port) :
    (s.advance p).windows = s.windows := rfl

@[simp] theorem State.advance_records (s : State) (p : Port) :
    (s.advance p).records = s.records := rfl

@[simp] theorem State.advance_routes (s : State) (p : Port) :
    (s.advance p).routes = s.routes := rfl

@[simp] theorem State.advance_parked (s : State) (p : Port) :
    (s.advance p).parked = s.parked := rfl

@[simp] theorem State.advance_stats (s : State) (p : Port) :
    (s.advance p).stats = s.stats := rfl

@[simp] theorem State.advance_watch (s : State) (p : Port) :
    (s.advance p).watch = s.watch := rfl

@[simp] theorem State.advance_touch (s : State) (p : Port) :
    (s.advance p).touch = s.touch := rfl

@[simp] theorem State.advance_streams (s : State) (p : Port) :
    (s.advance p).streams = s.streams := rfl

@[simp] theorem State.advance_streamUse (s : State) (p : Port) :
    (s.advance p).streamUse = s.streamUse := rfl

@[simp] theorem State.advance_epoch (s : State) (p : Port) :
    (s.advance p).epoch = s.epoch := rfl

@[simp] theorem State.advance_epochTimer (s : State) (p : Port) :
    (s.advance p).epochTimer = s.epochTimer := rfl

@[simp] theorem State.advance_cursor (s : State) (p : Port) :
    (s.advance p).cursor = s.cursor := rfl

@[simp] theorem State.advance_claims (s : State) (p : Port) :
    (s.advance p).claims = s.claims := rfl

@[simp] theorem State.advance_free (s : State) (p : Port) :
    (s.advance p).free = s.free := rfl

@[simp] theorem State.advance_clean (s : State) (p : Port) :
    (s.advance p).clean = s.clean := rfl

@[simp] theorem State.advance_fences (s : State) (p : Port) :
    (s.advance p).fences = s.fences := rfl

@[simp] theorem State.advance_contexts (s : State) (p : Port) :
    (s.advance p).contexts = s.contexts := rfl

@[simp] theorem State.advance_tickets (s : State) (p : Port) :
    (s.advance p).tickets = s.tickets := rfl

@[simp] theorem State.advance_flashOwed (s : State) (p : Port) :
    (s.advance p).flashOwed = s.flashOwed := rfl

@[simp] theorem State.advance_diskOwed (s : State) (p : Port) :
    (s.advance p).diskOwed = s.diskOwed := rfl

@[simp] theorem State.advance_spindle (s : State) (p : Port) :
    (s.advance p).spindle = s.spindle := rfl

@[simp] theorem State.advance_bgWindow (s : State) (p : Port) :
    (s.advance p).bgWindow = s.bgWindow := rfl

@[simp] theorem State.advance_promo (s : State) (p : Port) :
    (s.advance p).promo = s.promo := rfl

@[simp] theorem State.advance_dirtyList (s : State) (p : Port) :
    (s.advance p).dirtyList = s.dirtyList := rfl

@[simp] theorem State.advance_urgent (s : State) (p : Port) :
    (s.advance p).urgent = s.urgent := rfl

@[simp] theorem State.advance_drain (s : State) (p : Port) :
    (s.advance p).drain = s.drain := rfl

@[simp] theorem State.advance_drainedOwed (s : State) (p : Port) :
    (s.advance p).drainedOwed = s.drainedOwed := rfl

@[simp] theorem State.advance_demands (s : State) (p : Port) :
    (s.advance p).demands = s.demands := rfl

@[simp] theorem State.advance_adviceTimer (s : State) (p : Port) :
    (s.advance p).adviceTimer = s.adviceTimer := rfl

@[simp] theorem State.advance_adviceSent (s : State) (p : Port) :
    (s.advance p).adviceSent = s.adviceSent := rfl

@[simp] theorem State.advance_lastKind (s : State) (p : Port) :
    (s.advance p).lastKind = s.lastKind := rfl

/-! ### The head of a FIFO taken -/

@[simp] theorem State.popFifo_pending (s : State) (p : Port) :
    (s.popFifo p).pending = s.pending := by
  simp [State.popFifo]

@[simp] theorem State.popFifo_pointer (s : State) (p : Port) :
    (s.popFifo p).pointer = s.pointer := by
  simp [State.popFifo]

@[simp] theorem State.popFifo_service (s : State) (p : Port) :
    (s.popFifo p).service = s.service := by
  simp [State.popFifo]

@[simp] theorem State.popFifo_sizes (s : State) (p : Port) :
    (s.popFifo p).sizes = s.sizes := by
  simp [State.popFifo]

@[simp] theorem State.popFifo_settings (s : State) (p : Port) :
    (s.popFifo p).settings = s.settings := by
  simp [State.popFifo]

@[simp] theorem State.popFifo_windows (s : State) (p : Port) :
    (s.popFifo p).windows = s.windows := by
  simp [State.popFifo]

@[simp] theorem State.popFifo_records (s : State) (p : Port) :
    (s.popFifo p).records = s.records := by
  simp [State.popFifo]

@[simp] theorem State.popFifo_routes (s : State) (p : Port) :
    (s.popFifo p).routes = s.routes := by
  simp [State.popFifo]

@[simp] theorem State.popFifo_parked (s : State) (p : Port) :
    (s.popFifo p).parked = s.parked := by
  simp [State.popFifo]

@[simp] theorem State.popFifo_stats (s : State) (p : Port) :
    (s.popFifo p).stats = s.stats := by
  simp [State.popFifo]

@[simp] theorem State.popFifo_watch (s : State) (p : Port) :
    (s.popFifo p).watch = s.watch := by
  simp [State.popFifo]

@[simp] theorem State.popFifo_touch (s : State) (p : Port) :
    (s.popFifo p).touch = s.touch := by
  simp [State.popFifo]

@[simp] theorem State.popFifo_streams (s : State) (p : Port) :
    (s.popFifo p).streams = s.streams := by
  simp [State.popFifo]

@[simp] theorem State.popFifo_streamUse (s : State) (p : Port) :
    (s.popFifo p).streamUse = s.streamUse := by
  simp [State.popFifo]

@[simp] theorem State.popFifo_epoch (s : State) (p : Port) :
    (s.popFifo p).epoch = s.epoch := by
  simp [State.popFifo]

@[simp] theorem State.popFifo_epochTimer (s : State) (p : Port) :
    (s.popFifo p).epochTimer = s.epochTimer := by
  simp [State.popFifo]

@[simp] theorem State.popFifo_cursor (s : State) (p : Port) :
    (s.popFifo p).cursor = s.cursor := by
  simp [State.popFifo]

@[simp] theorem State.popFifo_claims (s : State) (p : Port) :
    (s.popFifo p).claims = s.claims := by
  simp [State.popFifo]

@[simp] theorem State.popFifo_free (s : State) (p : Port) :
    (s.popFifo p).free = s.free := by
  simp [State.popFifo]

@[simp] theorem State.popFifo_clean (s : State) (p : Port) :
    (s.popFifo p).clean = s.clean := by
  simp [State.popFifo]

@[simp] theorem State.popFifo_fences (s : State) (p : Port) :
    (s.popFifo p).fences = s.fences := by
  simp [State.popFifo]

@[simp] theorem State.popFifo_contexts (s : State) (p : Port) :
    (s.popFifo p).contexts = s.contexts := by
  simp [State.popFifo]

@[simp] theorem State.popFifo_tickets (s : State) (p : Port) :
    (s.popFifo p).tickets = s.tickets := by
  simp [State.popFifo]

@[simp] theorem State.popFifo_flashOwed (s : State) (p : Port) :
    (s.popFifo p).flashOwed = s.flashOwed := by
  simp [State.popFifo]

@[simp] theorem State.popFifo_diskOwed (s : State) (p : Port) :
    (s.popFifo p).diskOwed = s.diskOwed := by
  simp [State.popFifo]

@[simp] theorem State.popFifo_spindle (s : State) (p : Port) :
    (s.popFifo p).spindle = s.spindle := by
  simp [State.popFifo]

@[simp] theorem State.popFifo_bgWindow (s : State) (p : Port) :
    (s.popFifo p).bgWindow = s.bgWindow := by
  simp [State.popFifo]

@[simp] theorem State.popFifo_promo (s : State) (p : Port) :
    (s.popFifo p).promo = s.promo := by
  simp [State.popFifo]

@[simp] theorem State.popFifo_dirtyList (s : State) (p : Port) :
    (s.popFifo p).dirtyList = s.dirtyList := by
  simp [State.popFifo]

@[simp] theorem State.popFifo_urgent (s : State) (p : Port) :
    (s.popFifo p).urgent = s.urgent := by
  simp [State.popFifo]

@[simp] theorem State.popFifo_drain (s : State) (p : Port) :
    (s.popFifo p).drain = s.drain := by
  simp [State.popFifo]

@[simp] theorem State.popFifo_drainedOwed (s : State) (p : Port) :
    (s.popFifo p).drainedOwed = s.drainedOwed := by
  simp [State.popFifo]

@[simp] theorem State.popFifo_demands (s : State) (p : Port) :
    (s.popFifo p).demands = s.demands := by
  simp [State.popFifo]

@[simp] theorem State.popFifo_adviceTimer (s : State) (p : Port) :
    (s.popFifo p).adviceTimer = s.adviceTimer := by
  simp [State.popFifo]

@[simp] theorem State.popFifo_adviceSent (s : State) (p : Port) :
    (s.popFifo p).adviceSent = s.adviceSent := by
  simp [State.popFifo]

@[simp] theorem State.popFifo_lastKind (s : State) (p : Port) :
    (s.popFifo p).lastKind = s.lastKind := by
  simp [State.popFifo]

end Sys2Proof.Machine
end

