-- ==== Sys2Proof/Laws/Keeps.lean ====
section
/-! SUPPORT. What the shared operations of the blocks leave as it was, whatever they do: the settings, the service
state, the spindle, the epoch, the FIFOs; outbound queues only grow at the tail and never past 16, the Promotion Queue
never past 64, and the counters never past their top. One lemma per operation. -/

set_option Elab.async false

namespace Sys2Proof.Machine

/-! ### The relation -/

/-- A link after shared operations: the FIFO and what the master last read stand, records only join the tail of the
outbound queue, and it holds at most 16 if it did. -/
structure Link.Keeps (l m : Link) : Prop where
  fifo : m.fifo = l.fifo
  driven : m.driven = l.driven
  out : l.out <+: m.out
  room : l.out.length ≤ Config.outDepth → m.out.length ≤ Config.outDepth

theorem Link.Keeps.refl (l : Link) : l.Keeps l := ⟨rfl, rfl, List.prefix_rfl, id⟩

theorem Link.Keeps.trans {l m n : Link} (h : l.Keeps m) (k : m.Keeps n) : l.Keeps n :=
  ⟨k.fifo.trans h.fifo, k.driven.trans h.driven, h.out.trans k.out, fun x => k.room (h.room x)⟩

theorem addSat_le (n k : Nat) : addSat n k ≤ Config.maxCount := Nat.min_le_right _ _

/-- The fields that no shared operation writes. -/
structure State.Base where
  pending : List Instr
  pointer : Port
  service : Service
  sizes : Option Sizes
  settings : Settings
  windows : Vector PolicyWindow 8
  spindle : Spindle
  bgWindow : BgWindow
  epoch : Nat
  epochTimer : Option Nat
  cursor : Nat
  parked : List Parked
  streams : Vector (Option Stream) 4
  streamUse : List (Fin 4)

/-- Those fields of a state. -/
def State.base (s : State) : State.Base :=
  ⟨s.pending, s.pointer, s.service, s.sizes, s.settings, s.windows, s.spindle,
    s.bgWindow, s.epoch, s.epochTimer, s.cursor, s.parked, s.streams, s.streamUse⟩

/-- The state after shared operations: what they leave as it was, and what they keep within bounds. -/
structure State.Keeps (s t : State) : Prop where
  base : t.base = s.base
  front : s.front.Keeps t.front
  flash : s.flash.Keeps t.flash
  disk : s.disk.Keeps t.disk
  promo : s.promo.length ≤ Config.promoDepth → t.promo.length ≤ Config.promoDepth
  stats : s.stats.Bounded → t.stats.Bounded

theorem State.Keeps.refl (s : State) : s.Keeps s := ⟨rfl, .refl _, .refl _, .refl _, id, id⟩

theorem State.Keeps.trans {s t u : State} (h : s.Keeps t) (k : t.Keeps u) : s.Keeps u :=
  ⟨k.base.trans h.base, h.front.trans k.front, h.flash.trans k.flash, h.disk.trans k.disk,
    fun x => k.promo (h.promo x), fun x => k.stats (h.stats x)⟩

/-- An update of fields that the relation does not name. -/
theorem State.Keeps.of {s t : State} (base : t.base = s.base := by rfl)
    (front : s.front.Keeps t.front := by exact .refl _) (flash : s.flash.Keeps t.flash := by exact .refl _)
    (disk : s.disk.Keeps t.disk := by exact .refl _)
    (promo : s.promo.length ≤ Config.promoDepth → t.promo.length ≤ Config.promoDepth := by exact id)
    (stats : s.stats.Bounded → t.stats.Bounded := by exact id) : s.Keeps t :=
  ⟨base, front, flash, disk, promo, stats⟩

theorem State.Keeps.pending {s t : State} (h : s.Keeps t) : t.pending = s.pending := congrArg State.Base.pending h.base
theorem State.Keeps.pointer {s t : State} (h : s.Keeps t) : t.pointer = s.pointer := congrArg State.Base.pointer h.base
theorem State.Keeps.service {s t : State} (h : s.Keeps t) : t.service = s.service := congrArg State.Base.service h.base
theorem State.Keeps.sizes {s t : State} (h : s.Keeps t) : t.sizes = s.sizes := congrArg State.Base.sizes h.base
theorem State.Keeps.settings {s t : State} (h : s.Keeps t) : t.settings = s.settings := congrArg State.Base.settings h.base
theorem State.Keeps.windows {s t : State} (h : s.Keeps t) : t.windows = s.windows := congrArg State.Base.windows h.base
theorem State.Keeps.spindle {s t : State} (h : s.Keeps t) : t.spindle = s.spindle := congrArg State.Base.spindle h.base
theorem State.Keeps.bgWindow {s t : State} (h : s.Keeps t) : t.bgWindow = s.bgWindow := congrArg State.Base.bgWindow h.base
theorem State.Keeps.epoch {s t : State} (h : s.Keeps t) : t.epoch = s.epoch := congrArg State.Base.epoch h.base
theorem State.Keeps.epochTimer {s t : State} (h : s.Keeps t) : t.epochTimer = s.epochTimer := congrArg State.Base.epochTimer h.base
theorem State.Keeps.cursor {s t : State} (h : s.Keeps t) : t.cursor = s.cursor := congrArg State.Base.cursor h.base
theorem State.Keeps.parked {s t : State} (h : s.Keeps t) : t.parked = s.parked := congrArg State.Base.parked h.base
theorem State.Keeps.streams {s t : State} (h : s.Keeps t) : t.streams = s.streams := congrArg State.Base.streams h.base
theorem State.Keeps.streamUse {s t : State} (h : s.Keeps t) : t.streamUse = s.streamUse := congrArg State.Base.streamUse h.base

theorem State.Keeps.link {s t : State} (h : s.Keeps t) (p : Port) : (s.link p).Keeps (t.link p) := by
  cases p
  exacts [h.front, h.flash, h.disk]

theorem State.Keeps.foldl {α : Type} (f : State → α → State) (h : ∀ (s : State) (a : α), s.Keeps (f s a)) (l : List α) (s : State) :
    s.Keeps (l.foldl f s) := by
  induction l generalizing s with
  | nil => exact .refl s
  | cons a l ih => exact (h s a).trans (ih (f s a))

/-! ### Records placed and owed -/

theorem Link.Keeps.snoc (l : Link) (r : Outbound) (h : l.out.length + 1 ≤ Config.outDepth) :
    l.Keeps { l with out := l.out ++ [r] } :=
  ⟨rfl, rfl, ⟨[r], rfl⟩, fun _ => by simpa using h⟩

theorem State.place_keeps (p : Port) (r : Outbound) (s : State) : s.Keeps (s.place p r) := by
  unfold State.place
  split
  · rename_i h
    have h' : (s.link p).out.length + 1 ≤ Config.outDepth := by simpa [State.hasRoom] using h
    cases p with
    | front => exact .of (front := .snoc _ r h')
    | flash => exact .of (flash := .snoc _ r h')
    | disk => exact .of (disk := .snoc _ r h')
  · exact .refl s

theorem without_length_le {α : Type} [DecidableEq α] (x : α) (l : List α) : (without x l).length ≤ l.length :=
  List.length_filter_le _ l

theorem State.setContext_keeps (c : Fin 4) (x : Context) (s : State) : s.Keeps (s.setContext c x) := .of
theorem State.setClaim_keeps (i : Fin 8) (x : Option ClaimEntry) (s : State) : s.Keeps (s.setClaim i x) := .of
theorem State.setOwed_keeps (e : Nat) (f : OwedNotice → OwedNotice) (s : State) : s.Keeps (s.setOwed e f) := .of

theorem State.produceRetire_keeps (n : Nat) (s : State) : s.Keeps (s.produceRetire n) := by
  unfold State.produceRetire; split
  · exact State.place_keeps _ _ s
  · exact .of

theorem State.noticeStuck_keeps (e : Nat) (s : State) : s.Keeps (s.noticeStuck e) := by
  unfold State.noticeStuck; split
  · exact State.place_keeps _ _ s
  · exact .of

theorem State.noticeLost_keeps (e : Nat) (a : SegSet) (s : State) : s.Keeps (s.noticeLost e a) := by
  unfold State.noticeLost; split
  · exact State.place_keeps _ _ s
  · exact .of

theorem State.noticeDrained_keeps (n : Nat) (s : State) : s.Keeps (s.noticeDrained n) := by
  unfold State.noticeDrained; split
  · exact State.place_keeps _ _ s
  · exact .of

theorem State.placeDemand_keeps (r : Reason) (s : State) : s.Keeps (s.placeDemand r) :=
  (State.place_keeps _ _ s).trans (.of (stats := fun h => { h with spinUpDemands := addSat_le _ _ }))

theorem State.produceDemand_keeps (r : Reason) (s : State) : s.Keeps (s.produceDemand r) := by
  unfold State.produceDemand; split
  · exact State.placeDemand_keeps r s
  · exact .of

theorem State.produceAdvice_keeps (s : State) : s.Keeps s.produceAdvice := by
  unfold State.produceAdvice; split
  · exact State.place_keeps _ _ s
  · exact .of

theorem State.armAdvice_keeps (s : State) : s.Keeps s.armAdvice := by
  unfold State.armAdvice; split
  · exact .of
  · exact .refl s

theorem State.withDirtyList_keeps (l : List Nat) (s : State) : s.Keeps { s with dirtyList := l } := .of
theorem State.withRoutes_keeps (l : List RouteEntry) (s : State) : s.Keeps { s with routes := l } := .of
theorem State.withContexts_keeps (v : Vector Context 4) (s : State) : s.Keeps { s with contexts := v } := .of
theorem State.withTickets_keeps (n : Nat) (s : State) : s.Keeps { s with tickets := n } := .of
theorem State.withLastKind_keeps (k : MoveKind) (s : State) : s.Keeps { s with lastKind := k } := .of
theorem State.withFences_keeps (l : List Fence) (s : State) : s.Keeps { s with fences := l } := .of
theorem State.withRecords_keeps (l : List Resident) (s : State) : s.Keeps { s with records := l } := .of
theorem State.withStats_keeps (c : Stats) (s : State) (h : s.stats.Bounded → c.Bounded) :
    s.Keeps { s with stats := c } := .of (stats := h)

/-! ### The map and the Watch List -/

theorem State.fileClean_keeps (a : ListEnd) (r : Resident) (s : State) : s.Keeps (s.fileClean a r) := .of
theorem State.fileDirty_keeps (r : Resident) (s : State) : s.Keeps (s.fileDirty r) := .of

theorem State.filePromo_keeps (r : Resident) (s : State) : s.Keeps (s.filePromo r) :=
  .of (promo := fun h => by
    show (if _ then without r.extent s.promo else s.promo).length ≤ _
    split
    · exact (without_length_le _ _).trans h
    · exact h)

theorem State.fileLists_keeps (a : ListEnd) (r : Resident) (s : State) : s.Keeps (s.fileLists a r) :=
  ((State.fileClean_keeps a r s).trans (State.fileDirty_keeps r _)).trans (State.filePromo_keeps r _)

theorem State.store_keeps (a : ListEnd) (r : Resident) (s : State) : s.Keeps (s.store a r) :=
  (State.withRecords_keeps _ s).trans (State.fileLists_keeps a r.settled _)

theorem State.enter_keeps (r : Resident) (s : State) : s.Keeps (s.enter r) :=
  (State.withRecords_keeps _ s).trans (State.fileLists_keeps .tail r _)

theorem State.drop_keeps (r : Resident) (s : State) : s.Keeps (s.drop r) := .of
theorem State.touchClean_keeps (e : Nat) (s : State) : s.Keeps (s.touchClean e) := .of

theorem State.unqueue_keeps (e : Nat) (s : State) : s.Keeps (s.unqueue e) :=
  .of (promo := fun h => (without_length_le _ _).trans h)

theorem State.unwatch_keeps (e : Nat) (s : State) : s.Keeps (s.unwatch e) := .of

theorem State.watchRoom_keeps (s : State) : s.Keeps s.watchRoom := by
  unfold State.watchRoom
  split
  · exact .refl s
  · split
    · exact .refl s
    · exact (State.unwatch_keeps _ s).trans (State.unqueue_keeps _ _)

theorem State.enterWatch_keeps (a : ListEnd) (e : Nat) (h : Heat) (s : State) : s.Keeps (s.enterWatch a e h) :=
  (State.watchRoom_keeps s).trans .of

theorem State.setWatchHeat_keeps (e : Nat) (h : Heat) (s : State) : s.Keeps (s.setWatchHeat e h) := .of
theorem State.touchWatch_keeps (e : Nat) (s : State) : s.Keeps (s.touchWatch e) := .of

/-! ### Heat -/

theorem State.adjustPromo_keeps (e : Nat) (b : Bool) (s : State) : s.Keeps (s.adjustPromo e b) := by
  unfold State.adjustPromo
  split
  · split
    · exact .refl s
    · split
      · rename_i h
        exact .of (promo := fun _ => by simpa [Nat.succ_le_iff] using h)
      · exact .refl s
  · exact State.unqueue_keeps e s

theorem State.examineResident_keeps (w : Nat) (r : Resident) (s : State) : s.Keeps (s.examineResident w r) :=
  (State.store_keeps _ _ s).trans (State.adjustPromo_keeps _ _ _)

theorem State.examineWatched_keeps (w : Nat) (x : WatchEntry) (s : State) : s.Keeps (s.examineWatched w x) :=
  (State.setWatchHeat_keeps _ _ s).trans (State.adjustPromo_keeps _ _ _)

theorem State.examine_keeps (w e : Nat) (s : State) : s.Keeps (s.examine w e) := by
  unfold State.examine
  split
  · exact State.examineResident_keeps _ _ s
  · split
    · exact State.examineWatched_keeps _ _ s
    · exact .refl s

theorem State.weighExtent_keeps (w e : Nat) (s : State) : s.Keeps (s.weighExtent w e) := by
  simp only [State.weighExtent]
  split
  · exact (State.examineResident_keeps _ _ s).trans (State.touchClean_keeps _ _)
  · split
    · exact (State.examineWatched_keeps _ _ s).trans (State.touchWatch_keeps _ _)
    · split
      · exact .refl s
      · exact State.enterWatch_keeps _ _ _ s

theorem State.returnHeat_keeps (e : Nat) (h : Heat) (s : State) : s.Keeps (s.returnHeat e h) := by
  unfold State.returnHeat
  split
  · exact State.unqueue_keeps e s
  · exact State.enterWatch_keeps _ _ _ s

theorem State.sweepPlace_keeps (p : Nat) (s : State) : s.Keeps (s.sweepPlace p) := by
  unfold State.sweepPlace
  split
  · split
    · exact State.examineResident_keeps _ _ s
    · exact .refl s
  · split
    · exact State.examineWatched_keeps _ _ s
    · exact .refl s

/-! ### Claims -/

theorem State.grantTo_keeps (i : Fin 8) (c : ClaimEntry) (p : Port) (s : State) : s.Keeps (s.grantTo i c p) := by
  unfold State.grantTo
  split
  · exact (State.place_keeps _ _ s).trans (State.setClaim_keeps _ _ _)
  · exact State.setClaim_keeps _ _ s

theorem State.grantEntry_keeps (i : Fin 8) (s : State) : s.Keeps (s.grantEntry i) := by
  unfold State.grantEntry
  split
  · exact .refl s
  · split
    · exact .refl s
    · split
      · exact State.grantTo_keeps _ _ _ s
      · exact .refl s

theorem State.grantAll_keeps (s : State) : s.Keeps s.grantAll :=
  .foldl _ (fun s i => State.grantEntry_keeps i s) _ s

theorem State.leaveAllClaims_keeps (p : Port) (s : State) : s.Keeps (s.leaveAllClaims p) := .of

theorem State.claimFor_keeps (p : Port) (e : Nat) (s : State) : s.Keeps (s.claimFor p e).2 := by
  unfold State.claimFor
  split
  · split
    · exact .refl s
    · split
      · exact .refl s
      · exact State.setClaim_keeps _ _ s
  · split
    · exact .refl s
    · split
      · exact State.setClaim_keeps _ _ s
      · exact State.setClaim_keeps _ _ s

theorem State.releaseFor_keeps (p : Port) (e : Nat) (s : State) : s.Keeps (s.releaseFor p e).2 := by
  unfold State.releaseFor
  split
  · exact .refl s
  · split
    · exact .refl s
    · split
      · exact State.setClaim_keeps _ _ s
      · exact .refl s

/-! ### Slots -/

theorem State.freeSlot_keeps (n : Nat) (s : State) : s.Keeps (s.freeSlot n) := .of
theorem State.takeSlot_keeps (n : Nat) (s : State) : s.Keeps (s.takeSlot n) := .of

theorem State.settleSlot_keeps (f : SlotFate) (n : Nat) (s : State) : s.Keeps (s.settleSlot f n) := by
  cases f with
  | freed => exact .of
  | freedSilently => exact .of
  | passed => exact .refl s
  | fenced t => exact .of

theorem State.remove_keeps (f : SlotFate) (r : Resident) (s : State) : s.Keeps (s.remove f r) := by
  have h : s.Keeps (if f.announced then s.produceRetire r.slot else s) := by
    split
    · exact State.produceRetire_keeps _ s
    · exact .refl s
  exact ((h.trans (State.drop_keeps r _)).trans (State.returnHeat_keeps _ _ _)).trans (State.settleSlot_keeps _ _ _)

theorem State.retireIfEmpty_keeps (f : SlotFate) (e : Nat) (s : State) : s.Keeps (s.retireIfEmpty f e) := by
  unfold State.retireIfEmpty
  split
  · exact .refl s
  · split
    · exact State.remove_keeps _ _ s
    · exact .refl s

theorem State.retireEmpties_keeps (es : List Nat) (s : State) : s.Keeps (s.retireEmpties es) :=
  .foldl _ (fun s e => State.retireIfEmpty_keeps _ e s) _ s

theorem State.walk_keeps (x : List Nat) (b : List Band) (n : Nat) (s : State) : s.Keeps (s.walk x b n).2 := by
  induction n generalizing s with
  | zero => exact .refl s
  | succ n ih =>
    unfold State.walk
    split
    · exact .refl s
    · dsimp only
      split
      · exact State.examine_keeps _ _ s
      · exact (State.examine_keeps _ _ s).trans (ih _)

theorem State.pinScan_keeps (x : List Nat) (b : List Band) (l : List Nat) (s : State) :
    s.Keeps (State.pinScan x b l s).2 := by
  induction l generalizing s with
  | nil => exact .refl s
  | cons e l ih =>
    unfold State.pinScan
    split
    · exact ih s
    · split
      · dsimp only
        split
        · exact State.examineResident_keeps _ _ s
        · exact (State.examineResident_keeps _ _ s).trans (ih _)
      · exact ih s

theorem State.victim_keeps (x : List Nat) (c : Option Band) (s : State) : s.Keeps (s.victim x c).2 := by
  have hw := State.walk_keeps x (bandsUpTo c) (s.clean.size + 1) s
  unfold State.victim
  split
  · rename_i h; rw [h] at hw; exact hw
  · rename_i h; rw [h] at hw
    split
    · exact hw.trans (State.pinScan_keeps _ _ _ _)
    · exact hw

theorem State.evict_keeps (f : SlotFate) (r : Resident) (s : State) : s.Keeps (s.evict f r) :=
  (State.remove_keeps f r s).trans (.of (stats := fun h => { h with evictions := addSat_le _ _ }))

theorem State.absorbSlot_keeps (x : List Nat) (s : State) : s.Keeps (s.absorbSlot x).2 := by
  have hv := State.victim_keeps x (some .b3) s
  unfold State.absorbSlot
  split
  · exact State.takeSlot_keeps _ s
  · split
    · rename_i h; rw [h] at hv; exact hv
    · rename_i h; rw [h] at hv
      split
      · exact hv
      · exact hv.trans (State.evict_keeps _ _ _)

theorem State.displace_keeps (c : Option Band) (n : Nat) (s : State) : s.Keeps (s.displace c n) := by
  induction n generalizing s with
  | zero => exact .refl s
  | succ n ih =>
    have hv := State.victim_keeps [] c s
    unfold State.displace
    split
    · exact .refl s
    · split
      · rename_i h; rw [h] at hv; exact hv
      · rename_i h; rw [h] at hv
        split
        · exact hv
        · exact (hv.trans (State.evict_keeps _ _ _)).trans (ih _)

theorem State.passingCatchUp_keeps (e : Nat) (s : State) : s.Keeps (s.passingCatchUp e) := by
  unfold State.passingCatchUp
  split
  · exact .refl s
  · exact State.setWatchHeat_keeps _ _ s

theorem State.fillSlot_keeps (e : Nat) (s : State) : s.Keeps (s.fillSlot e).2 := by
  have h := (State.passingCatchUp_keeps e s).trans (State.displace_keeps
    (State.watchedBand e (s.passingCatchUp e)).below ((s.passingCatchUp e).records.length + 1) _)
  simp only [State.fillSlot]
  split
  · split
    · exact h.trans (State.takeSlot_keeps _ _)
    · exact h
  · exact h

/-! ### Moves -/

theorem State.endRecord_keeps (f : SlotFate) (r : Resident) (s : State) : s.Keeps (s.endRecord f r) :=
  (State.store_keeps _ _ s).trans (State.retireIfEmpty_keeps _ _ _)

theorem State.produceMark_keeps (c : Fin 4) (n : Nat) (a : SegSet) (s : State) : s.Keeps (s.produceMark c n a) := by
  unfold State.produceMark
  split
  · exact (State.place_keeps _ _ s).trans (State.setContext_keeps _ _ _)
  · exact State.Keeps.of

theorem State.completeFill_keeps (c : Fin 4) (m : FillMove) (s : State) : s.Keeps (s.completeFill c m) := by
  have h : s.Keeps { s.setContext c .idle with
      stats := { (s.setContext c .idle).stats with fillsDone := addSat (s.setContext c .idle).stats.fillsDone 1 } } :=
    (State.setContext_keeps _ _ s).trans (.of (stats := fun h => { h with fillsDone := addSat_le _ _ }))
  simp only [State.completeFill]
  split
  · exact h
  · exact h.trans (State.endRecord_keeps _ _ _)

theorem State.completeFlush_keeps (c : Fin 4) (m : FlushMove) (s : State) : s.Keeps (s.completeFlush c m) := by
  have h : s.Keeps { s.setContext c .idle with
      stats := { (s.setContext c .idle).stats with
        flushesDone := addSat (s.setContext c .idle).stats.flushesDone 1 } } :=
    (State.setContext_keeps _ _ s).trans (.of (stats := fun h => { h with flushesDone := addSat_le _ _ }))
  simp only [State.completeFlush]
  split
  · exact h
  · refine (State.Keeps.trans ?_ (State.retireIfEmpty_keeps _ _ _))
    split
    · exact h.trans (State.store_keeps _ _ _)
    · exact (h.trans (State.store_keeps _ _ _)).trans (State.produceMark_keeps _ _ _ _)

theorem State.issue_keeps (p : Port) (r : Outbound) (c : Fin 4) (x : Context) (s : State) :
    s.Keeps (s.issue p r c x) := by
  have h : s.Keeps { (s.place p r).setContext c x with tickets := (((s.place p r).setContext c x).tickets + 1) % Config.wrap16 } :=
    ((State.place_keeps p r s).trans (State.setContext_keeps c x _)).trans (State.withTickets_keeps _ _)
  simp only [State.issue]
  split
  · exact h.trans (State.armAdvice_keeps _)
  · exact h

theorem State.placeOrder_keeps (c : Fin 4) (s : State) : s.Keeps (s.placeOrder c) := by
  unfold State.placeOrder
  split
  · exact .refl s
  · exact .refl s
  · split
    · exact State.completeFill_keeps _ _ s
    · exact State.issue_keeps _ _ _ _ s
  · split
    · exact State.completeFlush_keeps _ _ s
    · exact State.issue_keeps _ _ _ _ s

theorem State.oweOrder_keeps (p : Port) (c : Fin 4) (s : State) : s.Keeps (s.oweOrder p c) := by
  cases p with
  | front => exact .refl s
  | flash => exact .of
  | disk => exact .of

theorem State.produceOrder_keeps (c : Fin 4) (s : State) : s.Keeps (s.produceOrder c) := by
  unfold State.produceOrder
  split
  · exact .refl s
  · split
    · exact State.placeOrder_keeps _ s
    · exact State.oweOrder_keeps _ _ s

theorem State.penalise_keeps (e : Nat) (s : State) : s.Keeps (s.penalise e) :=
  .of (promo := fun h => (without_length_le _ _).trans h)

theorem State.abortFill_keeps (c : Fin 4) (m : FillMove) (b : Bool) (f g : SlotFate) (s : State) :
    s.Keeps (s.abortFill c m b f g) := by
  have h : s.Keeps (if b then (s.setContext c .idle).penalise m.extent else s.setContext c .idle) := by
    split
    · exact (State.setContext_keeps _ _ s).trans (State.penalise_keeps _ _)
    · exact State.setContext_keeps _ _ s
  simp only [State.abortFill]
  split
  · exact h
  · split
    · exact h.trans (State.remove_keeps _ _ _)
    · exact h.trans (State.endRecord_keeps _ _ _)

theorem State.abortFlush_keeps (c : Fin 4) (m : FlushMove) (f : SlotFate) (s : State) :
    s.Keeps (s.abortFlush c m f) := by
  simp only [State.abortFlush]
  split
  · exact State.setContext_keeps _ _ s
  · exact (State.setContext_keeps _ _ s).trans (State.endRecord_keeps _ _ _)

theorem State.chargeFlush_keeps (c : Fin 4) (m : FlushMove) (s : State) : s.Keeps (s.chargeFlush c m) := by
  have h := State.setContext_keeps c .idle s
  simp only [State.chargeFlush]
  split
  · exact h
  · split
    · exact h.trans (State.endRecord_keeps _ _ _)
    · split
      · exact ((h.trans (State.store_keeps _ _ _)).trans (State.withDirtyList_keeps _ _)).trans
          (State.noticeStuck_keeps _ _)
      · exact (h.trans (State.store_keeps _ _ _)).trans (State.withDirtyList_keeps _ _)

theorem State.markLost_keeps (n : Nat) (a : SegSet) (s : State) : s.Keeps (s.markLost n a) :=
  (State.place_keeps _ _ s).trans (.of (stats := fun h => { h with lostSegments := addSat_le _ _ }))

theorem State.loseFlush_keeps (c : Fin 4) (m : FlushMove) (s : State) : s.Keeps (s.loseFlush c m) := by
  have h := State.setContext_keeps c .idle s
  simp only [State.loseFlush]
  split
  · exact h
  · rename_i r _
    have k : s.Keeps (if m.cleaned r.dirty = 0#32 then s.setContext c .idle
        else ((s.setContext c .idle).markLost r.slot (m.cleaned r.dirty)).noticeLost m.extent (m.cleaned r.dirty)) := by
      split
      · exact h
      · exact (h.trans (State.markLost_keeps _ _ _)).trans (State.noticeLost_keeps _ _ _)
    split
    · exact k
    · exact k.trans (State.endRecord_keeps _ _ _)

theorem State.enterWriting_keeps (c : Fin 4) (s : State) : s.Keeps (s.enterWriting c) := by
  unfold State.enterWriting
  split
  · exact .refl s
  · exact .refl s
  · exact (State.setContext_keeps _ _ s).trans (State.produceOrder_keeps _ _)
  · exact (State.setContext_keeps _ _ s).trans (State.produceOrder_keeps _ _)

theorem State.actOnReport_keeps (c : Fin 4) (n : Nat) (s : State) : s.Keeps (s.actOnReport c n) := by
  unfold State.actOnReport
  split
  · exact .refl s
  · exact .refl s
  · split
    · exact State.enterWriting_keeps _ s
    · exact State.completeFill_keeps _ _ s
    · exact State.abortFill_keeps _ _ _ _ _ s
    · exact State.abortFill_keeps _ _ _ _ _ s
  · split
    · exact State.enterWriting_keeps _ s
    · exact State.completeFlush_keeps _ _ s
    · exact State.loseFlush_keeps _ _ s
    · exact State.chargeFlush_keeps _ _ s
    · exact State.abortFlush_keeps _ _ _ s

theorem State.actOnTimeout_keeps (c : Fin 4) (s : State) : s.Keeps (s.actOnTimeout c) := by
  have h : s.Keeps { s with stats := { s.stats with orderTimeouts := addSat s.stats.orderTimeouts 1 } } :=
    .of (stats := fun h => { h with orderTimeouts := addSat_le _ _ })
  simp only [State.actOnTimeout]
  split
  · exact .refl s
  · exact .refl s
  · split
    · exact h.trans (State.abortFill_keeps _ _ _ _ _ _)
    · exact h.trans (State.abortFill_keeps _ _ _ _ _ _)
  · split
    · exact h.trans (State.abortFlush_keeps _ _ _ _)
    · exact h.trans (State.chargeFlush_keeps _ _ _)

theorem State.liftFenceOf_keeps (t : Nat) (s : State) : s.Keeps (s.liftFenceOf t) := by
  unfold State.liftFenceOf
  split
  · exact .refl s
  · exact State.Keeps.trans .of (State.produceRetire_keeps _ _)

theorem State.unfenceSlot_keeps (n : Nat) (s : State) : s.Keeps (s.unfenceSlot n) := by
  unfold State.unfenceSlot
  split
  · exact .of
  · exact .refl s

theorem State.abortByReset_keeps (f : SlotFate) (c : Fin 4) (s : State) : s.Keeps (s.abortByReset f c) := by
  unfold State.abortByReset
  split
  · exact .refl s
  · exact .refl s
  · exact State.abortFill_keeps _ _ _ _ _ s
  · exact State.abortFlush_keeps _ _ _ s

theorem State.abortMovesOf_keeps (p : Port) (f : SlotFate) (s : State) : s.Keeps (s.abortMovesOf p f) :=
  .foldl _ (fun s c => State.abortByReset_keeps f c s) _ s

theorem State.startFlush_keeps (c : Fin 4) (r : Resident) (s : State) : s.Keeps (s.startFlush c r) :=
  ((State.store_keeps _ _ s).trans (State.setContext_keeps _ _ _)).trans (State.produceOrder_keeps _ _)

theorem State.startPartialFill_keeps (c : Fin 4) (r : Resident) (s : State) : s.Keeps (s.startPartialFill c r) :=
  ((State.store_keeps _ _ s).trans (State.setContext_keeps _ _ _)).trans (State.produceOrder_keeps _ _)

theorem State.startFreshFill_keeps (c : Fin 4) (e n : Nat) (s : State) : s.Keeps (s.startFreshFill c e n) :=
  (((State.unwatch_keeps e s).trans (State.enter_keeps _ _)).trans (State.setContext_keeps _ _ _)).trans
    (State.produceOrder_keeps _ _)

/-! ### The Scheduler -/

theorem State.compareUrgent_keeps (s : State) : s.Keeps s.compareUrgent := .of
theorem State.clearMarks_keeps (s : State) : s.Keeps s.clearMarks := .of

theorem State.endDrain_keeps (s : State) : s.Keeps s.endDrain := by
  unfold State.endDrain
  split
  · exact ((State.noticeDrained_keeps _ s).trans (State.clearMarks_keeps _)).trans .of
  · exact .refl s

theorem State.demandFor_keeps (r : Reason) (s : State) : s.Keeps (s.demandFor r) := by
  unfold State.demandFor
  split
  · split
    · exact State.Keeps.trans (t := s.setDemand r true) .of (State.produceDemand_keeps r _)
    · exact .refl s
  · exact .of

theorem State.demandAll_keeps (s : State) : s.Keeps s.demandAll :=
  ((State.demandFor_keeps _ s).trans (State.demandFor_keeps _ _)).trans (State.demandFor_keeps _ _)

theorem State.finish_keeps (s : State) : s.Keeps s.finish := by
  unfold State.finish
  split
  · exact (((State.grantAll_keeps s).trans (State.endDrain_keeps _)).trans (State.compareUrgent_keeps _)).trans
      (State.demandAll_keeps _)
  · exact .refl s

theorem State.reconsider_keeps (s : State) : s.Keeps s.reconsider := .of
theorem State.beginUp_keeps (s : State) : s.Keeps s.beginUp := State.Keeps.trans .of (State.armAdvice_keeps _)
theorem State.endUp_keeps (s : State) : s.Keeps s.endUp := .of
theorem State.dropDemands_keeps (s : State) : s.Keeps s.dropDemands := .of

theorem State.startEligibleFlush_keeps (c : Fin 4) (s : State) : s.Keeps (s.startEligibleFlush c) := by
  unfold State.startEligibleFlush
  split
  · exact .refl s
  · split
    · exact .refl s
    · exact (State.startFlush_keeps _ _ s).trans (State.withLastKind_keeps _ _)

theorem State.tryFill_keeps (c : Fin 4) (e : Nat) (s : State) : s.Keeps (s.tryFill c e).2 := by
  have h := State.fillSlot_keeps e s
  unfold State.tryFill
  split
  · exact (State.startPartialFill_keeps _ _ s).trans (State.withLastKind_keeps _ _)
  · split
    · rename_i k; rw [k] at h; exact (h.trans (State.startFreshFill_keeps _ _ _ _)).trans (State.withLastKind_keeps _ _)
    · rename_i k; rw [k] at h; exact h

theorem State.tryFills_keeps (c : Fin 4) (n : Nat) (l : List Nat) (s : State) :
    s.Keeps (State.tryFills c n l s).2 := by
  induction n generalizing l s with
  | zero => exact .refl s
  | succ n ih =>
    unfold State.tryFills
    split
    · exact .refl s
    · rename_i e _
      have h := State.tryFill_keeps c e s
      split
      · rename_i k; rw [k] at h; exact h
      · rename_i k; rw [k] at h; exact h.trans (ih _ _)

theorem State.startFillElseFlush_keeps (c : Fin 4) (s : State) : s.Keeps (s.startFillElseFlush c) := by
  have h := State.tryFills_keeps c (s.promo.length + s.records.length + 1) [] s
  unfold State.startFillElseFlush
  split
  · rename_i k; rw [k] at h; exact h
  · rename_i k; rw [k] at h; exact h.trans (State.startEligibleFlush_keeps _ _)

theorem State.startMove_keeps (c : Fin 4) (s : State) : s.Keeps (s.startMove c) := by
  unfold State.startMove
  split
  · exact .refl s
  · exact State.startEligibleFlush_keeps _ s
  · exact State.startFillElseFlush_keeps _ s
  · split
    · exact State.startFillElseFlush_keeps _ s
    · exact State.startEligibleFlush_keeps _ s

theorem State.adviceExpiry_keeps (s : State) : s.Keeps s.adviceExpiry := by
  unfold State.adviceExpiry
  split
  · exact State.Keeps.trans .of (State.produceAdvice_keeps _)
  · exact State.Keeps.trans .of (State.armAdvice_keeps _)

/-! ### Routing -/

theorem State.writeResident_keeps (sp : Span) (r : Resident) (s : State) : s.Keeps (s.writeResident sp r).2 :=
  (State.store_keeps _ _ s).trans (State.withContexts_keeps _ _)

theorem State.writeAbsent_keeps (x : List Nat) (sp : Span) (s : State) : s.Keeps (s.writeAbsent x sp).2 := by
  have h := State.absorbSlot_keeps x s
  unfold State.writeAbsent
  split
  · exact .refl s
  · split
    · rename_i k; rw [k] at h; exact h
    · rename_i k; rw [k] at h
      exact (h.trans (State.unwatch_keeps _ _)).trans (State.enter_keeps _ _)

theorem State.trimExtent_keeps (sp : Span) (s : State) : s.Keeps (s.trimExtent sp).2 := by
  unfold State.trimExtent
  split
  · dsimp only
    split
    · exact (State.unwatch_keeps _ s).trans (State.unqueue_keeps _ _)
    · exact .refl s
  · exact (State.store_keeps _ _ s).trans (State.withContexts_keeps _ _)

theorem State.decideSpan_keeps (k : RouteKind) (x : List Nat) (sp : Span) (s : State) :
    s.Keeps (s.decideSpan k x sp).2 := by
  unfold State.decideSpan
  split
  · split
    · exact .refl s
    · exact .refl s
  · split
    · exact State.writeResident_keeps _ _ s
    · exact State.writeAbsent_keeps _ _ s
  · exact State.trimExtent_keeps _ s

theorem State.decideSpans_keeps (k : RouteKind) (x : List Nat) (sps : List Span) (s : State) :
    s.Keeps (s.decideSpans k x sps).2 := by
  induction sps generalizing s with
  | nil => exact .refl s
  | cons sp sps ih => exact (State.decideSpan_keeps k x sp s).trans (ih _)

theorem State.decideRoute_keeps (q : Parked) (s : State) : s.Keeps (s.decideRoute q).2 :=
  State.decideSpans_keeps _ _ _ s

theorem State.trimMark_keeps (d : Decision) (s : State) : s.Keeps (s.trimMark d) := by
  unfold State.trimMark
  split
  · exact .refl s
  · exact State.place_keeps _ _ s

theorem State.endTrim_keeps (ds : List Decision) (s : State) : s.Keeps (s.endTrim ds) :=
  .trans (.foldl _ (fun s d => State.trimMark_keeps d s) ds s) (State.retireEmpties_keeps _ _)

theorem Stats.routed_bounded (k : RouteKind) (ps : List Piece) (n : Nat) (b : Bool) (c : Stats) (h : c.Bounded) :
    (c.routed k ps n b).Bounded := by
  obtain ⟨h1, h2, h3, h4, h5, h6, h7, h8, h9, h10, h11, h12, h13⟩ := h
  constructor <;> simp only [Stats.routed] <;> first | assumption | exact addSat_le _ _ | skip
  all_goals split <;> first | assumption | exact addSat_le _ _

theorem State.recordRoute_keeps (q : Parked) (ds : List Decision) (s : State) : s.Keeps (s.recordRoute q ds) := by
  have h : s.Keeps (if q.kind = .trim then s.endTrim ds else s) := by
    split
    · exact State.endTrim_keeps ds s
    · exact .refl s
  unfold State.recordRoute
  generalize (if q.kind = .trim then s.endTrim ds else s) = t at h ⊢
  dsimp only
  have k := ((h.trans (State.withRoutes_keeps (insertBy (·.tag) (routeEntry q ds) t.routes) t)).trans
    (State.place_keeps .front (.routeAnswer .ok q.tag (t.forcedWake ds) (routePieces q.kind ds)) _)).trans
    (State.withStats_keeps _ _ (Stats.routed_bounded q.kind (routePieces q.kind ds)
      ((ds.map (fun d => segCount d.absorbed)).sum) (t.forcedWake ds) _))
  split
  · exact k.trans (State.armAdvice_keeps _)
  · exact k

theorem State.failWrite_keeps (e : Nat) (a : SegSet) (s : State) : s.Keeps (s.failWrite e a) := by
  unfold State.failWrite
  split
  · exact .refl s
  · dsimp only
    split
    · exact .refl s
    · exact (State.store_keeps _ _ s).trans (State.markLost_keeps _ _ _)

theorem State.failEntry_keeps (t : RouteEntry) (s : State) : s.Keeps (s.failEntry t) := by
  simp only [State.failEntry]
  split
  · exact State.failWrite_keeps _ _ s
  · exact (State.failWrite_keeps _ _ s).trans (State.failWrite_keeps _ _ _)

theorem State.endRoute_keeps (t : RouteEntry) (b : Bool) (s : State) : s.Keeps (s.endRoute t b) := by
  have h : s.Keeps (if (b && t.kind == .write) = true then s.failEntry t else s) := by
    split
    · exact State.failEntry_keeps t s
    · exact .refl s
  unfold State.endRoute
  generalize (if (b && t.kind == .write) = true then s.failEntry t else s) = u at h ⊢
  dsimp only
  refine State.Keeps.trans ?_ (State.finish_keeps _)
  have k := (h.trans (State.withRoutes_keeps (u.routes.filter (fun x => x.tag ≠ t.tag)) u)).trans
    (State.retireEmpties_keeps t.extents _)
  split
  · exact k.trans (State.armAdvice_keeps _)
  · exact k

theorem State.takeDone_keeps (tag outcome : Nat) (s : State) : s.Keeps (s.takeDone tag outcome) := by
  unfold State.takeDone
  split
  · exact State.place_keeps _ _ s
  · split
    · exact State.place_keeps _ _ s
    · split
      · exact State.place_keeps _ _ s
      · exact (State.place_keeps _ _ s).trans (State.endRoute_keeps _ _ _)

end Sys2Proof.Machine
end

