-- ==== Sys2Proof/Laws/Taking.lean ====
section
/-! SUPPORT. The taking of a request: what an offer says, that its answer has a place, and the state after a request
that is only answered. -/

set_option Elab.async false

namespace Sys2Proof.Machine

/-- The ready port the arbiter picks is ready. -/
theorem State.ready_of_arbiter {s : State} {p : Port} (h : s.arbiter = some p) : s.ready p = true := by
  have := List.find?_some h
  simpa using this

/-- What an offer says: the arbiter takes from the port, and its head is a request that spells the command. -/
theorem State.offered_iff {s : State} {p : Port} {c : Instr} {ws : List Word} :
    s.offered p c = some ws ↔
      s.arbiter = some p ∧ s.headOf p = some (.entry (.request ws)) ∧ decodeRequest p ws = some c := by
  unfold State.offered
  constructor
  · intro h
    split at h
    · rename_i ha
      split at h
      · rename_i vs hh
        split at h
        · rename_i hd
          simp only [Option.some.injEq] at h
          subst h
          exact ⟨ha, hh, hd⟩
        · simp at h
      · simp at h
    · simp at h
  · rintro ⟨ha, hh, hd⟩
    simp [ha, hh, hd]

/-- A port with an offer has room for its head request. -/
theorem State.roomFor_of_offered {s : State} {p : Port} {c : Instr} {ws : List Word} (h : s.offered p c = some ws) :
    s.roomFor p (.entry (.request ws)) = true := by
  obtain ⟨ha, hh, -⟩ := State.offered_iff.1 h
  have := State.ready_of_arbiter ha
  simpa [State.ready, hh] using this

/-- The answer to an offered request has a place in its port's queue. -/
theorem State.hasRoom_of_offered {s : State} {p : Port} {c : Instr} {ws : List Word} (h : s.offered p c = some ws) :
    s.hasRoom p 1 = true := by
  have := State.roomFor_of_offered h
  cases p
  · simp only [State.roomFor, Bool.and_eq_true] at this
    exact this.1
  · simp only [State.roomFor, State.hasRoom, decide_eq_true_eq] at this ⊢
    have : 1 ≤ flashNeeds (.entry (.request ws)) := by unfold flashNeeds; split <;> (try split) <;> simp_all
    omega
  · simpa [State.roomFor] using this

/-- Every front head request needs two flash places at least (R173). -/
theorem State.two_le_frontNeeds (s : State) (h : Head) : 2 ≤ s.frontNeeds h := by
  unfold State.frontNeeds State.routeNeeds
  repeat' split
  all_goals omega

/-- A front request is offered only with two flash places free (R173). -/
theorem State.flashRoom_of_offered {s : State} {c : Instr} {ws : List Word} (h : s.offered .front c = some ws) :
    s.flash.out.length + 2 ≤ 16 := by
  have hr := State.roomFor_of_offered h
  simp [State.roomFor, State.hasRoom, State.link, Config.outDepth] at hr
  have h2 := of_decide_eq_true hr.2
  have hn := s.two_le_frontNeeds (.entry (.request ws))
  omega

/-- A REPORT is offered on the flash port only with three places of its queue free (R129, R173). -/
theorem State.reportRoom_of_offered {s : State} {p : Port} {a b d : Nat} {ws : List Word}
    (h : s.offered .flash (.report p a b d) = some ws) : s.flash.out.length + 3 ≤ 16 := by
  have hr := State.roomFor_of_offered h
  have hd := (State.offered_iff.1 h).2.2
  simpa [State.roomFor, flashNeeds, hd, State.hasRoom, State.link, Config.outDepth] using hr

/-- A taken request: it leaves its FIFO, its block acts, the pointer moves. -/
theorem takeRequest_offered {s : State} {p : Port} {c : Instr} {ws : List Word} (act : List Word → State → State)
    (h : s.offered p c = some ws) : takeRequest p c act s = .next ((act ws (s.popFifo p)).advance p) := by
  simp [takeRequest, h]

/-- A request that is not taken leaves the state as it is. -/
theorem takeRequest_waits {s : State} {p : Port} {c : Instr} (act : List Word → State → State)
    (h : s.offered p c = none) : takeRequest p c act s = .next s := by
  simp [takeRequest, h]

/-- A record placed with room joins the tail of the queue. -/
theorem State.place_of_room {s : State} {p : Port} (r : Outbound) (h : s.hasRoom p 1 = true) :
    s.place p r = s.setLink p { s.link p with out := (s.link p).out ++ [r] } := by
  simp [State.place, h]

/-- The state after a request that is only answered. -/
theorem State.answered_eq {s : State} {p : Port} (r : Outbound) (h : s.hasRoom p 1 = true) :
    ((s.popFifo p).place p r).advance p = s.answered p r := by
  have h' : (s.popFifo p).hasRoom p 1 = true := by
    simpa [State.popFifo, State.hasRoom] using h
  rw [State.place_of_room r h']
  cases p <;> rfl

/-- A request that is only answered. -/
theorem takeRequest_answers {s : State} {p : Port} {c : Instr} {ws : List Word} (act : List Word → State → State)
    (r : Outbound) (h : s.offered p c = some ws) (ha : act ws (s.popFifo p) = (s.popFifo p).place p r) :
    takeRequest p c act s = .next (s.answered p r) := by
  rw [takeRequest_offered act h, ha, State.answered_eq r (State.hasRoom_of_offered h)]

end Sys2Proof.Machine
end

