-- ==== Sys2Proof/Tests/Slice0.lean ====
section
/-! SUPPORT. The model's own tests: the smoke test of `wellFormed`, records written out from the layouts of R177 and
R184, one witness theorem for each statement that has hypotheses (a state and operands that meet them, clause by clause),
and small one-step tests whose expected values come from the spec. -/

set_option Elab.async false

namespace Sys2Proof.Tests

open Sys2Proof Sys2Proof.Machine

/-! ### Small states and helpers -/

/-- The state a command leads to, none where it stops. -/
def result (c : Instr) (s : State) : Option State :=
  match exec c s with
  | .next t => some t
  | .fault _ => none
  | .refused _ => none

/-- A request waits alone at the head of its FIFO and the arbiter's pointer names its port. -/
def asking (c : Instr) (s : State) : State :=
  match encodeRequest c with
  | some (p, ws) => { s.setLink p { s.link p with fifo := [.request ws] } with pointer := p }
  | none => s

/-- The words of a request. -/
def asked (c : Instr) : List Word := ((encodeRequest c).map (·.2)).getD []

/-- Where a command leads. -/
def after (c : Instr) (s : State) : State := (result c s).getD s

/-- Where a request leads that is taken as soon as it stands at the head of its FIFO. -/
def taken (c : Instr) (s : State) : State := after c (asking c s)

/-- `n` records stand in a port's outbound queue. -/
def filled (p : Port) (n : Nat) (s : State) : State :=
  s.setLink p { s.link p with out := List.replicate n .spinDownAdvice }

/-- The part in SERVING with 256 slots, of which four are free. -/
def serving : State :=
  { State.reset with
    service := .serving
    sizes := some { slots := 256, pinLimit := 64, absorbReserve := 2, dirtyHigh := 64, dirtyLow := 32 }
    free := [3, 5, 9, 255], epochTimer := some 255 }

/-- The part in ADOPTING with 256 slots, all free. -/
def adopting : State :=
  { State.reset with
    service := .adopting
    sizes := some { slots := 256, pinLimit := 64, absorbReserve := 16, dirtyHigh := 64, dirtyLow := 32 }
    free := List.range 256 }

/-- A record of heat 32 in B1. -/
def record (e n : Nat) (valid dirty lost : SegSet) : Resident :=
  { extent := e, slot := n, state := .resident, valid := valid, dirty := dirty, lost := lost, pinned := false
    heat := { heat := 32, band := .b1, settle := 0, stamp := 0 }, classified := .normal, retries := 0
    stuck := false, drainMark := false, owed := .absent }

/-- Extent 7 in slot 2: segments 0 to 3 valid, 0 and 1 dirty, 4 lost. -/
def dirtySeven : Resident := record 7 2 0xF#32 0x3#32 0x10#32

/-- Extent 7 in slot 2, its segments 0 to 3 valid and clean. -/
def cleanSeven : Resident := record 7 2 0xF#32 0#32 0#32

/-- A FILL of extent 7 in slot 2. -/
def fillSeven (phase : Phase) (fresh : Bool) (order : OrderState) : FillMove :=
  { phase := phase, fresh := fresh, extent := 7, slot := 2, work := 0xFFFFFFE0#32, validate := 0xFFFFFFE0#32
    order := order }

/-- A FLUSH of the dirty segments of extent 7 from slot 2. -/
def flushSeven (phase : Phase) (order : OrderState) : FlushMove :=
  { phase := phase, extent := 7, slot := 2, work := 0x3#32, redirtied := 0#32, carried := 0x3#32, order := order }

/-- Extent 7 with a FILL in flight in context 3. -/
def filling (phase : Phase) (fresh : Bool) (order : OrderState) (s : State) : State :=
  (s.enter { record 7 2 (if fresh then 0#32 else 0xF#32) 0#32 (if fresh then 0#32 else 0x10#32) with
    state := .filling }).setContext 3 (.fill (fillSeven phase fresh order))

/-- Extent 7 with a FLUSH in flight in context 3. -/
def flushing (phase : Phase) (order : OrderState) (s : State) : State :=
  (s.enter { dirtySeven with state := .flushing }).setContext 3 (.flush (flushSeven phase order))

/-- An entry of the Claim Table. -/
def claiming (i : Fin 8) (e : Nat) (standing : Standing) (waiters : List Port) (s : State) : State :=
  s.setClaim i (some { extent := e, standing := standing, waiters := waiters })

/-- Every entry of the Claim Table in use, for extents 100 to 107. -/
def claimsFull (s : State) : State :=
  allClaims.foldl (fun t i => claiming i (100 + i.val) (.owned .disk false) [] t) s

/-- A route of tag 1 in the Route Table. -/
def routing (kind : RouteKind) (e : Nat) (flash : SegSet) (disk : Bool) (s : State) : State :=
  { s with routes := [{ tag := 1, kind := kind, first := e, firstFlash := flash, second := none, disk := disk }] }

/-- A waiting WRITE of sectors 1,792 to 1,799 (segment 0 of extent 7), parked with tag 4. -/
def parkedWrite : Parked := { tag := 4, kind := .write, lba := 1792, count := 8 }

/-- The spindle turns. -/
def spinning (s : State) : State := { s with spindle := .up }

/-- An entry of the Watch List for extent 9, hot, and its place on the Promotion Queue. -/
def watching (s : State) : State :=
  { s with
    watch := [{ place := 0, extent := 9, heat := { heat := 500, band := .b2, settle := 0, stamp := 0 } }]
    touch := [9], promo := [9] }

/-- A valid ROUTE that the arbiter takes now, whose tag is free and none of whose extents parks. -/
abbrev Routable (s : State) (tag kind lba count : Nat) (q : Parked) : Prop :=
  s.service = .serving ∧ validRoute tag kind lba count = some q ∧ s.tagInUse tag = false ∧
    s.routeParks q = false ∧
    s.offered .front (.route tag kind lba count) = some (asked (.route tag kind lba count))

/-- A request of its port that the arbiter takes now. -/
abbrev Taken (s : State) (p : Port) (c : Instr) : Prop := s.offered p c = some (asked c)

/-- A capacity check for a state without claims or with decided ones. -/
theorem withinCapacity_of (s : State) (hf : ∀ p ∈ [Port.front, .flash, .disk], (s.link p).fifo.length ≤ 4)
    (ho : ∀ p ∈ [Port.front, .flash, .disk], (s.link p).out.length ≤ 16) (hk : s.parked.length ≤ 8)
    (hq : s.promo.length ≤ 64) (hc : s.cursor < s.slots + 4096)
    (hd : ∀ i : Fin 8, ∀ c ∈ s.claims[i], c.standing.port ∉ c.waiters ∧ c.waiters.Nodup) : s.WithinCapacity :=
  ⟨fun p => hf p (by cases p <;> decide), fun p => ho p (by cases p <;> decide), hk, hq, hc, fun i c h => hd i c h⟩

/-- A check of the moves for a state whose contexts and records are written out. -/
theorem movesMatched_of (s : State) (hl : ∀ r ∈ s.records, r.valid &&& r.lost = 0#32)
    (hf : ∀ c : Fin 4, (match s.contexts[c] with
      | .fill m => decide (∃ r ∈ s.residentOf m.extent, r.slot = m.slot ∧ r.state = .filling ∧
          m.validate &&& (r.valid ||| r.lost) = 0#32 ∧ (m.fresh = true → r.isEmpty = true))
      | .flush m => decide (∃ r ∈ s.residentOf m.extent, r.slot = m.slot ∧ r.state = .flushing)
      | .marking _ _ => true
      | .idle => true) = true)
    (ha : ∀ c d : Fin 4, c ≠ d → ∀ e ∈ s.contexts[c].extentInMove, s.contexts[d].extentInMove ≠ some e) :
    s.MovesMatched := by
  refine ⟨hl, fun c m h => ?_, fun c m h => ?_, ha⟩
  · have := hf c
    rw [h] at this
    exact of_decide_eq_true this
  · have := hf c
    rw [h] at this
    exact of_decide_eq_true this

/-- The settings of the tests' states in SERVING are in their ranges. -/
theorem settingsInRange_of (s : State) (hg : s.settings = serving.settings) (hz : s.sizes = serving.sizes)
    (hw : s.windows = serving.windows) : s.SettingsInRange := by
  have h : ∀ w ∈ serving.windows.toList, w.base ≤ 16777215 ∧ w.mask ≤ 16777215 := by decide
  refine ⟨hg ▸ ?_, ?_, fun _ => by rw [hz]; decide, hw ▸ h⟩
  · exact ⟨by decide, by decide, by decide, by decide, by decide, by decide, by decide, by decide, by decide,
      by decide, by decide⟩
  · rw [hz]
    intro z h
    cases h
    exact ⟨by decide, by decide, by decide, by decide, by decide⟩

/-- A state with one record, lawful and dirty, and on the Dirty List, has lawful records and filed lists. -/
theorem lawfulAndFiled_of (s : State) (r : Resident) (hr : s.records = [r]) (hw : s.watch = []) (he : s.epoch < 65536)
    (hd : s.dirtyList = [r.extent]) (hc : ∀ b, s.clean.get b = []) (hn : r.dirty ≠ 0#32)
    (hv : segLess r.dirty r.valid = 0#32) (ht : r.retries ≤ 3) (hf : r.state = .flushing → r.stuck = false)
    (hh : r.heat.heat ≤ 65535 ∧ r.heat.settle ≤ 14 ∧ r.heat.stamp < 65536) : s.RecordsLawful ∧ s.ListsFiled := by
  have hb : ∀ b, r.cleanBand ≠ some b := fun b => by simp [Resident.cleanBand, hn]
  refine ⟨⟨?_, by simp [hw], he, by simp [hr], ?_⟩, ⟨by simp [hr], by simp [hd], ?_, fun b => by simp [hc],
    fun b e => by simp [hc, hr, hb]⟩⟩
  · rw [hr]
    exact fun x h => List.mem_singleton.1 h ▸ ⟨hv, fun k => absurd k hn, ht, hf, hh⟩
  · intro e _ x hx
    have := List.mem_of_find?_eq_some (show s.records.find? _ = some x from hx)
    rw [hr, List.mem_singleton] at this
    exact this ▸ hn
  · intro e
    simp [hd, hr, hn]
    exact eq_comm

/-- A check that what the events of a state in SERVING ended is carried out. -/
theorem concluded_of (s : State) (hs : s.service = .serving)
    (hg : ∀ i : Fin 8, ∀ c ∈ s.claims[i], c.standing = .owned c.standing.port false ∨
      s.quiescent c.standing.port c.extent = false)
    (hd : s.drain = true → ∃ r ∈ s.records, r.drainMark = true ∧ r.stuck = false)
    (hm : s.drain = false → ∀ r ∈ s.records, r.drainMark = false)
    (hu : s.urgent = true → s.dirtyLow < s.dirtyList.length) (hc : s.urgent = false → s.dirtyList.length < s.dirtyHigh)
    (hr : ∀ r ∈ [Reason.dirtyCeiling, .drain, .fill], (s.demands.get r = true → s.demandHolds r = true) ∧
      (s.demandHolds r = true → s.spindle ≠ .up → s.demands.get r = true)) : s.Concluded := by
  refine ⟨fun i c p h hp => ?_, hd, hm, fun _ => hu, fun _ => hc, fun _ r => hr r (by cases r <;> decide),
    fun h => absurd hs h⟩
  rcases hg i c h with k | k
  · rw [hp] at k; cases k
  · rw [hp] at k; exact k

/-! ### Well-formedness -/

/-- One ill-formed term for each check of `wellFormed`, each refused. -/
theorem test_ill_formed_terms_are_refused :
    ∀ c ∈ [Instr.inboundFrame .front [], .route 256 0 0 1, .route 0 256 0 1, .route 0 0 (2 ^ 32) 1,
      .route 0 0 0 (2 ^ 32), .done 256 0, .done 0 256, .claim .front (2 ^ 32), .release .front (2 ^ 32),
      .setEpochLen (2 ^ 32), .setDecay (2 ^ 32), .setBands (2 ^ 32) 2 3, .setBands 1 (2 ^ 32) 3,
      .setBands 1 2 (2 ^ 32), .setSettle (2 ^ 32), .setPromoteBand (2 ^ 32), .setWRread (2 ^ 32),
      .setWRwrite (2 ^ 32), .setWSread (2 ^ 32), .setWSwrite (2 ^ 32), .setWakeBonus (2 ^ 32), .setSeqRun (2 ^ 32)],
      c.wellFormed = false := by decide

/-- One ill-formed term for each check of `wellFormed`, each refused (the rows after SET SEQ_RUN). -/
theorem test_more_ill_formed_terms_are_refused :
    ∀ c ∈ [Instr.setWindow 256 0 0 0 true, .setWindow 0 (2 ^ 32) 0 0 true, .setWindow 0 0 (2 ^ 32) 0 true,
      .setWindow 0 0 0 (2 ^ 32) true, .setPinLimit (2 ^ 32), .setAbsorbReserve (2 ^ 32), .setDirtyHigh (2 ^ 32),
      .setDirtyLow (2 ^ 32), .setOrderTimeout (2 ^ 32), .setAdviceDelay (2 ^ 32), .setFillWake (2 ^ 32),
      .setProfile (2 ^ 32), .query (2 ^ 32), .geometry (2 ^ 32), .adopt (2 ^ 32) 0 1#32 0#32 0#32,
      .adopt 0 (2 ^ 32) 1#32 0#32 0#32, .report .front 0 0 0, .report .flash 65536 0 0, .report .flash 0 256 0,
      .report .disk 0 0 256, .unfence (2 ^ 32), .spindle 256, .window 256], c.wellFormed = false := by decide

/-- The largest operands the fields hold are well formed. -/
theorem test_largest_operands_are_well_formed :
    ∀ c ∈ [Instr.powerOn, .inboundFrame .disk [0#16], .route 255 255 (2 ^ 32 - 1) (2 ^ 32 - 1), .done 255 255,
      .claim .disk (2 ^ 32 - 1), .setWindow 255 (2 ^ 32 - 1) (2 ^ 32 - 1) (2 ^ 32 - 1) false,
      .report .flash 65535 255 255, .report .disk 0 0 0, .unfence (2 ^ 32 - 1), .spindle 255, .window 255,
      .orderTimerExpiry 3, .startEvent], c.wellFormed = true := by decide

/-! ### Records written out from their layouts (R177, R184) -/

/-- ROUTE: kind code 01h, length 3, kind 01h (WRITE) in bits 15–8, tag 05h in bits 7–0; first LBA; count. -/
theorem test_route_words : decodeRequest .front [0x01030105#32, 0x00000700#32, 0x00000008#32] =
    some (.route 5 1 1792 8) := by decide

/-- DONE: kind code 02h, length 1, outcome 01h (FAILED), tag 1Fh. -/
theorem test_done_words : decodeRequest .front [0x0201011F#32] = some (.done 31 1) := by decide

/-- CLAIM and RELEASE: kind codes 03h and 04h, length 2, on every port, the extent in word 1. -/
theorem test_claim_words : ∀ p : Port, p ∈ [Port.front, .flash, .disk] →
    decodeRequest p [0x03020000#32, 0x00FFFFFF#32] = some (.claim p 16777215) ∧
    decodeRequest p [0x04020000#32, 0x00000007#32] = some (.release p 7) := by decide

/-- SET WINDOW: kind code 07h, length 5, window 3 in bits 15–8, item 0Ch; base, mask, policy 02h, enable. -/
theorem test_set_window_words :
    decodeRequest .front [0x0705030C#32, 0x00000010#32, 0x00FFFFF0#32, 0x00000002#32, 0x00000001#32] =
      some (.setWindow 3 16 0xFFFFF0 2 true) := by decide

/-- SET of one number: item 02h is DECAY and item 14h PROFILE; an item above 14h is none. -/
theorem test_set_words :
    decodeRequest .front [0x07050002#32, 9#32, 0#32, 0#32, 0#32] = some (.setDecay 9) ∧
    decodeRequest .front [0x07050014#32, 1#32, 0#32, 0#32, 0#32] = some (.setProfile 1) ∧
    decodeRequest .front [0x07050015#32, 1#32, 0#32, 0#32, 0#32] = none := by decide

/-- QUERY, QUERY SUMMARY and STATS: kind codes 08h and 09h, with their flag in bit 0. -/
theorem test_query_words :
    decodeRequest .front [0x08020000#32, 0x00000007#32] = some (.query 7) ∧
    decodeRequest .front [0x08020001#32, 0x00000007#32] = some .querySummary ∧
    decodeRequest .front [0x09010001#32] = some (.stats true) := by decide

/-- GEOMETRY and ADOPT: kind codes 0Bh and 0Ch, lengths 2 and 6. -/
theorem test_bring_up_words :
    decodeRequest .flash [0x0B020000#32, 0x000003E8#32] = some (.geometry 1000) ∧
    decodeRequest .flash [0x0C060000#32, 7#32, 2#32, 0xF#32, 0x3#32, 0x10#32] =
      some (.adopt 7 2 0xF#32 0x3#32 0x10#32) := by decide

/-- REPORT: kind code 0Eh, length 2, the ticket in bits 15–0, the context in bits 31–24 of word 1, the status in its
bits 7–0. The front port carries none. -/
theorem test_report_words :
    decodeRequest .disk [0x0E02ABCD#32, 0x03000002#32] = some (.report .disk 0xABCD 3 2) ∧
    decodeRequest .flash [0x0E020000#32, 0x00000001#32] = some (.report .flash 0 0 1) ∧
    decodeRequest .front [0x0E020000#32, 0x00000001#32] = none := by decide

/-- SPINDLE and WINDOW: kind codes 10h and 11h on the disk port, the value in bits 7–0. -/
theorem test_disk_state_words :
    decodeRequest .disk [0x10010003#32] = some (.spindle 3) ∧ decodeRequest .disk [0x11010001#32] = some (.window 1) ∧
    decodeRequest .flash [0x10010003#32] = none := by decide

/-- The frames that R169 names as not well formed: a ROUTE on the disk port, a kind never used, a DONE of 3 words. -/
theorem test_malformed_frames :
    frameWords .disk (halvesOf [0x01030105#32, 0#32, 8#32]) = none ∧
    frameWords .front (halvesOf [0x7F010000#32]) = none ∧
    frameWords .front (halvesOf [0x02030000#32, 0#32, 0#32]) = none := by decide

/-- A word is sent low half first (R169). -/
theorem test_low_half_first : wordsOf [0x0105#16, 0x0103#16] = [0x01030105#32] := by decide

/-- A route answer with two pieces: kind 81h, length 6, code OK, tag; piece count and forced_wake; for each piece the
media in bits 31–30, the sector count in bits 24–16, the slot, and then the first LBA. -/
theorem test_route_answer_words :
    (Outbound.routeAnswer .ok 5 true [⟨.flash 2, 1792, 8⟩, ⟨.disk, 1800, 248⟩]).words =
      [0x81060005#32, 0x00000201#32, 0x00080002#32, 0x00000700#32, 0x40F80000#32, 0x00000708#32] := by decide

/-- Answers: DONE 82h with UNKNOWN_TAG 08h; BAD_FRAME FFh with code 06h and the received kind. -/
theorem test_answer_words :
    (Outbound.doneAnswer .unknownTag 31).words = [0x8201081F#32] ∧
    (Outbound.badFrame 0x7F).words = [0xFF01067F#32] ∧
    (Outbound.answer 0x0B .ok [1000#32, 1000#32]).words = [0x8B030000#32, 1000#32, 1000#32] := by decide

/-- Orders and slot records. -/
theorem test_order_words :
    (Outbound.writeSlot 0xABCD 3 2 7 0xF#32).words = [0x4004ABCD#32, 0x03000007#32, 2#32, 0xF#32] ∧
    (Outbound.writeExtent 1 0 7 0x3#32).words = [0x49030001#32, 0x00000007#32, 0x3#32] ∧
    (Outbound.retireSlot 2).words = [0x42020000#32, 2#32] ∧
    (Outbound.trimMark 2 1#32).words = [0x45030000#32, 2#32, 1#32] ∧
    (Outbound.spinUpDemand .fill).words = [0x4A010003#32] := by decide

/-- Notices. -/
theorem test_notice_words :
    (Outbound.lost 7 0x3#32).words = [0x51030000#32, 7#32, 3#32] ∧ (Outbound.drained 4).words = [0x52020000#32, 4#32] ∧
    (Outbound.claimGranted 7).words = [0x53020000#32, 7#32] := by decide

/-! ### Witnesses: for each statement with hypotheses, states and operands that meet them, clause by clause -/

theorem witness_StepRunsTheCommandAtTheFrontOfTheQueue :
    { serving with pending := [.startEvent, .powerOn] }.pending = Instr.startEvent :: [.powerOn] ∧
    serving.pending = [] := by decide

theorem witness_RestartLeavesThePowerOnStateAndItsAnswer :
    Taken (asking .restart serving) .front .restart ∧ Taken (filled .front 15 (asking .restart State.reset)) .front .restart := by
  decide

theorem witness_AFrameJoinsItsFifoOrIsDiscarded :
    let three : State := { serving with disk := { serving.disk with fifo := List.replicate 3 (.malformed 0) } }
    let four : State := { serving with disk := { serving.disk with fifo := List.replicate 4 (.malformed 0) } }
    ((three.link .disk).fifo.length < 4 ∧
      frameWords .disk [0x0002#16, 0x1001#16] = some [0x10010002#32]) ∧
    ((three.link .disk).fifo.length < 4 ∧ frameWords .disk [0x0002#16] = none) ∧
    4 ≤ (four.link .disk).fifo.length := by decide

theorem witness_AReadTakesTheHeadOfTheQueue :
    let s := filled .front 16 (filled .flash 1 (filled .disk 1 (serving.enter dirtySeven)))
    (∀ p ∈ [Port.front, .flash, .disk],
      (s.link p).out = .spinDownAdvice :: (s.link p).out.tail ∧ s.owedGrant p = none) ∧
    (s.drainedOwed = none ∧ (∀ r ∈ s.records, r.owed = .absent) ∧ s.flashOwed = [] ∧ s.diskOwed = []) ∧
    (∀ p ∈ [Port.front, .flash, .disk], (serving.link p).out = []) := by decide

theorem witness_AReadGivesItsPlaceToTheFirstOwedRecord :
    let s := filled .front 16 (filled .flash 16 (filled .disk 16 serving))
    let rs := List.replicate 15 Outbound.spinDownAdvice
    (∀ p ∈ [Port.front, .flash, .disk], (s.link p).out = .spinDownAdvice :: rs) ∧ rs.length < 16 ∧
    (∀ p ∈ [Port.front, .flash, .disk],
      let t := claiming 1 7 (.owned p true) [] (claiming 0 6 (.owned p false) [] s)
      t.claims[(1 : Fin 8)] = some { extent := 7, standing := .owned p true, waiters := [] } ∧
        ∀ j : Fin 8, j < 1 → ∀ d ∈ t.claims[j], d.standing ≠ .owned p true) ∧
    (∀ p ∈ [Port.front, .flash, .disk], s.owedGrant p = none) ∧
    (∀ x ∈ [{ dirtySeven with owed := OwedNotice.stuck }, { dirtySeven with owed := .lost 1#32 }],
      (s.enter x).drainedOwed = none ∧ (s.enter x).records.find? (fun y => y.owed != .absent) = some x) ∧
    (s.setContext 3 (.marking 2 0x3#32)).contexts[(3 : Fin 4)] = .marking 2 0x3#32 ∧
    ((filling .writing false .pending s).contexts[(3 : Fin 4)] = .fill (fillSeven .writing false .pending) ∧
      (fillSeven .writing false .pending).validate ≠ 0#32) ∧
    ((flushing .reading .pending s).contexts[(3 : Fin 4)] = .flush (flushSeven .reading .pending) ∧
      0x3#32 &&& (flushing .reading .pending s).dirtyOf 7 ≠ 0#32) ∧
    ((filling .reading true .pending s).contexts[(3 : Fin 4)] = .fill (fillSeven .reading true .pending)) ∧
    ((flushing .writing .pending s).contexts[(3 : Fin 4)] = .flush (flushSeven .writing .pending) ∧
      (flushSeven .writing .pending).carried &&& (flushing .writing .pending s).dirtyOf 7 ≠ 0#32) := by decide

/-- Pending orders whose set has become {}: each first in its port's turn, alone or before another record, no claim being
pending for the port. -/
theorem witness_AnOrderLeftEmptyGivesItsPlaceUp :
    let bare (phase : Phase) (s : State) := s.setContext 3 (.fill { fillSeven phase true .pending with validate := 0#32 })
    let spent (phase : Phase) (s : State) :=
      s.setContext 3 (.flush { flushSeven phase .pending with work := 0x4#32, carried := 0x4#32 })
    let flash := filled .flash 16 { serving with flashOwed := [.order 3, .retire 9] }
    let disk := filled .disk 16 { serving with diskOwed := [.order 3, .advice] }
    (flash.flashOwed = .order 3 :: .retire 9 :: [] ∧ disk.diskOwed = .order 3 :: .advice :: [] ∧
      { flash with flashOwed := [.order 3] }.flashOwed = .order 3 :: [] ∧
      { disk with diskOwed := [.order 3] }.diskOwed = .order 3 :: []) ∧
    (∀ s ∈ [flash, disk], s.owedGrant .flash = none ∧ s.owedGrant .disk = none ∧ ∀ i : Fin 8, s.claims[i] = none) ∧
    ((spent .reading (flash.enter dirtySeven)).dirtyOf 7 = 0x3#32 ∧ 0x4#32 &&& 0x3#32 = 0#32) ∧
    (∀ s ∈ [bare .writing flash, spent .reading (flash.enter dirtySeven)],
      (after (.recordRead .flash) s).flash.out.getLast? = some (.retireSlot 9)) ∧
    (∀ s ∈ [bare .reading disk, spent .writing (disk.enter dirtySeven)],
      (after (.recordRead .disk) s).disk.out.getLast? = some .spinDownAdvice) := by decide +kernel

theorem witness_AMalformedEntryIsAnsweredBadFrame :
    let bad : State := { serving with flash := { serving.flash with fifo := [.malformed 0] } }
    let unknown : State :=
      { serving with front := { serving.front with fifo := [.request [0x07050015#32, 1#32, 0#32, 0#32, 0#32]] } }
    (bad.arbiter = some .flash ∧ bad.headOf .flash = some (.entry (.malformed 0))) ∧
    (unknown.arbiter = some .front ∧
      unknown.headOf .front = some (.entry (.request [0x07050015#32, 1#32, 0#32, 0#32, 0#32])) ∧
      kindOf 0x07050015#32 = 0x07 ∧ decodeRequest .front [0x07050015#32, 1#32, 0#32, 0#32, 0#32] = none) ∧
    serving.arbiter ≠ some .front := by decide

/-- Requests taken with the last places free: a route at 15 and 14 records, a TRIM of two residents at 12 (whatever its
tag), a REPORT at 13; heads of every kind, and both answers of each need. -/
theorem witness_TheArbiterTakesTheFirstReadyPortWithRoom :
    let two := (serving.enter cleanSeven).enter (record 8 5 0xF#32 0#32 0#32)
    let q : Parked := { tag := 4, kind := .trim, lba := 1800, count := 256 }
    let head (p : Port) (x : FifoEntry) : State := serving.setLink p { serving.link p with fifo := [x] }
    (Taken (filled .front 15 (filled .flash 14 (asking (.route 1 0 1792 8) serving))) .front (.route 1 0 1792 8) ∧
      Taken (filled .flash 13 (asking (.report .flash 1 3 0) serving)) .flash (.report .flash 1 3 0)) ∧
    (∀ tag ∈ [1, 255], Taken (filled .flash 12 (asking (.route tag 2 1800 256) two)) .front (.route tag 2 1800 256) ∧
      (filled .flash 13 (asking (.route tag 2 1800 256) two)).offered .front (.route tag 2 1800 256) = none) ∧
    (1800 / 256 < (1800 + 256 - 1) / 256 ∧ two.residentOf (1800 / 256) ≠ none ∧ two.residentOf (1800 / 256 + 1) ≠ none) ∧
    ({ two with parked := [q] }.parked.find? (fun x => !{ two with parked := [q] }.routeParks x) = some q ∧
      (filled .flash 12 { two with parked := [q] }).ready .front = true ∧
      (filled .flash 13 { two with parked := [q] }).ready .front = false) ∧
    (serving.parked.find? (fun x => !serving.routeParks x) = none ∧ ∀ p ∈ [Port.front, .flash, .disk],
      serving.headOf p = none ∧ (head p (.malformed 0)).headOf p = some (.entry (.malformed 0)) ∧
        (head p (.malformed 0)).ready p = true) ∧
    (1 ≤ q.count ∧ q.count ≤ 256 ∧ q.kind = .trim ∧ parkedWrite.kind ≠ .trim ∧ serving.residentOf 7 = none) ∧
    (decodeRequest .front (asked (.route 255 2 1800 256)) = some (.route 255 2 1800 256) ∧
      decodeRequest .front (asked (.route 1 2 4294967295 2)) = some (.route 1 2 4294967295 2) ∧
      decodeRequest .flash (asked (.report .flash 1 3 0)) = some (.report .flash 1 3 0)) := by decide

theorem witness_ARequestWaitsOrLeavesItsFifo :
    (encodeRequest (.setDecay 9) = some (.front, asked (.setDecay 9)) ∧
      (filled .front 16 (asking (.setDecay 9) serving)).offered .front (.setDecay 9) = none) ∧
    (encodeRequest (.claim .disk 7) = some (.disk, asked (.claim .disk 7)) ∧ Instr.claim .disk 7 ≠ .restart ∧
      Taken (asking (.claim .disk 7) serving) .disk (.claim .disk 7)) := by decide

theorem witness_RequestsAreRefusedByTheServiceState :
    State.reset.service ≠ .serving ∧ adopting.service ≠ .serving ∧ State.reset.sizes = none ∧
    (∀ x ∈ [(Port.front, Instr.route 1 0 1792 8), (.front, .done 1 0), (.front, .claim .front 7),
        (.disk, .release .disk 7), (.front, .flushAll), (.front, .retryStuck), (.flash, .report .flash 1 3 0),
        (.disk, .report .disk 1 3 2), (.flash, .unfence 2), (.flash, .adopt 7 2 1#32 0#32 0#32), (.flash, .adoptEnd),
        (.front, .setPinLimit 1), (.front, .setAbsorbReserve 1), (.front, .setDirtyHigh 1), (.front, .setDirtyLow 1)],
      Taken (asking x.2 State.reset) x.1 x.2) ∧
    (adopting.service ≠ .cold ∧ Taken (asking (.geometry 256) adopting) .flash (.geometry 256)) := by decide

theorem witness_FieldsOutOfRangeAreAnsweredBadValue :
    serving.service = .serving ∧ State.reset.service = .cold ∧
    (∀ x ∈ [(Port.front, Instr.route 32 0 1792 8), (.front, .route 1 3 1792 8), (.front, .route 1 0 1792 0),
        (.front, .route 1 0 1792 257), (.front, .route 1 0 4294967295 2), (.front, .done 32 0), (.front, .done 1 2),
        (.flash, .claim .flash 16777216), (.disk, .release .disk 16777216), (.flash, .report .flash 1 4 0),
        (.disk, .report .disk 1 3 3), (.flash, .report .flash 1 3 2), (.disk, .spindle 4), (.disk, .window 2),
        (.front, .setProfile 2), (.front, .query 16777216)], Taken (asking x.2 serving) x.1 x.2) ∧
    Taken (asking (.geometry 255) State.reset) .flash (.geometry 255) := by decide

/-- A READ of one extent and one of two, from a resident extent with valid, lost and absent segments. -/
theorem witness_AReadIsRoutedFromTheMapAndChangesNoSegment :
    let s := serving.enter dirtySeven
    (Routable (asking (.route 31 0 1800 256) s) 31 0 1800 256 { tag := 31, kind := .read, lba := 1800, count := 256 } ∧
      (1800 + 256 - 1) / 256 ≠ 1800 / 256) ∧
    (Routable (asking (.route 0 0 1799 1) s) 0 0 1799 1 { tag := 0, kind := .read, lba := 1799, count := 1 } ∧
      (1799 + 1 - 1) / 256 = 1799 / 256) ∧
    (s.residentOf (1800 / 256) = some dirtySeven ∧ s.residentOf (1800 / 256 + 1) = none) ∧
    (dirtySeven.valid.getLsbD (1800 % 256 / 8) = true ∧ dirtySeven.lost.getLsbD (1831 % 256 / 8) = true ∧
      dirtySeven.valid.getLsbD (1832 % 256 / 8) = false ∧ dirtySeven.lost.getLsbD (1832 % 256 / 8) = false) := by
  decide

theorem witness_AWriteChoosesTheMediaOfEachResidentSegment :
    dirtySeven.LostApart ∧ (⟨7, 255, 256⟩ : Span).lo < (⟨7, 255, 256⟩ : Span).hi :=
  ⟨by unfold Resident.LostApart; decide, by decide⟩

/-- A WRITE of one resident extent with a FILL in flight on it, one of two residents of which the clean one becomes dirty,
and one after which the last record is still clean. -/
theorem witness_AWriteToAResidentExtentDirtiesItsFlashSegments :
    let w := Instr.route 31 1 1792 256
    let one := asking w (filling .reading false (.placed 0 20) serving)
    let both := Instr.route 31 1 2040 16
    let two := asking both ((serving.enter dirtySeven).enter (record 8 5 0xF#32 0#32 0#32))
    let half := Instr.route 31 1 2044 8
    let still := asking half ((serving.enter cleanSeven).enter (record 8 5 0xE#32 0#32 0#32))
    (Routable one 31 1 1792 256 { tag := 31, kind := .write, lba := 1792, count := 256 } ∧
      ⟨7, 0, 256⟩ ∈ routeSpans 1792 256 ∧ (one.residentOf 7).isSome = true ∧
      one.contexts[(3 : Fin 4)].extentInMove = some 7) ∧
    (Routable two 31 1 2040 16 { tag := 31, kind := .write, lba := 2040, count := 16 } ∧
      routeSpans 2040 16 = [⟨7, 248, 256⟩, ⟨8, 0, 8⟩] ∧ two.dirtyList = [7] ∧
      (∀ sp ∈ routeSpans 2040 16, ∃ r ∈ two.residentOf sp.extent, sp.extent ∈ two.dirtyList ↔ r.dirty ≠ 0#32)) ∧
    (Routable still 31 1 2044 8 { tag := 31, kind := .write, lba := 2044, count := 8 } ∧
      (∀ sp ∈ routeSpans 2044 8, still.residentOf sp.extent ≠ none) ∧
      ((routeSpans 2044 8).map (·.extent)).filter (fun e =>
        ((after half still).residentOf e).any fun u => u.cleanBand == some .b1) = [7, 8]) ∧
    (fillSeven .reading true .pending).extent = 7 ∧ (flushSeven .reading .pending).extent = 7 ∧
    Context.idle.extentInMove ≠ some 7 := by decide

/-- An absorb into a free slot, of an unknown extent, of a watched one, and under PIN with the spindle UP. -/
theorem witness_AnAbsorbTakesTheLowestFreeSlotOrForcesAWake :
    let c := Instr.route 31 1 2304 8
    let q : Parked := { tag := 31, kind := .write, lba := 2304, count := 8 }
    let owing : State := { serving with flashOwed := [.retire 3], spindle := .falling }
    let pin : State :=
      { spinning owing with
        windows := serving.windows.set 0 { base := 9, mask := 16777215, policy := .pin, enable := true } }
    routeSpans 2304 8 = [⟨9, 0, 8⟩] ∧ (⟨9, 0, 8⟩ : Span).full ≠ 0#32 ∧
    (∀ s ∈ [asking c owing, asking c (watching owing), asking c pin],
      Routable s 31 1 2304 8 q ∧ s.residentOf 9 = none ∧ s.free.find? (fun m => !s.retireOwed m) = some 5) ∧
    (owing.spindle ≠ .up ∧ owing.policyOf 9 ≠ .bypass ∧ owing.watchOf 9 = none ∧
      (watching owing).watchOf 9 = (watching owing).watch.head? ∧ pin.policyOf 9 = .pin ∧
      pin.pinnedCount < pin.pinLimit) := by decide

/-- An absorb beside a resident extent, and two absorbs, the second of a watched extent. -/
theorem witness_AnAbsorbOfARouteOfTwoExtents :
    let c := Instr.route 31 1 2296 16
    let q : Parked := { tag := 31, kind := .write, lba := 2296, count := 16 }
    let a : Span := ⟨8, 248, 256⟩
    let b : Span := ⟨9, 0, 8⟩
    let mixed := asking c (watching (serving.enter (record 8 2 0xF#32 0#32 0#32)))
    let two := asking c (watching serving)
    routeSpans 2296 16 = [a, b] ∧ a ≠ b ∧ a.full ≠ 0#32 ∧ b.full ≠ 0#32 ∧
    (Routable mixed 31 1 2296 16 q ∧ mixed.residentOf 9 = none ∧ mixed.residentOf 8 ≠ none ∧ mixed.spindle ≠ .up ∧
      mixed.policyOf 9 ≠ .bypass ∧ mixed.free.find? (fun m => !mixed.retireOwed m) = some 3 ∧
      ((mixed.examineRoute q).watchOf 9).isSome = true) ∧
    (Routable two 31 1 2296 16 q ∧ two.residentOf 8 = none ∧ two.residentOf 9 = none ∧ two.spindle ≠ .up ∧
      two.policyOf 8 ≠ .bypass ∧ two.policyOf 9 ≠ .bypass ∧
      two.free.filter (fun k => !two.retireOwed k) = 3 :: 5 :: [9, 255] ∧
      ((two.examineRoute q).watchOf 8).isSome = true ∧ ((two.examineRoute q).watchOf 9).isSome = true ∧
      8 ∉ two.dirtyList ∧ 9 ∉ two.dirtyList) := by decide

/-- An absorb that evicts a victim, with and without a record owed before its RETIRE_SLOT and with heat left or none; and
absorbs of one extent and of two that find no victim: the clean record is held, the pinned one claimed. -/
theorem witness_AnAbsorbWithoutAFreeSlot :
    let c := Instr.route 31 1 2304 8
    let q : Parked := { tag := 31, kind := .write, lba := 2304, count := 8 }
    let full (r : Resident) : State := { watching (serving.enter r) with free := [] }
    let cold : Resident := { cleanSeven with heat := { heat := 0, band := .b0, settle := 0, stamp := 0 } }
    let two := Instr.route 31 1 2296 16
    let kept := (serving.enter cleanSeven).enter { record 6 1 0xF#32 0#32 0#32 with pinned := true }
    let none' : State :=
      { claiming 0 6 (.owned .front false) [] (routing .read 7 0#32 false (watching kept)) with free := [] }
    (∀ r ∈ [cleanSeven, cold], ∀ os ∈ [[], [FlashOwed.retire 200]],
      let s := asking c { full r with flashOwed := os }
      Routable s 31 1 2304 8 q ∧ s.residentOf 9 = none ∧ s.spindle ≠ .up ∧ s.policyOf 9 ≠ .bypass ∧
        s.free.find? (fun m => !s.retireOwed m) = none ∧ ((s.examineRoute q).victim [9] (some .b3)).1 = some 7 ∧
        ((s.examineRoute q).victim [9] (some .b3)).2.residentOf 7 = some r ∧ s.watch.length + 2 ≤ 4096 ∧
        s.watchOf 7 = none) ∧
    (cleanSeven.heat.heat ≠ 0 ∧ cold.heat.heat = 0) ∧
    (none'.spindle ≠ .up ∧ none'.policyOf 8 ≠ .bypass ∧ none'.policyOf 9 ≠ .bypass ∧
      none'.free.find? (fun m => !none'.retireOwed m) = none ∧
      (∀ b ∈ [Band.b0, .b1, .b2, .b3], ∀ x ∈ none'.clean.get b, none'.held x = true) ∧
      none'.clean.get .b1 = [7] ∧
      (∀ x ∈ none'.records, x.isPinnedClean = true → x.extent = 6) ∧ none'.claimed 6 = true ∧
      none'.pinnedCleanCount = 1 ∧ none'.residentOf 8 = none ∧ none'.residentOf 9 = none) ∧
    Routable (asking c none') 31 1 2304 8 q ∧
    (Routable (asking two none') 31 1 2296 16 { tag := 31, kind := .write, lba := 2296, count := 16 } ∧
      routeSpans 2296 16 = [⟨8, 248, 256⟩, ⟨9, 0, 8⟩] ∧ (⟨8, 248, 256⟩ : Span).full ≠ 0#32) := by decide +kernel

/-- TRIMs of part of a record, of all of one, of two records that both become empty, of one with a FILL in flight and with
a record owed to the flash port. -/
theorem witness_ATrimTakesItsSegmentsOutOfTheMap :
    let some' := serving.enter dirtySeven
    let whole := serving.enter cleanSeven
    let two := (serving.enter (record 7 5 0x80000000#32 0#32 0#32)).enter (record 8 2 1#32 1#32 0#32)
    let move := { filling .reading false (.placed 0 20) serving with flashOwed := [.retire 9] }
    (Routable (asking (.route 31 2 1792 8) some') 31 2 1792 8 { tag := 31, kind := .trim, lba := 1792, count := 8 } ∧
      routeSpans 1792 8 = [⟨7, 0, 8⟩] ∧ some'.residentOf 7 = some dirtySeven ∧
      segLess dirtySeven.valid (⟨7, 0, 8⟩ : Span).full ≠ 0#32) ∧
    (Routable (asking (.route 31 2 1792 32) whole) 31 2 1792 32
        { tag := 31, kind := .trim, lba := 1792, count := 32 } ∧
      routeSpans 1792 32 = [⟨7, 0, 32⟩] ∧ whole.residentOf 7 = some cleanSeven ∧
      segLess cleanSeven.valid (⟨7, 0, 32⟩ : Span).full = 0#32 ∧
      segLess cleanSeven.lost (⟨7, 0, 32⟩ : Span).full = 0#32 ∧ cleanSeven.state = .resident ∧
      whole.held 7 = false ∧ whole.flashOwed = []) ∧
    (Routable (asking (.route 31 2 2040 16) two) 31 2 2040 16
        { tag := 31, kind := .trim, lba := 2040, count := 16 } ∧
      routeSpans 2040 16 = [⟨7, 248, 256⟩, ⟨8, 0, 8⟩] ∧ two.held 7 = false ∧ two.held 8 = false ∧
      segLess 0x80000000#32 (⟨7, 248, 256⟩ : Span).full = 0#32 ∧ segLess 1#32 (⟨8, 0, 8⟩ : Span).full = 0#32) ∧
    (Routable (asking (.route 31 2 1792 8) move) 31 2 1792 8 { tag := 31, kind := .trim, lba := 1792, count := 8 } ∧
      move.contexts[(3 : Fin 4)].extentInMove = some 7 ∧ move.residentOf 7 ≠ none ∧ move.flashOwed ≠ []) := by decide

/-- A TRIM of two records that both become empty, in tables that stand in ascending order. -/
theorem witness_ATrimRetiresInSlotOrder :
    let two := (serving.enter (record 7 5 0x80000000#32 0#32 0#32)).enter (record 8 2 1#32 1#32 0#32)
    two.Ascending ∧ two.flashOwed = [] ∧ { two with flashOwed := [.retire 9] }.flashOwed ≠ [] :=
  ⟨⟨by decide, by decide, by decide, by decide⟩, by decide, by decide⟩

/-- TRIMs of a watched extent, whole and in part, and of one that is not known. -/
theorem witness_ATrimOfAnExtentThatIsNotResident :
    let s := watching serving
    (∀ n ∈ [8, 256], Routable (asking (.route 31 2 2304 n) s) 31 2 2304 n
        { tag := 31, kind := .trim, lba := 2304, count := n } ∧ routeSpans 2304 n = [⟨9, 0, n⟩]) ∧
    (s.residentOf 9 = none ∧ s.watchOf 9 = s.watch.head? ∧ s.watchOf 9 ≠ none ∧ s.watch.length < 4096) ∧
    ((⟨9, 0, 8⟩ : Span).full ≠ SegSet.all ∧ (⟨9, 0, 256⟩ : Span).full = SegSet.all) ∧
    (Routable (asking (.route 31 2 1792 256) s) 31 2 1792 256
        { tag := 31, kind := .trim, lba := 1792, count := 256 } ∧ s.residentOf 7 = none ∧ s.watchOf 7 = none) ∧
    (fillSeven .reading false .pending).extent = 7 ∧ Context.idle.extentInMove ≠ some 7 := by decide

theorem witness_ARouteIsRefusedItsTagOrParked :
    let q : Parked := { tag := 1, kind := .read, lba := 1792, count := 8 }
    let claimed := claiming 0 7 (.owned .disk false) [] serving
    let r := Instr.route 1 0 1792 8
    validRoute 1 0 1792 8 = some q ∧ serving.service = .serving ∧
    (Taken (asking r (routing .read 7 0#32 true serving)) .front r ∧
      (routing .read 7 0#32 true serving).tagInUse 1 = true) ∧
    (Taken (asking r { claimed with parked := List.replicate 7 parkedWrite }) .front r ∧
      { claimed with parked := List.replicate 7 parkedWrite }.tagInUse 1 = false ∧ claimed.routeParks q = true) ∧
    (Taken (asking r { claimed with parked := List.replicate 8 parkedWrite }) .front r ∧
      8 ≤ { claimed with parked := List.replicate 8 parkedWrite }.parked.length) := by decide

theorem witness_TheOldestReadmissibleRouteIsRouted :
    let claimed := claiming 0 8 (.owned .disk false) [] serving
    let shut : Parked := { tag := 5, kind := .read, lba := 2048, count := 1 }
    (∀ kind ∈ [RouteKind.read, .write, .trim],
      let q : Parked := { parkedWrite with kind := kind }
      let s : State := { claimed with parked := [shut, q] }
      s.arbiter = some .front ∧ s.parked.find? (fun x => !s.routeParks x) = some q ∧ s.service = .serving) ∧
    (∀ kind ∈ [0, 1, 2], ∃ q ∈ validRoute 31 kind 1800 256,
      Routable (asking (.route 31 kind 1800 256) serving) 31 kind 1800 256 q) ∧
    (serving.arbiter ≠ some .front ∨ serving.parked.find? (fun x => !serving.routeParks x) = none) := by decide

theorem witness_AnAnswersPiecesCoverTheRouteExactlyOnce :
    ∀ x ∈ [(1797, 1), (1797, 256), (4294967295, 1)],
      1 ≤ x.2 ∧ x.2 ≤ 256 ∧
        ((routeSpans x.1 x.2).map fun sp => sp.readDecision dirtySeven).map (fun d => d.span) =
          routeSpans x.1 x.2 := by decide

theorem witness_ADoneEndsTheRouteAndItsHolds :
    let read := routing .read 7 0#32 true (serving.enter dirtySeven)
    let empty := routing .read 7 0#32 true (serving.enter (record 7 2 0#32 0#32 0#32))
    let write := routing .write 7 0x3#32 false (serving.enter dirtySeven)
    (Taken (asking (.done 1 0) read) .front (.done 1 0) ∧ read.service = .serving ∧
      read.routes.find? (fun y => y.tag == 1) = read.routes.head? ∧
      (∀ x ∈ read.routes, ∀ e ∈ x.extents, ∀ r ∈ read.residentOf e, r.isEmpty = false)) ∧
    (Taken (asking (.done 1 0) empty) .front (.done 1 0) ∧
      (∀ x ∈ empty.routes.find? (fun y => y.tag == 1), x.second = none ∧ x.first = 7) ∧
      empty.residentOf 7 = some (record 7 2 0#32 0#32 0#32) ∧ (record 7 2 0#32 0#32 0#32).isEmpty = true ∧
      (∀ y ∈ empty.routes, y.tag ≠ 1 → y.touches 7 = false) ∧ empty.flashOwed = []) ∧
    (Taken (asking (.done 1 1) write) .front (.done 1 1) ∧
      (∀ x ∈ write.routes.find? (fun y => y.tag == 1), x.kind = .write ∧ x.second = none ∧
        write.residentOf x.first = some dirtySeven ∧ x.firstFlash &&& dirtySeven.valid ≠ 0#32)) ∧
    (Taken (asking (.done 1 1) read) .front (.done 1 1) ∧
      ∀ x ∈ read.routes.find? (fun y => y.tag == 1), x.kind ≠ .write) ∧
    (Taken (asking (.done 31 1) read) .front (.done 31 1) ∧
      read.routes.find? (fun y => y.tag == 31) = none) := by decide

/-- The ends of a route of two extents: two empty records in descending extents and ascending slots, and a failed WRITE of
which the second extent's set is partly gone from valid. -/
theorem witness_ADoneOfTwoExtents :
    let entry (kind : RouteKind) : RouteEntry :=
      { tag := 1, kind := kind, first := 7, firstFlash := 0x3#32, second := some (8, 0xFFFFFFFF#32), disk := false }
    let empty := asking (.done 1 0)
      { (serving.enter (record 7 5 0#32 0#32 0#32)).enter (record 8 2 0#32 0#32 0#32) with routes := [entry .read] }
    let write := asking (.done 1 1)
      { (serving.enter dirtySeven).enter (record 8 5 0xF#32 0x1#32 0#32) with routes := [entry .write] }
    (Taken empty .front (.done 1 0) ∧ empty.routes.find? (fun y => y.tag == 1) = some (entry .read) ∧ 8 ≠ (entry .read).first ∧
      (∀ y ∈ empty.routes, y.tag ≠ 1 → y.touches 7 = false ∧ y.touches 8 = false) ∧
      empty.residentOf 7 = some (record 7 5 0#32 0#32 0#32) ∧ empty.residentOf 8 = some (record 8 2 0#32 0#32 0#32) ∧
      8 ∈ (entry .read).extents ∧ empty.flashOwed = []) ∧ empty.Ascending ∧
    (Taken write .front (.done 1 1) ∧ write.routes.find? (fun y => y.tag == 1) = some (entry .write) ∧
      (∀ x ∈ (entry .write).second, x.1 ≠ (entry .write).first) ∧ write.residentOf 8 = some (record 8 5 0xF#32 0x1#32 0#32) ∧
      0xFFFFFFFF#32 &&& 0xF#32 ≠ 0#32) := by
  refine ⟨by decide, ⟨by decide, by decide, by decide, by decide⟩, by decide⟩

theorem witness_AClaimTakesAFreeEntryOrJoinsTheWaiters :
    let c := Instr.claim .flash 16777215
    let one := claiming 0 7 (.owned .disk false) [] serving
    let hers := claiming 1 16777215 (.owned .disk false) [.front] one
    let held := routing .read 16777215 0#32 true one
    one.service = .serving ∧
    (Taken (asking c one) .flash c ∧ (∀ j : Fin 8, ∀ d ∈ one.claims[j], d.extent ≠ 16777215) ∧
      one.claims[(1 : Fin 8)] = none ∧ (∀ j : Fin 8, j < 1 → one.claims[j] ≠ none) ∧
      one.quiescent .flash 16777215 = true) ∧
    (Taken (asking c held) .flash c ∧ held.quiescent .flash 16777215 = false) ∧
    (Taken (asking c (claimsFull serving)) .flash c ∧
      ∀ j : Fin 8, ∃ d ∈ (claimsFull serving).claims[j], d.extent ≠ 16777215) ∧
    (∃ i : Fin 8, ∃ d ∈ hers.claims[i], d.extent = 16777215 ∧
      (∀ j : Fin 8, j < i → ∀ x ∈ hers.claims[j], x.extent ≠ 16777215) ∧
      (Taken (asking (.claim .front 16777215) hers) .front (.claim .front 16777215) ∧ Port.front ∈ d.waiters) ∧
      (Taken (asking (.claim .disk 16777215) hers) .disk (.claim .disk 16777215) ∧ d.standing.port = .disk) ∧
      (Taken (asking c hers) .flash c ∧ d.standing.port ≠ .flash ∧ Port.flash ∉ d.waiters)) := by
  refine ⟨by decide, by decide, by decide, by decide, 1, _, rfl, by decide⟩

theorem witness_AReleaseFreesTheEntryOrPassesItOn :
    let r := Instr.release .disk 7
    let alone := claiming 2 7 (.owned .disk false) [] serving
    let waited := claiming 2 7 (.owned .disk true) [.front, .flash] serving
    let waits := claiming 2 7 (.owned .front false) [.disk] serving
    let full := filled .front 16 waited
    let moving := filling .reading false .pending waited
    serving.service = .serving ∧
    (Taken (asking r serving) .disk r ∧
      ∀ j : Fin 8, ∀ d ∈ serving.claims[j], d.extent = 7 → d.standing.port ≠ .disk ∧ Port.disk ∉ d.waiters) ∧
    (Taken (asking r alone) .disk r ∧ ∀ j : Fin 8, j ≠ 2 → ∀ d ∈ alone.claims[j], d.extent ≠ 7) ∧
    (Taken (asking r waits) .disk r ∧
      waits.claims[(2 : Fin 8)] = some { extent := 7, standing := .owned .front false, waiters := [.disk] }) ∧
    (Taken (asking r waited) .disk r ∧ waited.quiescent .front 7 = true ∧ (waited.link .front).out.length < 16) ∧
    (Taken (asking r full) .disk r ∧ full.quiescent .front 7 = true ∧ 16 ≤ (full.link .front).out.length) ∧
    (Taken (asking r moving) .disk r ∧ moving.quiescent .front 7 = false) := by decide

theorem witness_ASetOfOneNumberIsClampedWrittenAndAnswered :
    Band.b3.rank = max 1 (min 9 3) ∧ Band.b1.rank = max 1 (min 0 3) ∧
    ∀ v ∈ [0, 4294967295], ∀ c ∈ [Instr.setEpochLen v, .setDecay v, .setSettle v, .setPromoteBand v, .setWRread v,
      .setWRwrite v, .setWSread v, .setWSwrite v, .setWakeBonus v, .setSeqRun v, .setOrderTimeout v],
      Taken (asking c serving) .front c := by decide

theorem witness_SetBandsAndSetWindowWriteAllTheirFieldsOrNone :
    (max 1 (min 0 65535) < max 1 (min 2 65535) ∧ max 1 (min 2 65535) < max 1 (min 65536 65535) ∧
      ¬ (max 1 (min 0 65535) < max 1 (min 1 65535) ∧ max 1 (min 1 65535) < max 1 (min 3 65535)) ∧
      3 = Policy.bypass.value) ∧
    ∀ c ∈ [Instr.setBands 0 2 65536, .setBands 0 1 3, .setWindow 7 16777216 16777215 3 true,
      .setWindow 8 0 0 0 true, .setWindow 0 0 0 4 true], Taken (asking c serving) .front c := by decide

theorem witness_SetsOfSAndOfTheSchedulerActInTheirEvent :
    serving.sizes = some { slots := 256, pinLimit := 64, absorbReserve := 2, dirtyHigh := 64, dirtyLow := 32 } ∧
    1 = Profile.battery.value ∧
    ∀ v ∈ [0, 1], ∀ c ∈ [Instr.setPinLimit v, .setAbsorbReserve v, .setDirtyHigh v, .setDirtyLow v,
      .setAdviceDelay v, .setFillWake v, .setProfile v],
      Taken (asking c serving) .front c ∧ Taken (asking c adopting) .front c := by decide

theorem witness_ADemandIsProducedOwedOrDropped :
    let u : State := { serving with urgent := true }
    serving.demandHolds .dirtyCeiling = false ∧
    ((spinning u).demandHolds .dirtyCeiling = true ∧ (spinning u).spindle = .up) ∧
    (u.demandHolds .dirtyCeiling = true ∧ u.spindle ≠ .up ∧ u.demands.get .dirtyCeiling = false ∧
      (filled .disk 15 u).disk.out.length < 16 ∧ u.diskOwed = []) ∧
    ((filled .disk 16 u).demandHolds .dirtyCeiling = true ∧ 16 ≤ (filled .disk 16 u).disk.out.length) := by decide

/-- Grants, a drain that ends (its DRAINED placed, or owed behind a full queue) and one that goes on, and demands with room
and without. -/
theorem witness_AnEventEndsWithGrantsTheDrainAndUrgentMode :
    let s := claiming 1 6 (.pending .disk) [] (claiming 0 7 (.pending .disk) [] (filling .reading true .pending serving))
    let ends : State := { s with drain := true, demands := { s.demands with drain := true } }
    let on := { serving.enter { dirtySeven with drainMark := true } with drain := true }
    let urgent : State := { ends with dirtyList := List.range 64 }
    adopting.service ≠ .serving ∧ s.service = .serving ∧
    (s.claims[(1 : Fin 8)] = some { extent := 6, standing := .pending .disk, waiters := [] } ∧
      s.quiescent .disk 6 = true) ∧
    s.quiescent .disk 7 = false ∧ s.claims[(2 : Fin 8)] = none ∧
    (ends.drain = true ∧ ends.finish.drain = false ∧ (filled .front 16 ends).finish.drain = false) ∧
    (s.drain = false ∧ on.finish.drain = true) ∧
    (urgent.finish.demandHolds .dirtyCeiling = true ∧ urgent.finish.demandHolds .drain = false ∧ urgent.spindle ≠ .up ∧
      urgent.stats.spinUpDemands ≤ 4294967295 ∧ urgent.diskOwed = [] ∧ (filled .disk 12 urgent).disk.out.length + 1 + 3 ≤ 16 ∧
      16 ≤ (filled .disk 16 urgent).disk.out.length) := by decide +kernel

/-- A claim that waits for a hold of one extent, and a drain whose last record, of another, a TRIM cleans. -/
def waiting : State :=
  { claiming 0 6 (.pending .disk) [.front] (routing .read 6 0#32 false
      (serving.enter { dirtySeven with drainMark := true })) with
    drain := true, demands := { dirtyCeiling := false, drain := true, fill := false }, pending := [.startEvent] }

theorem witness_waiting_concluded : waiting.Concluded :=
  concluded_of _ (by decide) (by decide +kernel) (by decide) (by decide) (by decide) (by decide) (by decide)

theorem witness_waiting_records : waiting.RecordsLawful ∧ waiting.ListsFiled :=
  lawfulAndFiled_of _ { dirtySeven with drainMark := true } (by decide) (by decide) (by decide) (by decide)
    (fun b => by cases b <;> decide) (by decide) (by decide) (by decide) (by decide) (by decide)

theorem witness_waiting_moves : waiting.MovesMatched :=
  movesMatched_of _ (by decide +kernel) (by decide +kernel) (by decide +kernel)

/-- A step from the waiting state; a grant by the DONE of its hold; the end of its drain by the TRIM of what is dirty; and a
demand by the FLUSH_ALL that begins one. -/
theorem witness_EveryStepLeavesItsEventConcluded :
    (waiting.SettingsInRange ∧ waiting.Concluded ∧ (waiting.RecordsLawful ∧ waiting.ListsFiled) ∧ waiting.MovesMatched ∧
      ∃ t, step waiting = .next t) ∧
    (∃ x ∈ waiting.claims[(0 : Fin 8)], x.standing = .pending .disk ∧
      ∃ y ∈ (taken (.done 1 0) waiting).claims[(0 : Fin 8)], y.standing = .owned .disk false) ∧
    (waiting.drain = true ∧ (taken (.route 2 2 1792 16) waiting).drain = false) ∧
    (let s := serving.enter dirtySeven;
      s.demands.get .drain = false ∧ (taken .flushAll s).demands.get .drain = true) :=
  ⟨⟨settingsInRange_of _ rfl rfl rfl, witness_waiting_concluded, witness_waiting_records, witness_waiting_moves, _, rfl⟩,
    by decide +kernel, by decide +kernel, by decide +kernel⟩

theorem witness_QueriesAndStatsReportWhatStands :
    (∀ c ∈ [Instr.query 0, .query 16777215, .querySummary, .stats true, .stats false],
      Taken (asking c serving) .front c ∧ Taken (asking c State.reset) .front c) ∧
    State.reset.service ≠ .serving ∧ (serving.enter dirtySeven).residentOf 7 = some dirtySeven ∧
    ((watching serving).residentOf 9 = none ∧ (watching serving).watchOf 9 = (watching serving).watch.head?) ∧
    (serving.residentOf 9 = none ∧ serving.watchOf 9 = none) ∧ 9 ∉ serving.promo ∧
    (watching serving).promo = [] ++ 9 :: [] := by decide

theorem witness_GeometryFixesTheSlotsAndAdoptEndBeginsService :
    State.reset.service = .cold ∧ Taken (asking (.geometry 256) State.reset) .flash (.geometry 256) ∧
    Taken (asking (.geometry 65537) State.reset) .flash (.geometry 65537) ∧ adopting.service = .adopting ∧
    Taken (asking .adoptEnd adopting) .flash .adoptEnd := by decide

theorem witness_AnAdoptCreatesTheRecordItNames :
    adopting.service = .adopting ∧ adopting.slots = 256 ∧
    (∀ c ∈ [Instr.adopt 16777215 255 0x3#32 0x1#32 0x4#32, .adopt 16777216 255 0x3#32 0x1#32 0x4#32,
      .adopt 7 256 0x3#32 0x1#32 0x4#32, .adopt 7 2 0x1#32 0x3#32 0x4#32, .adopt 7 2 0x5#32 0x1#32 0x4#32,
      .adopt 7 2 0#32 0#32 0#32], Taken (asking c adopting) .flash c) ∧
    (segLess 0x1#32 0x3#32 = 0#32 ∧ 0x3#32 &&& 0x4#32 = 0#32) ∧
    ((∃ r ∈ (adopting.enter dirtySeven).records, r.extent = 7 ∨ r.slot = 255) ∧
      Taken (asking (.adopt 7 255 0x3#32 0x1#32 0x4#32) (adopting.enter dirtySeven)) .flash
        (.adopt 7 255 0x3#32 0x1#32 0x4#32)) ∧
    (∀ r ∈ (adopting.enter dirtySeven).records, r.extent ≠ 16777215 ∧ r.slot ≠ 255) := by decide

theorem witness_AStaleReportLiftsOnlyTheFenceOfItsTicket :
    let fenced : State := { serving with fences := [{ slot := 2, ticket := 65535 }] }
    serving.service = .serving ∧
    (Taken (asking (.report .disk 65535 3 2) fenced) .disk (.report .disk 65535 3 2) ∧
      (∀ c : Fin 4, fenced.contexts[c].placed = none)) ∧
    (Taken (asking (.report .flash 65534 3 1) fenced) .flash (.report .flash 65534 3 1) ∧
      ∀ f ∈ fenced.fences, f.ticket ≠ 65534) ∧
    (Taken (asking (.report .flash 65535 3 1) fenced) .flash (.report .flash 65535 3 1) ∧
      fenced.fences.find? (fun x => x.ticket == 65535) = fenced.fences.head? ∧ fenced.flashOwed = []) ∧
    { fenced with flashOwed := [.retire 9] }.flashOwed ≠ [] := by decide

theorem witness_AFirstOrdersReportPlacesTheSecond :
    let fill := filling .reading true (.placed 65535 20) serving
    let bare := fill.setContext 3 (.fill { fillSeven .reading true (.placed 65535 20) with validate := 0#32 })
    let flush := flushing .reading (.placed 65535 20) serving
    serving.service = .serving ∧
    (Taken (asking (.report .disk 65535 3 0) (filled .flash 15 fill)) .disk (.report .disk 65535 3 0) ∧
      fill.contexts[(3 : Fin 4)] = .fill (fillSeven .reading true (.placed 65535 20)) ∧
      (fillSeven .reading true (.placed 65535 20)).validate ≠ 0#32 ∧ (filled .flash 15 fill).flash.out.length < 16 ∧
      fill.flashOwed = []) ∧
    (Taken (asking (.report .disk 65535 3 0) (filled .flash 16 fill)) .disk (.report .disk 65535 3 0) ∧
      16 ≤ (filled .flash 16 fill).flash.out.length) ∧
    Taken (asking (.report .disk 65535 3 0) bare) .disk (.report .disk 65535 3 0) ∧
    (Taken (asking (.report .flash 65535 3 0) (filled .disk 15 flush)) .flash (.report .flash 65535 3 0) ∧
      flush.contexts[(3 : Fin 4)] = .flush (flushSeven .reading (.placed 65535 20)) ∧
      flush.residentOf 7 = some { dirtySeven with state := .flushing } ∧
      (flushSeven .reading (.placed 65535 20)).carried &&& dirtySeven.dirty ≠ 0#32 ∧
      (filled .disk 15 flush).disk.out.length < 16 ∧ flush.diskOwed = []) ∧
    (Taken (asking (.report .flash 65535 3 0) (filled .disk 16 flush)) .flash (.report .flash 65535 3 0) ∧
      16 ≤ (filled .disk 16 flush).disk.out.length ∧ { flush with diskOwed := [.advice] }.diskOwed ≠ []) := by decide

theorem witness_AMoveCompletesAtItsSecondReport :
    let fill := filling .writing true (.placed 65535 20) serving
    let bare := fill.setContext 3 (.fill { fillSeven .writing true (.placed 65535 20) with validate := 0#32 })
    let flush := flushing .writing (.placed 65535 20) serving
    let rewritten :=
      flush.setContext 3 (.flush { flushSeven .writing (.placed 65535 20) with redirtied := 0x3#32 })
    (Taken (asking (.report .flash 65535 3 0) fill) .flash (.report .flash 65535 3 0) ∧ fill.service = .serving ∧
      fill.contexts[(3 : Fin 4)] = .fill (fillSeven .writing true (.placed 65535 20)) ∧
      (∃ r ∈ fill.residentOf 7, r.valid ||| (fillSeven .writing true (.placed 65535 20)).validate ≠ 0#32)) ∧
    (Taken (asking (.report .flash 65535 3 0) bare) .flash (.report .flash 65535 3 0) ∧
      (∃ r ∈ bare.residentOf 7, r.valid = 0#32 ∧ r.lost = 0#32) ∧ bare.held 7 = false) ∧
    (Taken (asking (.report .disk 65535 3 0) flush) .disk (.report .disk 65535 3 0) ∧
      flush.contexts[(3 : Fin 4)] = .flush (flushSeven .writing (.placed 65535 20)) ∧
      flush.residentOf 7 = some { dirtySeven with state := .flushing } ∧ dirtySeven.isEmpty = false ∧
      segLess 0x3#32 0#32 &&& dirtySeven.dirty ≠ 0#32 ∧ flush.flashOwed = [] ∧ flush.flash.out.length < 16) ∧
    (Taken (asking (.report .disk 65535 3 0) (filled .flash 16 flush)) .disk (.report .disk 65535 3 0)) ∧
    (Taken (asking (.report .disk 65535 3 0) rewritten) .disk (.report .disk 65535 3 0) ∧
      segLess 0x3#32 0x3#32 &&& dirtySeven.dirty = 0#32) := by decide

theorem witness_AFailedReportAbortsTheMove :
    let twice := (serving.enter { dirtySeven with state := .flushing, retries := 2 }).setContext 3
      (.flush (flushSeven .writing (.placed 65535 20)))
    let reading := flushing .reading (.placed 65535 20) serving
    let fresh := filling .writing true (.placed 65535 20) serving
    let partial' := filling .reading false (.placed 65535 20) serving
    (Taken (asking (.report .disk 65535 3 1) (filled .front 15 twice)) .disk (.report .disk 65535 3 1) ∧
      twice.service = .serving ∧ twice.residentOf 7 = some { dirtySeven with state := .flushing, retries := 2 } ∧
      twice.contexts[(3 : Fin 4)] = .flush (flushSeven .writing (.placed 65535 20)) ∧ dirtySeven.dirty ≠ 0#32 ∧
      (filled .front 15 twice).front.out.length < 16) ∧
    (Taken (asking (.report .disk 65535 3 1) (filled .front 16 twice)) .disk (.report .disk 65535 3 1) ∧
      dirtySeven.owed = .absent) ∧
    (∀ n ∈ [15, 16],
      Taken (asking (.report .flash 65535 3 1) (filled .front n reading)) .flash (.report .flash 65535 3 1)) ∧
    (reading.contexts[(3 : Fin 4)] = .flush (flushSeven .reading (.placed 65535 20)) ∧
      segLess 0x3#32 0#32 &&& dirtySeven.dirty ≠ 0#32 ∧ reading.fences = []) ∧
    (Taken (asking (.report .flash 65535 3 1) fresh) .flash (.report .flash 65535 3 1) ∧
      (fillSeven .writing true (.placed 65535 20)).orderPort = .flash ∧ (fresh.residentOf 7).isSome = true ∧
      fresh.fences = []) ∧
    (Taken (asking (.report .disk 65535 3 1) partial') .disk (.report .disk 65535 3 1) ∧
      (fillSeven .reading false (.placed 65535 20)).orderPort = .disk ∧
      ∃ r ∈ partial'.residentOf 7, r.isEmpty = false ∧ r.valid ||| r.lost ≠ SegSet.all) ∧
    (Taken (asking (.report .disk 65535 3 2) partial') .disk (.report .disk 65535 3 2) ∧
      partial'.contexts[(3 : Fin 4)] = .fill (fillSeven .reading false (.placed 65535 20))) := by decide

/-- NOT_SPINNING of a fresh FILL whose heat has or has not decayed away, with the flash port's place free or not, and of a
FLUSH in WRITING. -/
theorem witness_ANotSpinningReportAbortsTheMove :
    let c := Instr.report .disk 65535 3 2
    let fresh := filling .reading true (.placed 65535 20) serving
    let flush := flushing .writing (.placed 65535 20) serving
    (∀ s ∈ [fresh, filled .flash 16 fresh, { fresh with flashOwed := [.retire 9] }, { fresh with epoch := 65 }],
      Taken (asking c s) .disk c ∧ s.contexts[(3 : Fin 4)] = .fill (fillSeven .reading true (.placed 65535 20)) ∧
        s.watch.length < 4096 ∧ s.watchOf 7 = none) ∧
    (∃ r ∈ fresh.residentOf 7, (r.heat.caughtUp fresh.settings 0).heat ≠ 0 ∧
      (r.heat.caughtUp fresh.settings 65).heat = 0) ∧
    (Taken (asking c flush) .disk c ∧ flush.contexts[(3 : Fin 4)] = .flush (flushSeven .writing (.placed 65535 20)) ∧
      flush.residentOf 7 = some { dirtySeven with state := .flushing } ∧ dirtySeven.isEmpty = false ∧
      dirtySeven.dirty ≠ 0#32 ∧ dirtySeven.stuck = false ∧ 7 ∈ flush.dirtyList) := by decide

theorem witness_AnUnfenceLiftsTheFenceOfItsSlot :
    let fenced : State := { serving with fences := [{ slot := 255, ticket := 0 }] }
    (∀ n ∈ [254, 255, 256], Taken (asking (.unfence n) fenced) .flash (.unfence n)) ∧ fenced.slots ≤ 256 ∧
    254 < fenced.slots ∧ (∀ f ∈ fenced.fences, f.slot ≠ 254) ∧ (∃ f ∈ fenced.fences, f.slot = 255) ∧
    (adopting.service ≠ .serving ∧ Taken (asking (.unfence 255) adopting) .flash (.unfence 255)) := by decide

theorem witness_AnOrderTimerExpiryEndsTheMove :
    serving.contexts[(3 : Fin 4)].placed = none ∧
    (∀ ph ∈ [Phase.reading, .writing],
      let fill := filling ph true (.placed 0 20) serving
      let partial' := filling ph false (.placed 0 20) serving
      let flush := flushing ph (.placed 0 20) serving
      (fill.contexts[(3 : Fin 4)] = .fill (fillSeven ph true (.placed 0 20)) ∧ (fill.residentOf 7).isSome = true ∧
        fill.watch.length < 4096 ∧ fill.watchOf 7 = none ∧ fill.flash.out.length < 16 ∧ fill.flashOwed = [] ∧
        16 ≤ (filled .flash 16 fill).flash.out.length) ∧
      (partial'.contexts[(3 : Fin 4)] = .fill (fillSeven ph false (.placed 0 20)) ∧
        ∃ r ∈ partial'.residentOf 7, r.isEmpty = false ∧ r.valid ||| r.lost ≠ SegSet.all) ∧
      (flush.contexts[(3 : Fin 4)] = .flush (flushSeven ph (.placed 0 20)) ∧
        flush.residentOf 7 = some { dirtySeven with state := .flushing } ∧ dirtySeven.dirty ≠ 0#32 ∧
        dirtySeven.isEmpty = false)) ∧
    (({ heat := 32, band := .b1, settle := 0, stamp := 0 } : Heat).caughtUp serving.settings 65).heat = 0 := by decide

theorem witness_AStartEventStartsTheEligibleFlush :
    let s := spinning (serving.enter dirtySeven)
    let busy := (((s.setContext 0 (.marking 9 1#32)).setContext 1 (.marking 9 1#32)).setContext 2 (.marking 9 1#32))
    (serving.eligibleFlush = none ∧ serving.eligibleFill = none) ∧
    (∀ c : Fin 4, (busy.setContext 3 (.marking 9 1#32)).contexts[c] ≠ .idle) ∧
    (busy.contexts[(3 : Fin 4)] = .idle ∧ (∀ d : Fin 4, d < 3 → busy.contexts[d] ≠ .idle) ∧
      busy.eligibleFlush = some 7 ∧ busy.residentOf 7 = some dirtySeven ∧ busy.eligibleFill = none ∧
      dirtySeven.dirty ≠ 0#32 ∧ (filled .flash 15 busy).flash.out.length < 16 ∧ busy.flashOwed = []) ∧
    ((filled .flash 16 busy).eligibleFlush = some 7 ∧ 16 ≤ (filled .flash 16 busy).flash.out.length) := by decide

theorem witness_AStartEventStartsTheEligibleFill :
    let s := { spinning (serving.enter cleanSeven) with promo := [7], lastKind := .flush }
    let t := { spinning (watching serving) with drain := true }
    (s.contexts[(0 : Fin 4)] = .idle ∧ s.eligibleFill = some 7 ∧ s.residentOf 7 = some cleanSeven ∧
      s.eligibleFlush = none ∧ cleanSeven.valid ||| cleanSeven.lost ≠ SegSet.all ∧
      (filled .disk 15 s).disk.out.length < 16 ∧ s.diskOwed = []) ∧
    ((filled .disk 16 s).eligibleFill = some 7 ∧ 16 ≤ (filled .disk 16 s).disk.out.length ∧
      ({ t with diskOwed := [.advice] } : State).eligibleFill = some 9) ∧
    (t.contexts[(0 : Fin 4)] = .idle ∧ t.eligibleFill = some 9 ∧ t.residentOf 9 = none ∧
      t.watchOf 9 = t.watch.head? ∧ t.eligibleFlush = none ∧ t.absorbReserve < t.free.length ∧
      t.free.head? = some 3 ∧ (filled .disk 15 t).disk.out.length < 16 ∧ t.diskOwed = []) := by decide

/-- A clean record of B1, and a candidate of B2 at the reserve. -/
def displacing : State := { spinning (watching (serving.enter cleanSeven)) with free := [5, 9] }

/-- At the reserve: a candidate of B2 displaces the record of B1, whose slot joins the free pool. -/
theorem witness_AFillDisplacesAVictim :
    let s := displacing
    s.contexts[(0 : Fin 4)] = .idle ∧ s.eligibleFill = some 9 ∧ s.residentOf 9 = none ∧
    s.watchOf 9 = s.watch.head? ∧ s.eligibleFlush = none ∧ s.free.length = s.absorbReserve ∧ s.watch.length < 4096 ∧
    (filled .flash 15 s).flash.out.length < 16 ∧ s.flashOwed = [] ∧
    (∃ x ∈ s.watchOf 9, ((s.passingCatchUp 9).victim [] (x.heat.caughtUp s.settings s.epoch).band.below).1 = some 7 ∧
      ((s.passingCatchUp 9).victim [] (x.heat.caughtUp s.settings s.epoch).band.below).2.residentOf 7 = some cleanSeven) ∧
    (insertBy id cleanSeven.slot s.free).head? = some 2 := by decide +kernel

/-- The victim's removal by a start event, from a state whose lists are filed. -/
theorem witness_AStartEventRemovesARecord :
    displacing.ListsFiled ∧ (∃ t, exec .startEvent displacing = .next t) ∧
    displacing.residentOf 7 = some cleanSeven ∧ (after .startEvent displacing).residentOf 7 = none := by
  refine ⟨⟨by decide, by decide, fun e => ?_, fun b => by cases b <;> decide, fun b e => ?_⟩, ⟨_, rfl⟩, by decide, by decide +kernel⟩
  · have h : displacing.dirtyList = [] ∧ displacing.records = [cleanSeven] ∧ cleanSeven.dirty = 0#32 := by decide
    simp [h.1, h.2.1, h.2.2]
  · have h : displacing.records = [cleanSeven] ∧ cleanSeven.cleanBand = some .b1 ∧ cleanSeven.extent = 7 := by decide
    have g : displacing.clean.get b = if b = .b1 then [7] else [] := by cases b <;> decide
    rw [g, h.1]
    cases b <;> simp [h.2.1, h.2.2, eq_comm]

/-- At the reserve a candidate whose band decays in its catch-up gets no slot; after it a partial resident is next, or the
eligible flush is, or nothing. -/
theorem witness_AFailedAttemptPassesToTheNextEntry :
    let s := { spinning (watching (serving.enter cleanSeven)) with free := [5, 9], epoch := 65 }
    let next := { s with promo := [9, 7] }
    let flush := { (serving.enter (record 8 1 0xF#32 0x1#32 0#32)) with
      spindle := .up, promo := s.promo, watch := s.watch, touch := s.touch, free := [5, 9], epoch := 65
      records := [record 8 1 0xF#32 0x1#32 0#32, cleanSeven], clean := s.clean, lastKind := .flush }
    let fresh : State := { s with
      watch := s.watch ++ [{ place := 1, extent := 10, heat := { heat := 500, band := .b2, settle := 0, stamp := 65 } }]
      touch := [9, 10], promo := [9, 10] }
    (∀ u ∈ [s, next, flush, fresh], u.contexts[(0 : Fin 4)] = .idle ∧ u.eligibleFill = some 9 ∧ u.residentOf 9 = none ∧
      (u.fillSlot 9).1 = none) ∧
    (next.eligibleFlush = none ∧ next.promo = [] ++ 9 :: [7] ∧
      ((next.fillSlot 9).2.promo.filter fun x => x ≠ 9).find? (fun x => (next.fillSlot 9).2.fillable x) = some 7 ∧
      ∃ r ∈ (next.fillSlot 9).2.residentOf 7, r.valid ||| r.lost ≠ SegSet.all) ∧
    (fresh.eligibleFlush = none ∧ fresh.promo = [] ++ 9 :: [10] ∧
      ((fresh.fillSlot 9).2.promo.filter fun x => x ≠ 9).find? (fun x => (fresh.fillSlot 9).2.fillable x) = some 10 ∧
      (fresh.fillSlot 9).2.residentOf 10 = none ∧ ((fresh.fillSlot 9).2.fillSlot 10).1 = some 2) ∧
    (flush.drain = false ∧ flush.promo = [] ++ 9 :: [] ∧
      ((flush.fillSlot 9).2.promo.filter fun x => x ≠ 9).find? (fun x => (flush.fillSlot 9).2.fillable x) = none ∧
      (flush.fillSlot 9).2.eligibleFlush = some 8 ∧
      (flush.fillSlot 9).2.residentOf 8 = some (record 8 1 0xF#32 0x1#32 0#32)) ∧
    (s.eligibleFlush = none ∧ (s.fillSlot 9).2.eligibleFlush = none ∧
      ((s.fillSlot 9).2.promo.filter fun x => x ≠ 9).find? (fun x => (s.fillSlot 9).2.fillable x) = none) := by decide +kernel

theorem witness_AFlushAllMarksEveryDirtyRecord :
    let s := serving.enter dirtySeven
    let stuck := serving.enter { dirtySeven with stuck := true, retries := 3 }
    s.service = .serving ∧
    (∀ t ∈ [{ s with drain := true }, { s with drainedOwed := some 0 }],
      Taken (asking .flushAll t) .front .flushAll ∧ (t.drain = true ∨ t.drainedOwed ≠ none)) ∧
    (Taken (asking .flushAll s) .front .flushAll ∧ s.drain = false ∧ s.drainedOwed = none ∧ s.records = [dirtySeven] ∧
      dirtySeven.stuck = false) ∧
    (Taken (asking .flushAll (filled .front 14 stuck)) .front .flushAll ∧ (∀ r ∈ stuck.records, r.stuck = true) ∧
      (filled .front 14 stuck).front.out.length + 2 ≤ 16) ∧
    (Taken (asking .flushAll (filled .front 15 stuck)) .front .flushAll ∧
      16 < (filled .front 15 stuck).front.out.length + 2) := by decide

theorem witness_ARetryStuckFreesEveryStuckRecord :
    let stuck := serving.enter { dirtySeven with stuck := true, retries := 3, owed := .stuck }
    (Taken (asking .retryStuck State.reset) .front .retryStuck ∧ State.reset.service ≠ .serving) ∧
    (Taken (asking .retryStuck stuck) .front .retryStuck ∧ stuck.service = .serving ∧
      (∃ r ∈ stuck.records, r.stuck = true ∧ r.owed = .stuck ∧ stuck.residentOf r.extent = some r ∧
        r.state = .resident ∧ stuck.claimed r.extent = false)) := by decide

theorem witness_ASpindleReportTurnsTheUpPeriod :
    (∀ x ∈ [Spindle.down, .rising, .up, .falling], ∀ s ∈ [State.reset, serving, spinning serving],
      Taken (asking (.spindle x.value) s) .disk (.spindle x.value)) ∧
    (∀ x ∈ [BgWindow.opened, .closed], Taken (asking (.window x.value) serving) .disk (.window x.value)) ∧
    State.reset.service ≠ .serving ∧ serving.spindle ≠ .up ∧ (spinning serving).spindle = .up := by decide

theorem witness_AnAdviceTimerExpirySendsTheAdviceOrRearms :
    let s : State := { spinning serving with adviceTimer := some 50 }
    serving.adviceTimer = none ∧ s.adviceTimer = some 50 ∧
    ((∀ c : Fin 4, s.contexts[c].orderPort ≠ some .disk) ∧ (∀ x ∈ s.routes, x.disk = false) ∧ s.urgent = false ∧
      s.drain = false ∧ s.eligibleFlush = none ∧ s.promo = [] ∧ (filled .disk 15 s).disk.out.length < 16 ∧
      s.diskOwed = []) ∧
    16 ≤ (filled .disk 16 s).disk.out.length ∧
    (({ s with urgent := true } : State).urgent = true ∧ s.service = .serving ∧ s.spindle = .up ∧
      s.adviceSent = false ∧ s.settings.adviceDelay ≠ 0) := by decide

theorem witness_AnEpochExpiryVisitsTheNext64Places :
    let s := { watching (serving.enter dirtySeven) with cursor := 4351 }
    State.reset.epochTimer = none ∧ (s.epochTimer = some 255 ∧ s.WithinCapacity) ∧
    (2 < s.slots ∧ s.residentIn 2 = some dirtySeven) ∧
    (s.slots ≤ 256 ∧ s.watch.find? (fun w => w.place == 256 - s.slots) = s.watch.head?) ∧
    (255 < s.slots ∧ s.residentIn 255 = none) ∧
    (s.slots ≤ 257 ∧ s.watch.find? (fun w => w.place == 257 - s.slots) = none) := by
  refine ⟨by decide, ⟨by decide, ?_⟩, by decide⟩
  exact withinCapacity_of _ (by decide) (by decide) (by decide) (by decide) (by decide) (by decide)

theorem witness_AFrontLinkResetEndsRoutesDrainAndFrontClaims :
    let s := claiming 0 7 (.owned .front false) [.disk] (routing .read 7 0#32 true
      ((serving.enter dirtySeven).enter (record 8 5 0#32 0#32 0#32)))
    s.WithinCapacity ∧
    (s.residentOf 8 = some (record 8 5 0#32 0#32 0#32) ∧ (record 8 5 0#32 0#32 0#32).isEmpty = true) ∧
    (s.residentOf 7 = some dirtySeven ∧ dirtySeven.isEmpty = false) := by
  refine ⟨?_, by decide⟩
  exact withinCapacity_of _ (by decide) (by decide) (by decide) (by decide) (by decide) (by decide)

/-- A Claim Table with every kind of entry a link reset meets, for each port: owned by another, pending for another, its own
with waiters and without, and empty; extent 7 is held. -/
theorem witness_ALinkResetLeavesTheClaimTable :
    ∀ p ∈ [Port.front, .flash, .disk],
      let q := portAfter p
      let s := claiming 0 9 (.owned q true) [p] (claiming 1 7 (.pending q) [p] (claiming 2 8 (.pending q) []
        (claiming 3 7 (.owned p false) [q, portAfter q] (claiming 4 10 (.pending p) [] (routing .read 7 0#32 false serving)))))
      s.service = .serving ∧ s.claims[(5 : Fin 8)] = none ∧
      s.claims[(0 : Fin 8)] = some { extent := 9, standing := .owned q true, waiters := [p] } ∧
      s.claims[(1 : Fin 8)] = some { extent := 7, standing := .pending q, waiters := [p] } ∧ q ≠ p ∧
      s.claims[(3 : Fin 8)] = some { extent := 7, standing := .owned p false, waiters := [q, portAfter q] } ∧
      s.claims[(4 : Fin 8)] = some { extent := 10, standing := .pending p, waiters := [] } := by decide

/-- Those entries after a disk link reset: granted where no hold stands in the way, pending where one does. -/
theorem test_disk_reset_passes_claims_on :
    let s := claiming 0 9 (.owned .disk false) [.flash, .front] (claiming 1 7 (.owned .disk false) [.flash]
      (claiming 2 8 (.owned .flash true) [.disk] (routing .read 7 0#32 false serving)))
    let t := after .diskLinkReset s
    t.claims[(0 : Fin 8)] = some { extent := 9, standing := .owned .flash false, waiters := [.front] } ∧
    t.claims[(1 : Fin 8)] = some { extent := 7, standing := .pending .flash, waiters := [] } ∧
    t.claims[(2 : Fin 8)] = some { extent := 8, standing := .owned .flash true, waiters := [] } ∧
    t.flash.out = [.claimGranted 9] := by decide +kernel

theorem witness_AFlashLinkResetActsByServiceState :
    let s := { (flushing .reading (.placed 0 20) serving).setContext 1 (.marking 9 1#32) with
      fences := [{ slot := 8, ticket := 1 }] }
    State.reset.service = .cold ∧ adopting.service = .adopting ∧
    (s.service = .serving ∧ s.WithinCapacity ∧ s.contexts[(3 : Fin 4)].orderPort = some .flash ∧
      s.contexts[(1 : Fin 4)] = .marking 9 1#32) ∧
    (filling .reading true (.placed 0 20) serving).contexts[(3 : Fin 4)].orderPort = some .disk := by
  refine ⟨by decide, by decide, ⟨by decide, ?_, by decide⟩, by decide⟩
  exact withinCapacity_of _ (by decide) (by decide) (by decide) (by decide) (by decide) (by decide)

/-- For the phase each link reset ends: a fresh FILL with heat left and with none, a partial one and a FLUSH, each matched
by its record. -/
theorem witness_ALinkResetEndsMatchedMoves :
    ∀ x ∈ [(Phase.writing, Phase.reading), (.reading, .writing)],
      let fresh := filling x.1 true (.placed 0 20) serving
      let partial' := filling x.1 false (.placed 0 20) serving
      let flush := flushing x.2 (.placed 0 20) serving
      (fresh.MovesMatched ∧ fresh.watch.length + 4 ≤ 4096 ∧ fresh.watchOf 7 = none ∧
        ∃ r ∈ fresh.residentOf 7, (r.heat.caughtUp fresh.settings 0).heat ≠ 0 ∧
          (r.heat.caughtUp fresh.settings 65).heat = 0) ∧
      (partial'.MovesMatched ∧ ∃ r ∈ partial'.residentOf 7, r.isEmpty = false ∧ r.valid ||| r.lost ≠ SegSet.all) ∧
      (flush.MovesMatched ∧ flush.dirtyList = [7] ∧
        ∃ r ∈ flush.residentOf 7, r.isEmpty = false ∧ r.dirty ≠ 0#32 ∧ r.stuck = false) := by
  intro x hx
  rcases (by simpa using hx : x = (.writing, .reading) ∨ x = (.reading, .writing)) with rfl | rfl <;>
    refine ⟨⟨movesMatched_of _ ?_ ?_ ?_, ?_⟩, ⟨movesMatched_of _ ?_ ?_ ?_, ?_⟩, movesMatched_of _ ?_ ?_ ?_, ?_⟩ <;>
    decide +kernel

theorem witness_AFlushInAMoveIsFiled (phase : Phase) :
    (flushing phase (.placed 0 20) serving).RecordsLawful ∧ (flushing phase (.placed 0 20) serving).ListsFiled := by
  cases phase <;>
    exact lawfulAndFiled_of _ { dirtySeven with state := .flushing } (by decide) (by decide) (by decide) (by decide)
      (fun b => by cases b <;> decide) (by decide) (by decide) (by decide) (by decide) (by decide)

theorem witness_ADiskLinkResetReconsidersTheDemands :
    let s := { flushing .writing (.placed 0 20) serving with urgent := true }
    State.reset.service ≠ .serving ∧
    (s.service = .serving ∧ s.WithinCapacity ∧ s.contexts[(3 : Fin 4)].orderPort = some .disk ∧
      s.contexts[(0 : Fin 4)].orderPort ≠ some .disk) := by
  refine ⟨by decide, by decide, ?_, by decide⟩
  exact withinCapacity_of _ (by decide) (by decide) (by decide) (by decide) (by decide) (by decide)

theorem witness_AnEpochStepDecaysTheHeat :
    let s : State := { serving with epoch := 10 }
    (1 ≤ ({ heat := 65535, band := .b3, settle := 0, stamp := 0 } : Heat).heat) ∧
    ((s.enter { dirtySeven with heat := { heat := 65535, band := .b3, settle := 0, stamp := 65482 } }).residentOf 7 =
        some { dirtySeven with heat := { heat := 65535, band := .b3, settle := 0, stamp := 65482 } } ∧
      (65482 + 64) % 65536 = s.epoch) := by decide

theorem witness_AnEpochStepSettlesTheBand :
    let h : Heat := { heat := 32, band := .b1, settle := 0, stamp := 65535 }
    let g := Settings.defaults
    (g.rawBand (h.epochStep g).heat ≠ h.band ∧ h.settle + 1 < g.settle) ∧
    (g.rawBand ({ h with settle := 1 }.epochStep g).heat ≠ h.band ∧ g.settle ≤ { h with settle := 1 }.settle + 1) ∧
    g.rawBand ({ h with heat := 100 }.epochStep g).heat = h.band ∧
    (¬ h.stamp ≤ 63 ∧ 63 + 65536 - h.stamp ≤ 64) ∧ (¬ h.stamp ≤ 64 ∧ 64 < 64 + 65536 - h.stamp) := by decide

theorem witness_AnExaminationBringsARecordUpToDate :
    let s := serving.enter { dirtySeven with heat := { heat := 500, band := .b2, settle := 0, stamp := 0 } }
    let full : State := { s with promo := List.replicate 64 9 }
    (∀ t ∈ [s, { s with promo := [7] }, full], t.residentOf 7 = s.residentOf 7) ∧ (s.residentOf 7).isSome = true ∧
    dirtySeven.valid ||| dirtySeven.lost ≠ SegSet.all ∧ s.settings.promoteBand.rank ≤ Band.b2.rank ∧
    7 ∉ s.promo ∧ s.promo.length < 64 ∧ 7 ∉ full.promo ∧ 64 ≤ full.promo.length := by decide

/-- Clean records that keep their list, join one at the head, and join it at the tail out of the pinned set; watch entries
that are candidates, on the queue or not, with room or none, and one that is not a candidate. -/
theorem witness_AnExaminationFilesCleanRecordsAndWatchEntries :
    let s := serving.enter cleanSeven
    let moved : State := { s with epoch := 65 }
    let unpinned := serving.enter { cleanSeven with pinned := true }
    let w := watching serving
    let full : State := { w with promo := List.replicate 64 7 }
    (s.residentOf 7 = some cleanSeven ∧ 7 ∈ s.clean.b1 ∧ (cleanSeven.heat.caughtUp s.settings s.epoch).band = .b1) ∧
    (moved.residentOf 7 = some cleanSeven ∧ 7 ∉ moved.clean.b0 ∧ cleanSeven.pinned = false ∧
      (cleanSeven.heat.caughtUp moved.settings moved.epoch).band = .b0) ∧
    (unpinned.residentOf 7 = some { cleanSeven with pinned := true } ∧ 7 ∉ unpinned.clean.b1 ∧
      unpinned.policyOf 7 = .normal) ∧
    (∀ t ∈ [w, { w with promo := [] }, full, { w with epoch := 65 }],
      t.watchOf 9 = w.watch.head? ∧ t.residentOf 9 = none ∧ t.policyOf 9 = .normal) ∧
    (∃ x ∈ w.watchOf 9, w.settings.promoteBand.rank ≤ (x.heat.caughtUp w.settings w.epoch).band.rank ∧
      ¬ w.settings.promoteBand.rank ≤ (x.heat.caughtUp w.settings 65).band.rank) ∧
    (9 ∈ w.promo ∧ 9 ∉ full.promo ∧ 64 ≤ full.promo.length ∧ w.residentOf 5 = none ∧ w.watchOf 5 = none) := by decide

theorem witness_AReadOfAnUnknownExtentStartsItsHeat :
    let s := { serving with
      streams := (serving.streams.set 0 (some { next := 1792, run := 1020 })).set 1 (some { next := 0, run := 1 })
      streamUse := [1, 0] }
    let full := { s with
      streams := ((s.streams.set 2 (some { next := 1, run := 1 })).set 3 (some { next := 2, run := 2 }))
      streamUse := [3, 2, 1, 0] }
    (Routable (asking (.route 31 0 1792 256) s) 31 0 1792 256 { tag := 31, kind := .read, lba := 1792, count := 256 } ∧
      routeSpans 1792 256 = [⟨7, 0, 256⟩] ∧ s.residentOf 7 = none ∧ s.watchOf 7 = none ∧ s.watch.length < 4096) ∧
    (s.streamUse.find? (fun j => (s.streams[j].map (·.next)) == some 1792) = some 0) ∧
    ((∀ j ∈ s.streamUse, ∀ x ∈ s.streams[j], x.next ≠ 5) ∧ s.streams[(2 : Fin 4)] = none ∧
      (∀ j : Fin 4, j < 2 → s.streams[j] ≠ none)) ∧
    ((∀ j ∈ full.streamUse, ∀ x ∈ full.streams[j], x.next ≠ 5) ∧ (∀ j : Fin 4, full.streams[j] ≠ none) ∧
      full.streamUse.getLast? = some 0) := by decide

theorem witness_AnExtentTakesThePolicyOfItsFirstMatchingWindow :
    let s := { serving with
      windows := (serving.windows.set 0 { base := 8, mask := 0xFFFFF8, policy := .pin, enable := true }).set 7
        { base := 0, mask := 0, policy := .bypass, enable := true } }
    (s.windows[(0 : Fin 8)].enable = true ∧ 15 &&& 0xFFFFF8 = 8 &&& 0xFFFFF8) ∧
    (s.windows[(7 : Fin 8)].enable = true ∧ 16 &&& 0 = 0 &&& 0 ∧
      (∀ k : Fin 8, k < 7 → ¬ (s.windows[k].enable = true ∧ 16 &&& s.windows[k].mask =
        s.windows[k].base &&& s.windows[k].mask))) ∧
    (∀ n : Fin 8, ¬ (serving.windows[n].enable = true ∧ 16 &&& serving.windows[n].mask =
      serving.windows[n].base &&& serving.windows[n].mask)) ∧
    0xFFFFF8 = 16777216 - 2 ^ 3 := by decide

/-- A clean record on an allowed list is found; a held one before it is passed over; one whose catch-up moves it starts the
walk again; and with every listed record skipped the pin scan takes the first it unpins, or none is found. -/
theorem witness_AVictimIsNeverHeldClaimedOrExcluded :
    let s := (serving.enter (record 6 1 1#32 0#32 0#32)).enter cleanSeven
    let held := routing .read 6 0#32 false s
    let moved : State := { held with epoch := 65 }
    let pinned := serving.enter { cleanSeven with pinned := true }
    (s.victim [6] (some .b1)).1 = some 7 ∧
    (held.clean.get .b1 = [6] ++ 7 :: [] ∧ held.clean.get .b0 = [] ∧ held.held 6 = true ∧ held.held 7 = false ∧
      held.claimed 7 = false ∧ 7 ∉ ([] : List Nat) ∧ 7 ∈ (held.examine 0 7).clean.get .b1 ∧ Band.b1.rank ≤ Band.b1.rank) ∧
    7 ∉ (moved.examine 0 7).clean.get .b1 ∧
    (held.walk [] (bandsUpTo (some .b3)) (held.clean.size + 1)).1 = some 7 ∧
    ((∀ e ∈ held.clean.get .b1, held.held e = true ∨ held.claimed e = true ∨ e ∈ [7]) ∧ held.pinnedCleanCount = 0) ∧
    (pinned.clean = { b0 := [], b1 := [], b2 := [], b3 := [] } ∧
      pinned.records = [] ++ { cleanSeven with pinned := true } :: [] ∧
      ({ cleanSeven with pinned := true } : Resident).isPinnedClean = true ∧ pinned.held 7 = false ∧
      pinned.claimed 7 = false ∧ 7 ∈ (pinned.examineResident 0 { cleanSeven with pinned := true }).clean.get .b1) := by
  decide +kernel

/-- A safe state with a record, a move, a fence and a claim in it, and a command to run. -/
def occupied : State :=
  { claiming 0 7 (.owned .disk false) [.front] (filling .writing true (.placed 0 20) serving) with
    free := List.range 2 ++ (List.range 252).map (· + 4), fences := [{ slot := 3, ticket := 65535 }]
    pending := [.orderTimerExpiry 3, .flashLinkReset] }

theorem witness_occupied_slots : occupied.SlotsAccounted := by
  refine ⟨by decide +kernel, by decide, by decide, ?_⟩
  exact fun h => absurd (by decide) h

theorem witness_occupied_records : occupied.RecordsLawful := by
  refine ⟨?_, (fun w hw => nomatch hw), by decide, by decide, (fun e he => nomatch he)⟩
  have h : occupied.records = [{ record 7 2 0#32 0#32 0#32 with state := .filling }] := by decide
  intro r hr
  rw [h, List.mem_singleton] at hr
  subst hr
  exact ⟨by unfold Resident.DirtyValid; decide, by decide, by decide, by decide, by unfold Heat.InRange; decide⟩

theorem witness_occupied_lists : occupied.ListsFiled := by
  have h : occupied.dirtyList = [] ∧ occupied.records = [{ record 7 2 0#32 0#32 0#32 with state := .filling }] ∧
      (record 7 2 0#32 0#32 0#32).dirty = 0#32 := by decide
  refine ⟨by decide, by decide, fun e => ?_, fun b => by cases b <;> decide, fun b e => ?_⟩
  · simp [h.1, h.2.1, h.2.2]
  · have g : occupied.clean.get b = [] := by cases b <;> decide
    have k : ({ record 7 2 0#32 0#32 0#32 with state := .filling } : Resident).cleanBand = none := by decide
    simp [g, h.2.1, k]

theorem witness_occupied_heat : occupied.HeatOnce :=
  ⟨by decide, by decide, by decide, fun h => absurd (by decide) h⟩

theorem witness_occupied_moves : occupied.MovesMatched :=
  movesMatched_of _ (by decide +kernel) (by decide +kernel) (by decide +kernel)

theorem witness_occupied_concluded : occupied.Concluded :=
  concluded_of _ (by decide) (by decide) (by decide) (by decide) (by decide) (by decide) (by decide)

theorem witness_occupied_order : occupied.Ascending :=
  ⟨by decide +kernel, by decide, by decide, by decide⟩

/-- The hypotheses of the four statements about every step, met by a state that has records, a move and a fence. -/
theorem witness_StepKeeps : occupied.Safe ∧ ∃ t, step occupied = .next t := by
  refine ⟨⟨settingsInRange_of _ rfl rfl rfl, ?_, ?_, witness_occupied_records, witness_occupied_lists,
    witness_occupied_heat, witness_occupied_moves, witness_occupied_slots, witness_occupied_order, ?_,
    witness_occupied_concluded⟩, _, rfl⟩
  · exact withinCapacity_of _ (by decide) (by decide) (by decide) (by decide) (by decide) (by decide)
  · exact ⟨by decide, by decide, by decide, by decide, by decide, by decide, by decide, by decide, by decide,
      by decide, by decide, by decide, by decide⟩
  · unfold State.FencesFit
    decide

theorem witness_AnEncodedRequestDecodesToItself :
    ∀ c ∈ [Instr.route 255 255 4294967295 4294967295, .setWindow 255 4294967295 0 4294967295 true,
      .report .disk 65535 255 255, .adopt 4294967295 0 0#32 1#32 2#32, .querySummary, .adoptEnd],
      c.wellFormed = true ∧ (encodeRequest c).isSome = true := by decide

theorem witness_OnlyTheNamedCommandsChangeEachKindOfState :
    (∃ t, exec .querySummary (asking .querySummary serving) = .next t ∧ isSet .querySummary = false ∧
      isRouting .querySummary = false ∧ actsOnMap .querySummary = false) ∧
    (let s := (serving.enter dirtySeven).enter (record 8 5 0xF#32 0#32 0#32);
      (∃ t, exec .epochTimerExpiry s = .next t) ∧ actsOnMap .epochTimerExpiry = false ∧
        s.records.map (·.extent) = [7, 8] ∧ (s.records.map (·.extent)).Nodup) :=
  ⟨⟨_, rfl, by decide⟩, ⟨_, rfl⟩, by decide⟩

/-! ### One step each, against the spec's worked cases and tables -/

/-- The state of the example of section 4.5, at its start: extent 3 in slot 12, extent 4 watched, slot 40 free. -/
def transfer : State :=
  { (serving.enter (record 3 12 0x7FF00000#32 0x40000000#32 0#32)) with
    free := [40]
    watch := [{ place := 0, extent := 4, heat := { heat := 32, band := .b1, settle := 0, stamp := 0 } }], touch := [4] }

/-- Section 4.5, ROUTE tag 2: two pieces, the counters, and a rise of 16 + 24 in each extent's heat. -/
theorem test_route_read_splits_at_flash_and_disk :
    let t := taken (.route 2 0 1003 40) transfer
    t.front.out = [.routeAnswer .ok 2 false [⟨.flash 12, 1003, 13⟩, ⟨.disk, 1016, 27⟩]] ∧ t.stats.readFlash = 13 ∧
    t.stats.readDisk = 27 ∧ (t.watchOf 4).map (·.heat.heat) = some 72 := by decide

/-- Section 4.5, ROUTE tag 3: three pieces, slot 40 given to extent 4, and the records' sets. -/
theorem test_route_write_absorbs :
    let t := taken (.route 3 1 1003 40) transfer
    t.front.out =
      [.routeAnswer .ok 3 false [⟨.flash 12, 1003, 21⟩, ⟨.flash 40, 1024, 16⟩, ⟨.disk, 1040, 3⟩]] ∧
    t.segmentsOf 3 = some (12, .resident, 0xFFF00000#32, 0xE0000000#32, 0#32) ∧
    t.segmentsOf 4 = some (40, .resident, 0x3#32, 0x3#32, 0#32) ∧ t.dirtyList = [3, 4] ∧ t.stats.absorbed = 2 := by
  decide

/-- The state of section 4.5 after ROUTE tag 3. -/
def transferred : State :=
  { transfer with
    records := [record 3 12 0xFFF00000#32 0xE0000000#32 0#32, record 4 40 0x3#32 0x3#32 0#32]
    watch := [], touch := [], free := [], dirtyList := [3, 4]
    routes := [{ tag := 3, kind := .write, first := 3, firstFlash := 0xE0000000#32, second := some (4, 0x3#32),
                 disk := true }] }

/-- Section 4.5, DONE tag 3 FAILED: both LOST_MARKs, in extent order, and 5 segments counted. -/
theorem test_done_failed_loses_the_written_segments :
    let t := taken (.done 3 1) transferred
    t.flash.out = [.lostMark 12 0xE0000000#32, .lostMark 40 0x3#32] ∧ t.stats.lostSegments = 5 ∧
    t.segmentsOf 3 = some (12, .resident, 0x1FF00000#32, 0#32, 0xE0000000#32) ∧
    t.segmentsOf 4 = some (40, .resident, 0#32, 0#32, 0x3#32) ∧ t.dirtyList = [] ∧ t.routes = [] := by decide

/-- DONE OK of the same entry changes no segment set (R68). -/
theorem test_done_ok_confirms :
    let t := taken (.done 3 0) transferred
    t.records = transferred.records ∧ t.routes = [] ∧ t.front.out = [.doneAnswer .ok 3] := by decide

/-- Section 4.6: with every slot in use and one held record on B0, the absorb fails, forced_wake is yes, and the watch
entry keeps the weight 12. -/
theorem test_absorb_fails_and_forces_a_wake :
    let s := routing .read 500 0#32 false
      { (serving.enter { record 500 9 1#32 0#32 0#32 with
          heat := { heat := 0, band := .b0, settle := 0, stamp := 0 } }) with free := [] }
    let t := taken (.route 2 1 256000 64) s
    t.front.out = [.routeAnswer .ok 2 true [⟨.disk, 256000, 64⟩]] ∧ t.stats.forcedWakes = 1 ∧
    (t.watchOf 1000).map (·.heat.heat) = some 12 := by decide

/-- A TRIM of segments 0 and 1: they leave valid and dirty, TRIM_MARK names them, and the Dirty List entry goes (R61,
R63). -/
theorem test_trim_of_part_marks_what_left :
    let t := taken (.route 1 2 1792 16) (serving.enter dirtySeven)
    t.flash.out = [.trimMark 2 0x3#32] ∧ t.segmentsOf 7 = some (2, .resident, 0xC#32, 0#32, 0x10#32) ∧
    t.dirtyList = [] := by decide

/-- A TRIM that empties extent 7 in slot 5 and extent 8 in slot 2: the marks first extent first, the retirements in ascending
slot order (R63, R101). -/
theorem test_trim_retires_two_in_slot_order :
    let two := (serving.enter (record 7 5 0x80000000#32 0#32 0#32)).enter (record 8 2 1#32 1#32 0#32)
    (taken (.route 31 2 2040 16) two).flash.out =
      [.trimMark 5 0x80000000#32, .trimMark 2 1#32, .retireSlot 2, .retireSlot 5] := by decide

/-- Section 2.7, case (a): heat 100 owing 3 steps becomes 43, and the READ brings 16. -/
theorem test_catch_up_of_a_watch_entry :
    let s : State := { spinning serving with
      epoch := 43
      watch := [{ place := 0, extent := 9, heat := { heat := 100, band := .b1, settle := 0, stamp := 40 } }]
      touch := [9] }
    (taken (.route 1 0 2304 8) s).watch =
      [{ place := 0, extent := 9, heat := { heat := 59, band := .b1, settle := 0, stamp := 43 } }] := by decide

/-- Section 2.7, case (b): heat 300 settles into B2 and joins the Promotion Queue. -/
theorem test_settling_into_candidacy :
    let s : State := { spinning serving with
      epoch := 1
      watch := [{ place := 0, extent := 9, heat := { heat := 300, band := .b1, settle := 1, stamp := 0 } }]
      touch := [9] }
    let t := taken (.route 1 0 2304 8) s
    t.watch = [{ place := 0, extent := 9, heat := { heat := 241, band := .b2, settle := 0, stamp := 1 } }] ∧
    t.promo = [9] := by decide

/-- Section 2.7, case (c): three steps from 3, the reset at 65 owed steps, and B3 settling to B0 from heat 0. -/
theorem test_limits_of_decay :
    (Heat.epochSteps Settings.defaults 3 { heat := 3, band := .b0, settle := 0, stamp := 0 }).heat = 0 ∧
    ({ heat := 500, band := .b2, settle := 1, stamp := 0 } : Heat).caughtUp Settings.defaults 65 =
      { heat := 0, band := .b0, settle := 0, stamp := 65 } ∧
    ({ heat := 0, band := .b3, settle := 0, stamp := 0 } : Heat).caughtUp Settings.defaults 3 =
      { heat := 0, band := .b0, settle := 0, stamp := 3 } := by decide

/-- The windows of the example of section 3.1. -/
theorem test_policies_of_four_windows :
    let s := [(0, 4096, 16773120, Policy.pin), (1, 2048, 16775168, .boost), (2, 0, 16777088, .bypass),
      (3, 5000, 16777215, .bypass)].foldl
        (fun (s : State) (w : Fin 8 × Nat × Nat × Policy) =>
          { s with windows := s.windows.set w.1 { base := w.2.1, mask := w.2.2.1, policy := w.2.2.2, enable := true } })
        serving
    s.policyOf 100 = .bypass ∧ s.policyOf 3000 = .boost ∧ s.policyOf 5000 = .pin ∧ s.policyOf 9000 = .normal := by
  decide

/-- Section 9.6, step 2: GEOMETRY 1,000. -/
theorem test_geometry_of_1000 :
    let t := taken (.geometry 1000) State.reset
    t.sizes = some { slots := 1000, pinLimit := 250, absorbReserve := 62, dirtyHigh := 250, dirtyLow := 125 } ∧
    t.service = .adopting := by decide +kernel

/-- Section 9.6, step 3: an ADOPT of a dirty slot, and one with dirty segments outside its valid set. -/
theorem test_adopt :
    (taken (.adopt 40 3 0xFFFFFFFF#32 0xFF#32 0#32) adopting).records =
      [record 40 3 0xFFFFFFFF#32 0xFF#32 0#32] ∧
    (taken (.adopt 40 3 0xFFFFFFFF#32 0xFF#32 0#32) adopting).dirtyList = [40] ∧
    (taken (.adopt 43 5 0xFF#32 0x3C0#32 0#32) adopting).flash.out =
      [.answer 0x0C .badValue [43#32, 5#32, 0xFF#32, 0x3C0#32, 0#32]] := by decide +kernel

/-- Section 9.6, steps 1 and 4: an ADOPT in COLD is WRONG_STATE; ADOPT_END starts the epoch timer and begins service. -/
theorem test_adopt_end :
    (taken .adoptEnd (adopting.enter dirtySeven)).flash.out = [.answer 0x0D .ok [1#32]] ∧
    (taken .adoptEnd adopting).service = .serving ∧ (taken .adoptEnd adopting).epochTimer = some 255 ∧
    (taken (.adopt 40 3 1#32 0#32 0#32) State.reset).flash.out =
      [.answer 0x0C .wrongState [40#32, 3#32, 1#32, 0#32, 0#32]] := by decide +kernel

/-- Section 9.6, step 5: the first expiry takes an adopted record from 32 to 24, settle count 1, stamp 1. -/
theorem test_first_epoch_expiry :
    let t := after .epochTimerExpiry (serving.enter dirtySeven)
    t.epoch = 1 ∧ t.cursor = 64 ∧
    (t.residentOf 7).map (·.heat) = some { heat := 24, band := .b1, settle := 1, stamp := 1 } := by decide +kernel

/-- The state of the example of section 11.5: 140 dirty records, S of 1,024. -/
def watermarked (high low : Nat) (urgent : Bool) : State :=
  { serving with
    sizes := some { slots := 1024, pinLimit := 256, absorbReserve := 64, dirtyHigh := high, dirtyLow := low }
    dirtyList := List.range 140, urgent := urgent }

/-- Section 11.5, SET DIRTY_HIGH 100: answered 100 and 99, urgent mode on, the demand produced. -/
theorem test_set_dirty_high :
    let t := taken (.setDirtyHigh 100) (watermarked 256 128 false)
    t.front.out = [.answer 0x07 .ok [0x0F#32, 100#32, 99#32, 0#32, 0#32]] ∧ t.urgent = true ∧
    t.disk.out = [.spinUpDemand .dirtyCeiling] ∧ t.stats.spinUpDemands = 1 := by decide +kernel

/-- Section 11.5, SET DIRTY_LOW 150 (clamped to 99) and 500 (urgent mode ends). -/
theorem test_set_dirty_low :
    (taken (.setDirtyLow 150) (watermarked 100 99 true)).front.out =
      [.answer 0x07 .ok [0x10#32, 99#32, 0#32, 0#32, 0#32]] ∧
    (taken (.setDirtyLow 500) (watermarked 1024 99 true)).urgent = false := by decide +kernel

/-- SET BANDS: not increasing after the clamps is BAD_VALUE (R178). -/
theorem test_set_bands :
    (taken (.setBands 0 1 3) serving).front.out = [.answer 0x07 .badValue [0x03#32, 0#32, 1#32, 3#32, 0#32]] ∧
    (taken (.setBands 0 2 70000) serving).settings.t3 = 65535 := by decide

/-- SET of an EPOCH_LEN above its range is clamped and the answer carries the value in force (R178, R179). -/
theorem test_set_epoch_len : (taken (.setEpochLen 5000) serving).front.out =
    [.answer 0x07 .ok [0x01#32, 1023#32, 0#32, 0#32, 0#32]] := by decide

/-- SET PROMOTE_BAND 0: bands are B1 to B3, and a lower number is clamped (R179). -/
theorem test_set_promote_band : (taken (.setPromoteBand 0) serving).settings.promoteBand = .b1 ∧
    (taken (.setPromoteBand 9) serving).settings.promoteBand = .b3 := by decide

/-- Section 5.10, step 1: a CLAIM from the flash port of an extent a READ holds waits, pending, in entry 0. -/
theorem test_claim_of_a_held_extent_waits :
    let t := taken (.claim .flash 2000) (routing .read 2000 0#32 false serving)
    t.claims[(0 : Fin 8)] = some { extent := 2000, standing := .pending .flash, waiters := [] } ∧
    t.flash.out = [.answer 0x03 .waiting [2000#32]] := by decide

/-- Section 5.10, step 7: the flash port releases, the front port owns, and its notice is owed when its queue is full. -/
theorem test_release_passes_the_claim_on :
    let s := claiming 0 2000 (.owned .flash false) [.front, .disk] (filled .front 16 serving)
    (taken (.release .flash 2000) s).claims[(0 : Fin 8)] =
      some { extent := 2000, standing := .owned .front true, waiters := [.disk] } := by decide

/-- Section 10.6, the first read: the freed place goes to the pending WRITE_SLOT, with its ticket and its timer. -/
theorem test_read_places_a_pending_order :
    let s := { (filled .flash 16 (filling .writing true .pending serving)) with
      tickets := 65535, flashOwed := [.order 3] }
    let t := after (.recordRead .flash) s
    t.flash.out.getLast? = some (.writeSlot 65535 3 2 7 0xFFFFFFE0#32) ∧ t.tickets = 0 ∧ t.flash.out.length = 16 := by
  decide

/-- A read of an empty queue drives one word of kind 00h and length 1 (R171). -/
theorem test_read_of_an_empty_queue : (after (.recordRead .disk) serving).disk.driven = [0x00010000#32] := by decide

/-- A ROUTE sent on the disk port enters as a malformed entry and is answered BAD_FRAME with its kind code (R169). -/
theorem test_malformed_frame :
    (after (.inboundFrame .disk (halvesOf [0x01030105#32, 0#32, 8#32])) serving).disk.fifo = [.malformed 1] ∧
    (after (.malformedEntry .disk) { serving with disk := { serving.disk with fifo := [.malformed 1] } }).disk.out =
      [.badFrame 1] := by decide

/-- A STALE report changes nothing (R127); an UNFENCE frees the slot (R105). -/
theorem test_stale_report_and_unfence :
    let s : State := { serving with fences := [{ slot := 4, ticket := 7 }] }
    (taken (.report .disk 7 0 0) s).disk.out = [.answer 0x0E .stale [7#32, 0#32]] ∧
    (taken (.report .disk 7 0 0) s).fences = s.fences ∧ (taken (.unfence 4) s).free = [3, 4, 5, 9, 255] := by decide

/-- A FLUSH completes: the cleaned segments leave dirty, CLEAN_MARK is sent, the record joins its clean list (R121). -/
theorem test_flush_completes :
    let t := taken (.report .disk 5 3 0) (flushing .writing (.placed 5 20) serving)
    t.segmentsOf 7 = some (2, .resident, 0xF#32, 0#32, 0x10#32) ∧ t.flash.out = [.cleanMark 2 0x3#32] ∧
    t.clean.b1 = [7] ∧ t.stats.flushesDone = 1 := by decide

/-- The order timer of a fresh FILL in WRITING expires: its slot is fenced under the order's ticket (R103, R117). -/
theorem test_timeout_fences_the_slot :
    let t := after (.orderTimerExpiry 3) (filling .writing true (.placed 5 20) serving)
    t.fences = [{ slot := 2, ticket := 5 }] ∧ t.records = [] ∧ t.stats.orderTimeouts = 1 := by decide

/-- SPINDLE UP begins an UP period: the advice timer runs ADVICE_DELAY (R134, R147). -/
theorem test_spindle_up : (taken (.spindle 2) serving).adviceTimer = some 50 ∧
    (taken (.spindle 2) serving).disk.out = [.answer 0x10 .ok [2#32]] := by decide

/-- WINDOW CLOSED is taken in every service state (R133). -/
theorem test_window : (taken (.window 1) State.reset).bgWindow = .closed := by decide

/-- With nothing to do the advice is sent once; its timer stays stopped (R148). -/
theorem test_advice :
    let t := after .adviceTimerExpiry { spinning serving with adviceTimer := some 50 }
    t.disk.out = [.spinDownAdvice] ∧ t.adviceSent = true ∧ t.adviceTimer = none := by decide

/-- FLUSH_ALL of one dirty record marks it and demands the spindle for the drain (R145, R150). -/
theorem test_flush_all :
    let t := taken .flushAll (serving.enter dirtySeven)
    t.front.out = [.answer 0x05 .ok [1#32]] ∧ t.drain = true ∧ t.disk.out = [.spinUpDemand .drain] := by decide

/-- FLUSH_ALL with nothing dirty is over in its event: DRAINED follows the answer (R151). -/
theorem test_flush_all_of_nothing :
    (taken .flushAll serving).front.out = [.answer 0x05 .ok [0#32], .drained 0] := by decide

/-- RETRY_STUCK answers the number of stuck residents and clears every count (R153). -/
theorem test_retry_stuck :
    let t := taken .retryStuck (serving.enter { dirtySeven with stuck := true, retries := 3, owed := .stuck })
    t.front.out = [.answer 0x06 .ok [1#32]] ∧ t.records = [dirtySeven] := by decide

/-- QUERY of a resident: its words by the layout of R184. -/
theorem test_query :
    (taken (.query 7) (serving.enter dirtySeven)).front.out =
      [.answer 0x08 .ok [7#32, 0x02010002#32, 0xF#32, 0x3#32, 0x10#32, 0x00200100#32, 0#32]] := by decide

/-- STATS with clear carries the counters and zeroes them after (R181). -/
theorem test_stats :
    let t := taken (.stats true) { serving with stats := { Stats.zero with routes := 4294967295 } }
    t.front.out.head?.map (·.words.take 2) = some [0x890E0000#32, 0xFFFFFFFF#32] ∧ t.stats = Stats.zero := by decide

/-- RESTART leaves the power-on state and its own answer (R159). -/
theorem test_restart :
    (taken .restart transferred).front.out = [.answer 0x0A .ok []] ∧
    (taken .restart transferred).records = [] ∧ (taken .restart transferred).service = .cold := by decide

/-- A flash link reset in ADOPTING returns the part to COLD and keeps the profile (section 9.6, R167). -/
theorem test_flash_reset_in_adopting :
    let t := after .flashLinkReset
      { (adopting.enter dirtySeven) with settings := { Settings.defaults with profile := .battery } }
    t.service = .cold ∧ t.records = [] ∧ t.sizes = none ∧ t.settings.profile = .battery := by decide

/-- A front link reset ends the routes; a disk link reset leaves the spindle DOWN (R166, R168). -/
theorem test_link_resets :
    (after .frontLinkReset transferred).routes = [] ∧ (after .frontLinkReset transferred).dirtyList = [3, 4] ∧
    (after .diskLinkReset (spinning serving)).spindle = .down := by decide +kernel

/-- START_EVENT with a dirty record, the spindle UP and the window OPEN: READ_SLOT of the dirty set (R118, R141). -/
theorem test_start_event :
    let t := after .startEvent (spinning (serving.enter dirtySeven))
    t.flash.out = [.readSlot 0 0 2 7 0x3#32] ∧ t.tickets = 1 ∧ t.lastKind = .flush := by decide

end Sys2Proof.Tests
end

section
/-! SUPPORT. The map's plain rules: ordered insertion, the resident record of an extent after each update of the
Residency Table, and what the map says of segments. -/

namespace Sys2Proof.Machine

/-! ### Ordered insertion and removal -/

theorem insertBy_perm {α : Type} (key : α → Nat) (x : α) (l : List α) : (insertBy key x l).Perm (x :: l) := by
  induction l with
  | nil => exact .refl _
  | cons y l ih =>
    unfold insertBy
    split
    · exact .refl _
    · exact (ih.cons y).trans (.swap x y l)

@[simp] theorem mem_insertBy {α : Type} (key : α → Nat) (x y : α) (l : List α) :
    y ∈ insertBy key x l ↔ y = x ∨ y ∈ l := by
  rw [(insertBy_perm key x l).mem_iff, List.mem_cons]

/-- An element put into a strictly ascending list at a key the list does not hold leaves it strictly ascending. -/
theorem insertBy_pairwise {α : Type} (key : α → Nat) (x : α) (l : List α) (h : l.Pairwise (key · < key ·))
    (hx : ∀ y ∈ l, key y ≠ key x) : (insertBy key x l).Pairwise (key · < key ·) := by
  induction l with
  | nil => exact List.pairwise_singleton _ _
  | cons y l ih =>
    obtain ⟨hy, hl⟩ := List.pairwise_cons.1 h
    have hne := hx y (by simp)
    unfold insertBy
    split
    · refine List.pairwise_cons.2 ⟨?_, h⟩
      intro z hz
      rcases List.mem_cons.1 hz with rfl | hz
      · omega
      · have := hy z hz; omega
    · refine List.pairwise_cons.2 ⟨?_, ih hl (fun z hz => hx z (by simp [hz]))⟩
      intro z hz
      rcases (mem_insertBy key x z l).1 hz with rfl | hz
      · omega
      · exact hy z hz

/-- A search that the inserted element does not answer finds what it found before. -/
theorem find?_insertBy_of_not {α : Type} (key : α → Nat) (p : α → Bool) (x : α) (l : List α) (hx : p x = false) :
    (insertBy key x l).find? p = l.find? p := by
  induction l with
  | nil => simp [insertBy, hx]
  | cons y l ih =>
    unfold insertBy
    split
    · simp [hx]
    · simp [List.find?_cons, ih]

/-- A search that only the inserted element answers finds it. -/
theorem find?_insertBy_of_none {α : Type} (key : α → Nat) (p : α → Bool) (x : α) (l : List α) (hx : p x = true)
    (hl : l.find? p = none) : (insertBy key x l).find? p = some x := by
  induction l with
  | nil => simp [insertBy, hx]
  | cons y l ih =>
    obtain ⟨hy, hl'⟩ : p y = false ∧ l.find? p = none := by
      cases hy : p y <;> simp_all
    unfold insertBy
    split
    · simp [hx]
    · simp [hy, ih hl']

@[simp] theorem mem_without {α : Type} [DecidableEq α] (x y : α) (l : List α) :
    y ∈ without x l ↔ y ∈ l ∧ y ≠ x := by simp [without]

theorem without_of_notMem {α : Type} [DecidableEq α] (x : α) (l : List α) (h : x ∉ l) : without x l = l :=
  List.filter_eq_self.2 fun y hy => by simpa using fun e : y = x => h (e ▸ hy)

theorem nodup_without {α : Type} [DecidableEq α] (x : α) (l : List α) (h : l.Nodup) : (without x l).Nodup :=
  h.filter _

/-- An element taken out of a list that holds it once and put in again. -/
theorem cons_without_perm {α : Type} [DecidableEq α] (x : α) (l : List α) (h : l.Nodup) (hx : x ∈ l) :
    (x :: without x l).Perm l := by
  have : without x l = l.erase x := by
    rw [h.erase_eq_filter]
    exact List.filter_congr fun y _ => by by_cases hy : y = x <;> simp [hy]
  exact this ▸ (List.perm_cons_erase hx).symm

/-! ### The resident record of an extent -/

theorem State.residentOf_mem {s : State} {e : Nat} {r : Resident} (h : s.residentOf e = some r) :
    r ∈ s.records ∧ r.extent = e :=
  ⟨List.mem_of_find?_eq_some h, by simpa using List.find?_some h⟩

theorem State.residentOf_extent {s : State} {e : Nat} {r : Resident} (h : s.residentOf e = some r) : r.extent = e :=
  (State.residentOf_mem h).2

theorem State.residentOf_eq_none {s : State} {e : Nat} : s.residentOf e = none ↔ ∀ r ∈ s.records, r.extent ≠ e := by
  simp [State.residentOf]

/-- Where no two records are of one extent, each record is its extent's. -/
theorem State.residentOf_of_mem {s : State} {r : Resident} (hn : (s.records.map (·.extent)).Nodup)
    (h : r ∈ s.records) : s.residentOf r.extent = some r := by
  unfold State.residentOf
  generalize s.records = l at hn h
  induction l with
  | nil => simp at h
  | cons x l ih =>
    simp only [List.map_cons, List.nodup_cons, List.mem_map, not_exists, not_and] at hn
    rcases List.mem_cons.1 h with rfl | h
    · simp
    · have : x.extent ≠ r.extent := fun e => hn.1 r h e.symm
      simpa [List.find?_cons, this] using ih hn.2 h

/-- A change of every record that keeps extents is the change of each extent's record. -/
theorem State.residentOf_map {s t : State} (f : Resident → Resident) (ht : t.records = s.records.map f)
    (hf : ∀ r, (f r).extent = r.extent) (e : Nat) : t.residentOf e = (s.residentOf e).map f := by
  have hp : (fun r : Resident => r.extent == e) ∘ f = fun r => r.extent == e := by
    funext r; simp [hf]
  rw [State.residentOf, ht, List.find?_map, hp, State.residentOf]

theorem State.residentOf_congr {s t : State} (h : t.records = s.records) (e : Nat) :
    t.residentOf e = s.residentOf e := by
  simp [State.residentOf, h]

theorem State.watchOf_congr {s t : State} (h : t.watch = s.watch) (e : Nat) : t.watchOf e = s.watchOf e := by
  simp [State.watchOf, h]

theorem State.segmentsOf_congr {s t : State} (h : t.records = s.records) (e : Nat) :
    t.segmentsOf e = s.segmentsOf e := by
  simp [State.segmentsOf, State.residentOf_congr h]

/-- The segments of an extent as its record gives them. -/
theorem State.segmentsOf_of_resident {s : State} {e : Nat} {r : Resident} (h : s.residentOf e = some r) :
    s.segmentsOf e = some (r.slot, r.state, r.valid, r.dirty, r.lost) := by
  simp [State.segmentsOf, h]

theorem State.segmentsOf_eq_none {s : State} {e : Nat} : s.segmentsOf e = none ↔ s.residentOf e = none := by
  simp [State.segmentsOf]

/-- A change of every record that keeps extents and segments. -/
theorem State.segmentsOf_map {s t : State} (f : Resident → Resident) (ht : t.records = s.records.map f)
    (hf : ∀ r, (f r).extent = r.extent ∧ (f r).slot = r.slot ∧ (f r).state = r.state ∧ (f r).valid = r.valid ∧
      (f r).dirty = r.dirty ∧ (f r).lost = r.lost) (e : Nat) : t.segmentsOf e = s.segmentsOf e := by
  simp only [State.segmentsOf, State.residentOf_map f ht (fun r => (hf r).1), Option.map_map]
  congr 1
  funext r
  simp [hf]

/-! ### Records settled -/

theorem Resident.settled_eq (r : Resident) :
    r.settled = { r with
      drainMark := if r.dirty = 0#32 then false else r.drainMark
      retries := if r.dirty = 0#32 then 0 else r.retries
      stuck := if r.dirty = 0#32 then false else r.stuck } := by
  unfold Resident.settled
  split <;> rfl

@[simp] theorem Resident.settled_extent (r : Resident) : r.settled.extent = r.extent := by simp [Resident.settled_eq]
@[simp] theorem Resident.settled_slot (r : Resident) : r.settled.slot = r.slot := by simp [Resident.settled_eq]
@[simp] theorem Resident.settled_state (r : Resident) : r.settled.state = r.state := by simp [Resident.settled_eq]
@[simp] theorem Resident.settled_valid (r : Resident) : r.settled.valid = r.valid := by simp [Resident.settled_eq]
@[simp] theorem Resident.settled_dirty (r : Resident) : r.settled.dirty = r.dirty := by simp [Resident.settled_eq]
@[simp] theorem Resident.settled_lost (r : Resident) : r.settled.lost = r.lost := by simp [Resident.settled_eq]
@[simp] theorem Resident.settled_pinned (r : Resident) : r.settled.pinned = r.pinned := by simp [Resident.settled_eq]
@[simp] theorem Resident.settled_heat (r : Resident) : r.settled.heat = r.heat := by simp [Resident.settled_eq]
@[simp] theorem Resident.settled_classified (r : Resident) : r.settled.classified = r.classified := by
  simp [Resident.settled_eq]
@[simp] theorem Resident.settled_owed (r : Resident) : r.settled.owed = r.owed := by simp [Resident.settled_eq]
@[simp] theorem Resident.settled_isEmpty (r : Resident) : r.settled.isEmpty = r.isEmpty := by simp [Resident.isEmpty]
@[simp] theorem Resident.settled_cleanBand (r : Resident) : r.settled.cleanBand = r.cleanBand := by
  simp [Resident.cleanBand]
theorem Resident.settled_of_dirty {r : Resident} (h : r.dirty ≠ 0#32) : r.settled = r := by simp [Resident.settled, h]

theorem Resident.isEmpty_iff (r : Resident) : r.isEmpty = true ↔ r.valid = 0#32 ∧ r.lost = 0#32 := by
  simp [Resident.isEmpty]

/-! ### The Residency Table after each update -/

@[simp] theorem State.fileLists_records (a : ListEnd) (r : Resident) (s : State) :
    (s.fileLists a r).records = s.records := rfl

theorem State.store_records (a : ListEnd) (r : Resident) (s : State) :
    (s.store a r).records = s.records.map fun x => if x.extent = r.extent then r.settled else x := rfl

@[simp] theorem State.enter_records (r : Resident) (s : State) : (s.enter r).records = insertBy (·.slot) r s.records :=
  rfl

@[simp] theorem State.drop_records (r : Resident) (s : State) :
    (s.drop r).records = s.records.filter fun x => x.extent ≠ r.extent := rfl

theorem State.residentOf_store (a : ListEnd) (r : Resident) (s : State) (e : Nat) :
    (s.store a r).residentOf e = (s.residentOf e).map fun x => if x.extent = r.extent then r.settled else x :=
  State.residentOf_map _ rfl (fun x => by split <;> simp_all) e

theorem State.residentOf_store_same {s : State} {r old : Resident} (a : ListEnd)
    (h : s.residentOf r.extent = some old) : (s.store a r).residentOf r.extent = some r.settled := by
  simp [State.residentOf_store, h, State.residentOf_extent h]

theorem State.residentOf_store_of_ne (a : ListEnd) (r : Resident) (s : State) {e : Nat} (h : e ≠ r.extent) :
    (s.store a r).residentOf e = s.residentOf e := by
  rw [State.residentOf_store]
  cases hx : s.residentOf e with
  | none => rfl
  | some x => simp [State.residentOf_extent hx, h]

theorem State.segmentsOf_store_of_ne (a : ListEnd) (r : Resident) (s : State) {e : Nat} (h : e ≠ r.extent) :
    (s.store a r).segmentsOf e = s.segmentsOf e := by
  simp [State.segmentsOf, State.residentOf_store_of_ne a r s h]

theorem State.segmentsOf_store_same {s : State} {r old : Resident} (a : ListEnd)
    (h : s.residentOf r.extent = some old) :
    (s.store a r).segmentsOf r.extent = some (r.slot, r.state, r.valid, r.dirty, r.lost) := by
  simp [State.segmentsOf, State.residentOf_store_same a h]

/-- A stored record that keeps its segments and state leaves what the map says of segments. -/
theorem State.segmentsOf_store_of_same {s : State} {r old : Resident} (a : ListEnd)
    (h : s.residentOf r.extent = some old) (hs : r.slot = old.slot) (ht : r.state = old.state)
    (hv : r.valid = old.valid) (hd : r.dirty = old.dirty) (hl : r.lost = old.lost) (e : Nat) :
    (s.store a r).segmentsOf e = s.segmentsOf e := by
  by_cases he : e = r.extent
  · subst he
    rw [State.segmentsOf_store_same a h, State.segmentsOf_of_resident h, hs, ht, hv, hd, hl]
  · exact State.segmentsOf_store_of_ne a r s he

theorem State.residentOf_enter_same {s : State} {r : Resident} (h : s.residentOf r.extent = none) :
    (s.enter r).residentOf r.extent = some r :=
  find?_insertBy_of_none _ _ r s.records (by simp) h

theorem State.residentOf_enter_of_ne (r : Resident) (s : State) {e : Nat} (h : e ≠ r.extent) :
    (s.enter r).residentOf e = s.residentOf e :=
  find?_insertBy_of_not _ _ r s.records (by simpa using h.symm)

theorem State.residentOf_drop_same (r : Resident) (s : State) : (s.drop r).residentOf r.extent = none := by
  simp [State.residentOf_eq_none]

theorem State.residentOf_drop_of_ne (r : Resident) (s : State) {e : Nat} (h : e ≠ r.extent) :
    (s.drop r).residentOf e = s.residentOf e := by
  unfold State.residentOf
  rw [State.drop_records, List.find?_filter]
  congr 1
  funext x
  by_cases hx : x.extent = e <;> simp [hx, h]

/-- The slots and the extents of the table after a record is stored in its own slot. -/
theorem State.store_slots {s : State} {r old : Resident} (a : ListEnd) (hn : (s.records.map (·.extent)).Nodup)
    (h : s.residentOf r.extent = some old) (hs : r.slot = old.slot) :
    (s.store a r).records.map (·.slot) = s.records.map (·.slot) := by
  rw [State.store_records, List.map_map]
  refine List.map_congr_left fun x hx => ?_
  by_cases he : x.extent = r.extent
  · have : some x = some old := by rw [← State.residentOf_of_mem hn hx, he, h]
    cases this
    simp [he, hs]
  · simp [he]

theorem State.store_extents (a : ListEnd) (r : Resident) (s : State) :
    (s.store a r).records.map (·.extent) = s.records.map (·.extent) := by
  rw [State.store_records, List.map_map]
  refine List.map_congr_left fun x _ => ?_
  by_cases he : x.extent = r.extent <;> simp [he]

theorem State.mem_store {s : State} {a : ListEnd} {r x : Resident} (h : x ∈ (s.store a r).records) :
    x = r.settled ∨ (x ∈ s.records ∧ x.extent ≠ r.extent) := by
  rw [State.store_records] at h
  obtain ⟨y, hy, rfl⟩ := List.mem_map.1 h
  by_cases he : y.extent = r.extent <;> simp [he, hy]

/-- Where no two records are of one extent, a dropped record leaves the others. -/
theorem State.cons_drop_perm {s : State} {r : Resident} (hn : (s.records.map (·.extent)).Nodup)
    (h : s.residentOf r.extent = some r) : (r :: (s.drop r).records).Perm s.records := by
  obtain ⟨hm, -⟩ := State.residentOf_mem h
  have hd : s.records.Nodup := List.Nodup.of_map _ hn
  have : (s.drop r).records = without r s.records := by
    rw [State.drop_records, without]
    refine List.filter_congr fun x hx => ?_
    have : x.extent = r.extent ↔ x = r :=
      ⟨fun e => by have := State.residentOf_of_mem hn hx; rw [e, h] at this; exact (Option.some.inj this).symm, fun e => e ▸ rfl⟩
    simp [this]
  exact this ▸ cons_without_perm r s.records hd hm

/-! ### Contexts -/

theorem State.contexts_setContext (s : State) (c : Fin 4) (x : Context) :
    (s.setContext c x).contexts = s.contexts.set c x := rfl

theorem set_getElem_fin {α : Type} {n : Nat} (v : Vector α n) (c d : Fin n) (x : α) :
    (v.set c x)[d] = if d = c then x else v[d] := by
  simp only [Fin.getElem_fin, Vector.getElem_set, Fin.ext_iff, eq_comm]

theorem map_getElem_fin {α β : Type} {n : Nat} (v : Vector α n) (f : α → β) (d : Fin n) : (v.map f)[d] = f v[d] := by
  simp

/-! ### Segment sets -/

theorem getLsbD_segFold (f : Nat → Bool) (l : List Nat) (hl : ∀ n ∈ l, n < 32) (acc : SegSet) (k : Nat) :
    (l.foldl (fun a n => if f n then a ||| BitVec.ofNat 32 (2 ^ n) else a) acc).getLsbD k =
      (acc.getLsbD k || (decide (k ∈ l) && f k)) := by
  induction l generalizing acc with
  | nil => simp
  | cons n l ih =>
    have hn : n < 32 := hl n (by simp)
    have hbit : (BitVec.ofNat 32 (2 ^ n)).getLsbD k = decide (n = k) := by
      by_cases hk : k < 32
      · rw [BitVec.getLsbD_ofNat, Nat.testBit_two_pow]
        simp [hk]
      · rw [BitVec.getLsbD_of_ge _ _ (by omega)]
        simp; omega
    rw [List.foldl_cons, ih (fun m hm => hl m (by simp [hm]))]
    generalize BitVec.ofNat 32 (2 ^ n) = w at hbit ⊢
    by_cases hf : f n
    · by_cases hk : n = k
      · subst hk; simp [hf, hbit]
      · simp [hf, hbit, hk, Ne.symm hk]
    · by_cases hk : n = k
      · subst hk; simp [hf]
      · simp [hf, Ne.symm hk]

/-- The members of the set of the numbers that satisfy a test. -/
@[simp] theorem getLsbD_segsWhere (f : Nat → Bool) (k : Nat) : (segsWhere f).getLsbD k = (decide (k < 32) && f k) := by
  unfold segsWhere
  rw [getLsbD_segFold _ _ (by simp)]
  simp

/-- A segment that a span covers fully is touched by it. -/
theorem Span.full_and_touched (sp : Span) : sp.full &&& sp.touched = sp.full := by
  refine BitVec.eq_of_getLsbD_eq fun k hk => ?_
  simp only [BitVec.getLsbD_and, Span.full, Span.touched, getLsbD_segsWhere, Span.coversSeg, Span.touchesSeg]
  by_cases h1 : sp.lo ≤ 8 * k <;> by_cases h2 : 8 * k + 8 ≤ sp.hi <;> simp [h1, h2, hk]
  omega

end Sys2Proof.Machine
end

section
/-! SUPPORT. What the shared operations of an event can do to the map, said once: `State.Becomes L s t` holds when `t`
comes of `s` by the updates below, those of a kind only where the licence `L` allows the kind. Every law that each update
keeps, every event keeps. -/

namespace Sys2Proof.Machine

/-! ### The updates -/

/-- The kinds of change an event makes. -/
structure Licence where
  /-- tickets are taken (R107) -/
  orders : Bool := false
  /-- fences are made and lifted (R103, R104) -/
  fences : Bool := false
  /-- extents are weighed, written, absorbed and trimmed by a route (R53) -/
  routing : Bool := false
  /-- move contexts change (R106) -/
  moves : Bool := false
  /-- the segments or the state of a record change (R3, R4) -/
  segments : Bool := false
  /-- records are removed (R101) -/
  removes : Bool := false
  /-- the Route Table changes (R15) -/
  routes : Bool := false
  /-- the last-kind marker changes (R141) -/
  starts : Bool := false
  /-- the Claim Table changes (R77 to R90) -/
  grants : Bool := false

/-- A state without what no table of the map depends on: the links, the counters, the Promotion Queue, what is owed,
and the advice timer. -/
def State.solid (s : State) : State :=
  { s with front := .empty, flash := .empty, disk := .empty, stats := .zero, promo := [], flashOwed := [],
           diskOwed := [], adviceTimer := none }

/-- A state without these and without what the end of an event changes. -/
def State.tables (s : State) : State :=
  { s.solid with claims := Vector.replicate 8 none, urgent := false, drain := false, drainedOwed := none
                 demands := { dirtyCeiling := false, drain := false, fill := false }, adviceSent := false }

/-- No port stands twice in an entry of the Claim Table (R77, R80). -/
def State.ClaimsLawful (s : State) : Prop :=
  ∀ (i : Fin 8) c, s.claims[i] = some c → c.standing.port ∉ c.waiters ∧ c.waiters.Nodup

/-- A move is matched by a record: its slot, and the state of its kind; a FILL's validate set is absent there, and a
fresh FILL's record is bare (R109, R111, R112). -/
def Context.Matches (r : Resident) : Context → Prop
  | .fill m => r.slot = m.slot ∧ r.state = .filling ∧ m.validate &&& (r.valid ||| r.lost) = 0#32 ∧
      (m.fresh = true → r.isEmpty = true)
  | .flush m => r.slot = m.slot ∧ r.state = .flushing
  | .idle => False
  | .marking _ _ => False

/-- No move is in flight. -/
def State.Still (s : State) : Prop := ∀ c : Fin 4, s.contexts[c] = .idle

/-- New contexts beside a new content of one record: a context holds no move, or stands with a move on another extent,
or holds the one move on that record, matched by it. -/
def State.ContextsFit (s : State) (r : Resident) (ctx : Vector Context 4) : Prop :=
  ∀ c : Fin 4, ctx[c].extentInMove = none ∨
    (ctx[c] = s.contexts[c] ∧ ctx[c].extentInMove ≠ some r.extent) ∨
    (ctx[c].extentInMove = some r.extent ∧ ctx[c].Matches r ∧
      ∀ d : Fin 4, ctx[d].extentInMove = some r.extent → d = c)

/-- New contexts without a move on an extent: a context holds no move, or stands with a move on another extent. -/
def State.ContextsLeave (s : State) (e : Nat) (ctx : Vector Context 4) : Prop :=
  ∀ c : Fin 4, ctx[c].extentInMove = none ∨ (ctx[c] = s.contexts[c] ∧ ctx[c].extentInMove ≠ some e)

/-- The same move, further on: of the same extent, and matched by each record that matched it. -/
def Context.Continues (x y : Context) : Prop :=
  y.extentInMove = x.extentInMove ∧ ∀ r, x.Matches r → y.Matches r

/-- A record with other heat, marks and notices: those that keep it lawful, with its band and everything else as it
was. -/
structure Resident.Flagged (r r' : Resident) : Prop where
  eq : r' = { r with heat := r'.heat, retries := r'.retries, stuck := r'.stuck, drainMark := r'.drainMark
                     owed := r'.owed }
  band : r'.heat.band = r.heat.band
  lawful : r.Lawful → r'.Lawful

/-- `t` comes of `s` by the updates that the shared operations make, under a licence. -/
inductive State.Becomes (L : Licence) : State → State → Prop
  /-- Nothing changes. -/
  | refl (s : State) : State.Becomes L s s
  /-- Two changes, one after the other. -/
  | trans {s t u : State} : State.Becomes L s t → State.Becomes L t u → State.Becomes L s u
  /-- Records placed and owed, counters, the Promotion Queue, the advice timer. -/
  | light {s t : State} (same : t.solid = s.solid) (keeps : s.Keeps t) : State.Becomes L s t
  /-- A clean list's record moves to its tail (R18). -/
  | touchClean (s : State) (e : Nat) : State.Becomes L s (s.touchClean e)
  /-- A watch entry is brought up to date (R24). -/
  | rewatch (s : State) (x : WatchEntry) (h : Heat) (watched : x ∈ s.watch)
      (heat : s.settings.InRange → s.epoch < 65536 → x.heat.InRange → h.InRange) :
      State.Becomes L s (s.setWatchHeat x.extent h)
  /-- A watch entry moves to the tail of last-touch order (R13). -/
  | touchWatch (s : State) (e : Nat) (watched : s.watchOf e ≠ none) : State.Becomes L s (s.touchWatch e)
  /-- An extent that is neither resident nor watched is watched (R13). -/
  | watch (s : State) (e : Nat) (h : Heat) (absent : s.residentOf e = none) (unwatched : s.watchOf e = none)
      (heat : s.settings.InRange → s.epoch < 65536 → h.InRange) (licence : L.routing = true) :
      State.Becomes L s (s.enterWatch .tail e h)
  /-- A watch entry leaves (R14). -/
  | unwatch (s : State) (e : Nat) : State.Becomes L s (s.unwatch e)
  /-- A record's contents are replaced, with the contexts beside it. -/
  | replace (s : State) (a : ListEnd) (old new : Resident) (ctx : Vector Context 4)
      (resident : s.residentOf new.extent = some old) (slot : new.slot = old.slot)
      (lawful : s.settings.InRange → s.epoch < 65536 → old.Lawful → new.settled.Lawful)
      (matched : s.MovesMatched → new.LostApart ∧ s.ContextsFit new ctx)
      (segments : L.segments = false → new.state = old.state ∧ new.valid = old.valid ∧ new.dirty = old.dirty ∧
        new.lost = old.lost)
      (moves : L.moves = false → L.routing = false → ctx = s.contexts)
      (still : s.service ≠ .serving → s.Still → (∀ c : Fin 4, ctx[c] = .idle) ∧
        (L.routing = false → old.isEmpty = false → new.isEmpty = false)) :
      State.Becomes L s { s.store a new with contexts := ctx }
  /-- A record is removed, its slot as its fate says, with the contexts beside it (R101). -/
  | remove (s : State) (fate : SlotFate) (r : Resident) (h : Heat) (ctx : Vector Context 4)
      (resident : s.residentOf r.extent = some r)
      (heat : s.settings.InRange → s.epoch < 65536 → r.heat.InRange → h.InRange)
      (matched : s.ListsFiled → s.MovesMatched → s.ContextsLeave r.extent ctx)
      (licence : L.removes = true) (settled : fate ≠ .passed)
      (fenced : ∀ n, fate = .fenced n → L.fences = true ∧ (s.Still → s.service = .serving))
      (moves : L.moves = false → ctx = s.contexts)
      (still : s.service ≠ .serving → s.Still → (∀ c : Fin 4, ctx[c] = .idle) ∧
        (L.routing = false → r.isEmpty = true)) :
      State.Becomes L s (((State.drop r { s with contexts := ctx }).returnHeat r.extent h).settleSlot fate r.slot)
  /-- A record enters in a free slot, with the contexts beside it. -/
  | enter (s : State) (x : Resident) (ctx : Vector Context 4) (free : x.slot ∈ s.free)
      (absent : s.residentOf x.extent = none)
      (lawful : s.settings.InRange → s.epoch < 65536 → (∀ w ∈ s.watch, w.heat.InRange) → x.Lawful)
      (matched : s.MovesMatched → x.LostApart ∧ s.ContextsFit x ctx)
      (licence : L.routing = true ∨ L.moves = true)
      (still : s.service ≠ .serving → L.routing = true ∧ (s.Still → ∀ c : Fin 4, ctx[c] = .idle)) :
      State.Becomes L s { ((s.takeSlot x.slot).unwatch x.extent).enter x with contexts := ctx }
  /-- A record is removed and another enters in its slot (R58, R98). -/
  | pass (s : State) (r x : Resident) (h : Heat) (resident : s.residentOf r.extent = some r) (slot : x.slot = r.slot)
      (absent : s.residentOf x.extent = none)
      (heat : s.settings.InRange → s.epoch < 65536 → r.heat.InRange → h.InRange)
      (lawful : s.settings.InRange → s.epoch < 65536 →
        (∀ w ∈ ((s.drop r).returnHeat r.extent h).watch, w.heat.InRange) → x.Lawful)
      (apart : x.LostApart)
      (matched : s.ListsFiled → s.MovesMatched → s.ContextsLeave r.extent s.contexts)
      (routing : L.routing = true) (removes : L.removes = true) :
      State.Becomes L s ((((s.drop r).returnHeat r.extent h).unwatch x.extent).enter x)
  /-- Heat, marks and notices of records change. -/
  | flag (s : State) (f : Resident → Resident) (flags : ∀ r : Resident, r.Flagged (f r)) :
      State.Becomes L s { s with records := s.records.map f }
  /-- A dirty record moves to the Dirty List's tail (R123). -/
  | requeue (s : State) (e : Nat) (listed : e ∈ s.dirtyList) :
      State.Becomes L s { s with dirtyList := without e s.dirtyList ++ [e] }
  /-- Moves go on or end. -/
  | progress (s : State) (ctx : Vector Context 4) (licence : L.moves = true)
      (fit : ∀ c : Fin 4, ctx[c].extentInMove = none ∨ s.contexts[c].Continues ctx[c])
      (still : s.Still → ∀ c : Fin 4, ctx[c] = .idle) : State.Becomes L s { s with contexts := ctx }
  /-- A ticket is taken (R107). -/
  | ticket (s : State) (n : Nat) (licence : L.orders = true) : State.Becomes L s { s with tickets := n }
  /-- A fence is lifted and its slot is free (R104). -/
  | lift (s : State) (f : Fence) (fence : f ∈ s.fences) (licence : L.fences = true) :
      State.Becomes L s (State.freeSlot f.slot { s with fences := s.fences.erase f })
  /-- The Route Table changes. -/
  | reroute (s : State) (l : List RouteEntry) (licence : L.routes = true) : State.Becomes L s { s with routes := l }
  /-- A move starts. -/
  | mark (s : State) (k : MoveKind) (licence : L.starts = true) : State.Becomes L s { s with lastKind := k }
  /-- The end of an event: the Claim Table, the drain, urgent mode, the demands. -/
  | conclude {s t : State} (same : t.tables = s.tables) (keeps : s.Keeps t)
      (claims : s.ClaimsLawful → t.ClaimsLawful) (licence : L.grants = false → t.claims = s.claims) :
      State.Becomes L s t

namespace State.Becomes

/-! ### Chains of updates -/

theorem foldl {α : Type} {L : Licence} (f : State → α → State) (h : ∀ (s : State) (a : α), State.Becomes L s (f s a))
    (l : List α) (s : State) : State.Becomes L s (l.foldl f s) := by
  induction l generalizing s with
  | nil => exact .refl s
  | cons a l ih => exact (h s a).trans (ih (f s a))

/-- An update of the light fields. -/
theorem ofLight {L : Licence} {s t : State} (keeps : s.Keeps t) (same : t.solid = s.solid := by rfl) : State.Becomes L s t :=
  .light same keeps

/-- An update at the end of an event. -/
theorem ofEnd {L : Licence} {s t : State} (keeps : s.Keeps t)
    (claims : t.claims = s.claims := by rfl) (same : t.tables = s.tables := by rfl) : State.Becomes L s t :=
  .conclude same keeps (fun h => by unfold State.ClaimsLawful; rw [claims]; exact h) fun _ => claims

end State.Becomes

end Sys2Proof.Machine
end

section
/-! SUPPORT. Heat stays in range (R26 to R29), and what every chain of updates leaves as it was, by the licence. -/

namespace Sys2Proof.Machine

/-! ### Heat in range -/

theorem decayHeat_le (d n : Nat) : decayHeat d n ≤ n := by
  unfold decayHeat
  split <;> omega

theorem Heat.settleTo_inRange {g : Settings} (hg : g.settle ≤ 15) (raw : Band) {h : Heat} (hh : h.InRange) :
    (Heat.settleTo g raw h).InRange := by
  obtain ⟨h1, h2, h3⟩ := hh
  unfold Heat.settleTo
  split
  · exact ⟨h1, Nat.zero_le _, h3⟩
  · split
    · exact ⟨h1, Nat.zero_le _, h3⟩
    · exact ⟨h1, by show h.settle + 1 ≤ 14; omega, h3⟩

theorem Heat.epochStep_inRange {g : Settings} (hg : g.settle ≤ 15) {h : Heat} (hh : h.InRange) :
    (h.epochStep g).InRange :=
  Heat.settleTo_inRange hg _ ⟨(decayHeat_le _ _).trans hh.1, hh.2.1, hh.2.2⟩

theorem Heat.epochSteps_inRange {g : Settings} (hg : g.settle ≤ 15) (n : Nat) {h : Heat} (hh : h.InRange) :
    (Heat.epochSteps g n h).InRange := by
  induction n generalizing h with
  | zero => exact hh
  | succ n ih => exact ih (Heat.epochStep_inRange hg hh)

/-- A catch-up keeps heat in range (R25, R29). -/
theorem Heat.caughtUp_inRange {g : Settings} {epoch : Nat} (hg : g.InRange) (he : epoch < 65536) {h : Heat}
    (hh : h.InRange) : (h.caughtUp g epoch).InRange := by
  unfold Heat.caughtUp
  split
  · exact ⟨Nat.zero_le _, Nat.zero_le _, he⟩
  · have := Heat.epochSteps_inRange hg.settle.2 (h.owedSteps epoch) hh
    exact ⟨this.1, this.2.1, he⟩

theorem Heat.gain_inRange (w : Nat) {h : Heat} (hh : h.InRange) : (h.gain w).InRange :=
  ⟨Nat.min_le_right _ _, hh.2.1, hh.2.2⟩

/-- An examination keeps heat in range. -/
theorem State.heatNow_inRange {s : State} (w : Nat) (hg : s.settings.InRange) (he : s.epoch < 65536) {h : Heat}
    (hh : h.InRange) : (s.heatNow w h).InRange :=
  Heat.gain_inRange w (Heat.caughtUp_inRange hg he hh)

theorem State.newHeat_inRange {s : State} (w : Nat) (he : s.epoch < 65536) : (s.newHeat w).InRange :=
  Heat.gain_inRange w ⟨Nat.zero_le _, Nat.zero_le _, he⟩

/-- A new record's heat is in range where the watch entries' heat is. -/
theorem State.inheritedHeat_inRange {s : State} (e : Nat) (he : s.epoch < 65536)
    (hw : ∀ w ∈ s.watch, w.heat.InRange) : (s.inheritedHeat e).InRange := by
  unfold State.inheritedHeat
  split
  · rename_i x hx
    exact hw x (List.mem_of_find?_eq_some hx)
  · exact State.newHeat_inRange 0 he

/-! ### States with the same tables -/

theorem State.tables_of_solid {s t : State} (h : t.solid = s.solid) : t.tables = s.tables := by
  unfold State.tables
  rw [h]

section
variable {s t : State} (h : t.tables = s.tables)
include h

theorem State.tables_records : t.records = s.records :=
  (congrArg State.records h : t.tables.records = s.tables.records)
theorem State.tables_watch : t.watch = s.watch :=
  (congrArg State.watch h : t.tables.watch = s.tables.watch)
theorem State.tables_touch : t.touch = s.touch :=
  (congrArg State.touch h : t.tables.touch = s.tables.touch)
theorem State.tables_free : t.free = s.free :=
  (congrArg State.free h : t.tables.free = s.tables.free)
theorem State.tables_clean : t.clean = s.clean :=
  (congrArg State.clean h : t.tables.clean = s.tables.clean)
theorem State.tables_fences : t.fences = s.fences :=
  (congrArg State.fences h : t.tables.fences = s.tables.fences)
theorem State.tables_contexts : t.contexts = s.contexts :=
  (congrArg State.contexts h : t.tables.contexts = s.tables.contexts)
theorem State.tables_service : t.service = s.service :=
  (congrArg State.service h : t.tables.service = s.tables.service)
theorem State.tables_routes : t.routes = s.routes :=
  (congrArg State.routes h : t.tables.routes = s.tables.routes)
theorem State.tables_lastKind : t.lastKind = s.lastKind :=
  (congrArg State.lastKind h : t.tables.lastKind = s.tables.lastKind)
theorem State.tables_tickets : t.tickets = s.tickets :=
  (congrArg State.tickets h : t.tables.tickets = s.tables.tickets)

theorem State.tables_residentOf (e : Nat) : t.residentOf e = s.residentOf e :=
  State.residentOf_congr (State.tables_records h) e

end

theorem State.solid_claims {s t : State} (h : t.solid = s.solid) : t.claims = s.claims :=
  (congrArg State.claims h : t.solid.claims = s.solid.claims)

theorem State.solid_settings {s t : State} (h : t.solid = s.solid) : t.settings = s.settings :=
  (congrArg State.settings h : t.solid.settings = s.solid.settings)

theorem State.solid_epoch {s t : State} (h : t.solid = s.solid) : t.epoch = s.epoch :=
  (congrArg State.epoch h : t.solid.epoch = s.solid.epoch)

theorem State.ListsFiled.congr {s t : State} (h : t.tables = s.tables) (k : s.ListsFiled) : t.ListsFiled := by
  have of (u : State) (k : u.ListsFiled) : u.tables.ListsFiled := ⟨k.1, k.2, k.3, k.4, k.5⟩
  have back (u : State) (k : u.tables.ListsFiled) : u.ListsFiled := ⟨k.1, k.2, k.3, k.4, k.5⟩
  exact back t (h ▸ of s k)

theorem State.MovesMatched.congr {s t : State} (h : t.tables = s.tables) (k : s.MovesMatched) : t.MovesMatched := by
  have of (u : State) (k : u.MovesMatched) : u.tables.MovesMatched := ⟨k.1, k.2, k.3, k.4⟩
  have back (u : State) (k : u.tables.MovesMatched) : u.MovesMatched := ⟨k.1, k.2, k.3, k.4⟩
  exact back t (h ▸ of s k)

theorem State.RecordsLawful.congr {s t : State} (h : t.tables = s.tables) (k : s.RecordsLawful) : t.RecordsLawful := by
  have of (u : State) (k : u.RecordsLawful) : u.tables.RecordsLawful := ⟨k.1, k.2, k.3, k.4, k.5⟩
  have back (u : State) (k : u.tables.RecordsLawful) : u.RecordsLawful := ⟨k.1, k.2, k.3, k.4, k.5⟩
  exact back t (h ▸ of s k)

theorem State.SlotsAccounted.congr {s t : State} (h : t.tables = s.tables) (k : s.SlotsAccounted) :
    t.SlotsAccounted := by
  have of (u : State) (k : u.SlotsAccounted) : u.tables.SlotsAccounted := ⟨k.1, k.2, k.3, k.4⟩
  have back (u : State) (k : u.tables.SlotsAccounted) : u.SlotsAccounted := ⟨k.1, k.2, k.3, k.4⟩
  exact back t (h ▸ of s k)

theorem State.HeatOnce.congr {s t : State} (h : t.tables = s.tables) (k : s.HeatOnce) : t.HeatOnce := by
  have of (u : State) (k : u.HeatOnce) : u.tables.HeatOnce := ⟨k.1, k.2, k.3, k.4⟩
  have back (u : State) (k : u.tables.HeatOnce) : u.HeatOnce := ⟨k.1, k.2, k.3, k.4⟩
  exact back t (h ▸ of s k)

theorem State.Ascending.congr {s t : State} (h : t.tables = s.tables) (k : s.Ascending) : t.Ascending := by
  have of (u : State) (k : u.Ascending) : u.tables.Ascending := ⟨k.1, k.2, k.3, k.4⟩
  have back (u : State) (k : u.tables.Ascending) : u.Ascending := ⟨k.1, k.2, k.3, k.4⟩
  exact back t (h ▸ of s k)

/-! ### What the map's updates leave -/

theorem State.watchRoom_tables (s : State) :
    s.watchRoom = { s with watch := s.watchRoom.watch, touch := s.watchRoom.touch, promo := s.watchRoom.promo } := by
  unfold State.watchRoom
  split
  · rfl
  · split <;> rfl

/-- Watching an extent changes the Watch List, last-touch order and the Promotion Queue alone. -/
theorem State.enterWatch_eq (a : ListEnd) (e : Nat) (h : Heat) (s : State) :
    s.enterWatch a e h =
      { s with watch := (s.enterWatch a e h).watch, touch := (s.enterWatch a e h).touch
               promo := (s.enterWatch a e h).promo } := by
  unfold State.enterWatch
  rw [State.watchRoom_tables]

/-- Heat that returns changes the Watch List, last-touch order and the Promotion Queue alone. -/
theorem State.returnHeat_eq (e : Nat) (h : Heat) (s : State) :
    s.returnHeat e h =
      { s with watch := (s.returnHeat e h).watch, touch := (s.returnHeat e h).touch
               promo := (s.returnHeat e h).promo } := by
  unfold State.returnHeat
  split
  · rfl
  · exact State.enterWatch_eq _ _ _ _

theorem State.settleSlot_eq (f : SlotFate) (n : Nat) (s : State) :
    s.settleSlot f n = { s with free := (s.settleSlot f n).free, fences := (s.settleSlot f n).fences } := by
  cases f <;> rfl

theorem State.settleSlot_fences {f : SlotFate} (h : ∀ t, f ≠ .fenced t) (n : Nat) (s : State) :
    (s.settleSlot f n).fences = s.fences := by
  cases f with
  | fenced t => exact absurd rfl (h t)
  | _ => rfl

@[simp] theorem State.enterWatch_records (a : ListEnd) (e : Nat) (h : Heat) (s : State) :
    (s.enterWatch a e h).records = s.records := by rw [State.enterWatch_eq]

@[simp] theorem State.returnHeat_records (e : Nat) (h : Heat) (s : State) :
    (s.returnHeat e h).records = s.records := by rw [State.returnHeat_eq]

@[simp] theorem State.settleSlot_records (f : SlotFate) (n : Nat) (s : State) :
    (s.settleSlot f n).records = s.records := by rw [State.settleSlot_eq]

namespace State.Becomes

variable {L : Licence} {s t : State}

/-! ### What every chain of updates leaves -/

/-- Chains of updates keep what the shared operations keep. -/
theorem keeps (h : State.Becomes L s t) : s.Keeps t := by
  induction h with
  | refl s => exact .refl s
  | trans _ _ ih ih' => exact ih.trans ih'
  | light _ keeps => exact keeps
  | touchClean s e => exact State.touchClean_keeps e s
  | rewatch s x h => exact State.setWatchHeat_keeps _ _ s
  | touchWatch s e => exact State.touchWatch_keeps e s
  | watch s e h => exact State.enterWatch_keeps _ _ _ s
  | unwatch s e => exact State.unwatch_keeps e s
  | replace s a _ new ctx => exact (State.store_keeps a new s).trans (State.withContexts_keeps ctx _)
  | remove s fate r h ctx =>
    exact (((State.withContexts_keeps ctx s).trans (State.drop_keeps r _)).trans (State.returnHeat_keeps _ _ _)).trans
      (State.settleSlot_keeps _ _ _)
  | enter s x ctx =>
    exact (((State.takeSlot_keeps _ s).trans (State.unwatch_keeps _ _)).trans (State.enter_keeps x _)).trans
      (State.withContexts_keeps ctx _)
  | pass s r x h =>
    exact (((State.drop_keeps r s).trans (State.returnHeat_keeps _ _ _)).trans (State.unwatch_keeps _ _)).trans
      (State.enter_keeps x _)
  | flag s f => exact State.withRecords_keeps _ s
  | requeue s e => exact State.withDirtyList_keeps _ s
  | progress s ctx => exact State.withContexts_keeps ctx s
  | ticket s n => exact State.withTickets_keeps n s
  | lift s f => exact (State.withFences_keeps _ s).trans (State.freeSlot_keeps _ _)
  | reroute s l => exact State.withRoutes_keeps l s
  | mark s k => exact State.withLastKind_keeps k s
  | conclude _ keeps => exact keeps

/-- A function of the state that no update of a licence moves. -/
structure Fixed {α : Type} (L : Licence) (f : State → α) : Prop where
  tables : ∀ s t : State, t.solid = s.solid → f t = f s
  records : ∀ (s : State) l c d p, f { s with records := l, clean := c, dirtyList := d, promo := p } = f s
  watch : ∀ (s : State) w t p, f { s with watch := w, touch := t, promo := p } = f s
  free : ∀ (s : State) l, f { s with free := l } = f s
  contexts : ∀ (s : State) v, L.moves = true ∨ L.routing = true → f { s with contexts := v } = f s
  tickets : ∀ (s : State) n, L.orders = true → f { s with tickets := n } = f s
  fences : ∀ (s : State) l, L.fences = true → f { s with fences := l } = f s
  routes : ∀ (s : State) l, L.routes = true → f { s with routes := l } = f s
  lastKind : ∀ (s : State) k, L.starts = true → f { s with lastKind := k } = f s
  finish : ∀ s t : State, (L.grants = false → t.claims = s.claims) → t.tables = s.tables → f t = f s

theorem Fixed.withContexts {α : Type} {f : State → α} (hf : Fixed L f) (s : State) (v : Vector Context 4)
    (hv : L.moves = false → L.routing = false → v = s.contexts) : f { s with contexts := v } = f s := by
  by_cases h : L.moves = true ∨ L.routing = true
  · exact hf.contexts s v h
  · simp only [not_or, Bool.not_eq_true] at h
    rw [hv h.1 h.2]

theorem Fixed.removal {α : Type} {f : State → α} (hf : Fixed L f) (s : State) (fate : SlotFate) (r : Resident)
    (h : Heat) (n : Nat) (hn : ∀ t, fate = .fenced t → L.fences = true) :
    f (((s.drop r).returnHeat r.extent h).settleSlot fate n) = f s := by
  have h1 (u : State) : f (u.settleSlot fate n) = f u := by
    rw [State.settleSlot_eq]
    by_cases hfate : ∃ t, fate = .fenced t
    · obtain ⟨t, ht⟩ := hfate
      exact (hf.fences { u with free := (u.settleSlot fate n).free } _ (hn t ht)).trans (hf.free u _)
    · rw [State.settleSlot_fences (fun t ht => hfate ⟨t, ht⟩)]
      exact hf.free u _
  have h2 : f ((s.drop r).returnHeat r.extent h) = f (s.drop r) := by
    rw [State.returnHeat_eq]
    exact hf.watch _ _ _ _
  exact ((h1 _).trans h2).trans (hf.records s _ _ _ _)

/-- A chain of updates leaves what its licence does not name. -/
theorem fixed {α : Type} {f : State → α} (hf : Fixed L f) (h : State.Becomes L s t) : f t = f s := by
  induction h with
  | refl s => rfl
  | trans _ _ ih ih' => exact ih'.trans ih
  | light same _ => exact hf.tables _ _ same
  | touchClean s e => exact hf.records s s.records _ s.dirtyList s.promo
  | rewatch s x h => exact hf.watch s _ s.touch s.promo
  | touchWatch s e => exact hf.watch s s.watch _ s.promo
  | watch s e h =>
    rw [State.enterWatch_eq]
    exact hf.watch s _ _ _
  | unwatch s e => exact hf.watch s _ _ s.promo
  | replace s a _ new ctx _ _ _ _ _ moves =>
    exact (hf.withContexts (s.store a new) ctx moves).trans (hf.records s _ _ _ _)
  | remove s fate r h ctx _ _ _ _ _ fenced moves =>
    exact (hf.removal _ fate r h r.slot (fun n hn => (fenced n hn).1)).trans
      (hf.withContexts s ctx (fun hm _ => moves hm))
  | enter s x ctx _ _ _ _ licence =>
    exact (((hf.contexts _ ctx licence.symm).trans (hf.records ((s.takeSlot x.slot).unwatch x.extent) _ _ _ _)).trans
      (hf.watch (s.takeSlot x.slot) _ _ _)).trans (hf.free s _)
  | pass s r x h =>
    exact ((hf.records (((s.drop r).returnHeat r.extent h).unwatch x.extent) _ _ _ _).trans
      (hf.watch ((s.drop r).returnHeat r.extent h) _ _ _)).trans
      (hf.removal s .passed r h r.slot (fun t ht => nomatch ht))
  | flag s g => exact hf.records s _ s.clean s.dirtyList s.promo
  | requeue s e => exact hf.records s s.records s.clean _ s.promo
  | progress s ctx licence => exact hf.contexts s ctx (.inl licence)
  | ticket s n licence => exact hf.tickets s n licence
  | lift s g _ licence => exact (hf.free { s with fences := s.fences.erase g } _).trans (hf.fences s _ licence)
  | reroute s l licence => exact hf.routes s l licence
  | mark s k licence => exact hf.lastKind s k licence
  | conclude same _ _ licence => exact hf.finish _ _ licence same

theorem routes_eq (h : State.Becomes L s t) (hL : L.routes = false) : t.routes = s.routes :=
  h.fixed (f := State.routes)
    { tables := fun _ _ k => State.tables_routes (State.tables_of_solid k), records := fun _ _ _ _ _ => rfl
      watch := fun _ _ _ _ => rfl, free := fun _ _ => rfl, contexts := fun _ _ _ => rfl, tickets := fun _ _ _ => rfl
      fences := fun _ _ _ => rfl, routes := fun _ _ k => by simp [hL] at k, lastKind := fun _ _ _ => rfl
      finish := fun _ _ _ k => State.tables_routes k }

theorem lastKind_eq (h : State.Becomes L s t) (hL : L.starts = false) : t.lastKind = s.lastKind :=
  h.fixed (f := State.lastKind)
    { tables := fun _ _ k => State.tables_lastKind (State.tables_of_solid k), records := fun _ _ _ _ _ => rfl
      watch := fun _ _ _ _ => rfl, free := fun _ _ => rfl, contexts := fun _ _ _ => rfl, tickets := fun _ _ _ => rfl
      fences := fun _ _ _ => rfl, routes := fun _ _ _ => rfl, lastKind := fun _ _ k => by simp [hL] at k
      finish := fun _ _ _ k => State.tables_lastKind k }

theorem tickets_eq (h : State.Becomes L s t) (hL : L.orders = false) : t.tickets = s.tickets :=
  h.fixed (f := State.tickets)
    { tables := fun _ _ k => State.tables_tickets (State.tables_of_solid k), records := fun _ _ _ _ _ => rfl
      watch := fun _ _ _ _ => rfl, free := fun _ _ => rfl, contexts := fun _ _ _ => rfl
      tickets := fun _ _ k => by simp [hL] at k
      fences := fun _ _ _ => rfl, routes := fun _ _ _ => rfl, lastKind := fun _ _ _ => rfl
      finish := fun _ _ _ k => State.tables_tickets k }

theorem fences_eq (h : State.Becomes L s t) (hL : L.fences = false) : t.fences = s.fences :=
  h.fixed (f := State.fences)
    { tables := fun _ _ k => State.tables_fences (State.tables_of_solid k), records := fun _ _ _ _ _ => rfl
      watch := fun _ _ _ _ => rfl, free := fun _ _ => rfl, contexts := fun _ _ _ => rfl, tickets := fun _ _ _ => rfl
      fences := fun _ _ k => by simp [hL] at k, routes := fun _ _ _ => rfl, lastKind := fun _ _ _ => rfl
      finish := fun _ _ _ k => State.tables_fences k }

theorem contexts_eq (h : State.Becomes L s t) (hm : L.moves = false) (hr : L.routing = false) :
    t.contexts = s.contexts :=
  h.fixed (f := State.contexts)
    { tables := fun _ _ k => State.tables_contexts (State.tables_of_solid k), records := fun _ _ _ _ _ => rfl
      watch := fun _ _ _ _ => rfl, free := fun _ _ => rfl, contexts := fun _ _ k => by simp [hm, hr] at k
      tickets := fun _ _ _ => rfl
      fences := fun _ _ _ => rfl, routes := fun _ _ _ => rfl, lastKind := fun _ _ _ => rfl
      finish := fun _ _ _ k => State.tables_contexts k }

theorem claims_eq (h : State.Becomes L s t) (hL : L.grants = false) : t.claims = s.claims :=
  h.fixed (f := State.claims)
    { tables := fun _ _ k => State.solid_claims k, records := fun _ _ _ _ _ => rfl
      watch := fun _ _ _ _ => rfl, free := fun _ _ => rfl, contexts := fun _ _ _ => rfl, tickets := fun _ _ _ => rfl
      fences := fun _ _ _ => rfl, routes := fun _ _ _ => rfl, lastKind := fun _ _ _ => rfl
      finish := fun _ _ k _ => k hL }

/-- Chains of updates leave the Claim Table lawful. -/
theorem claimsLawful (h : State.Becomes L s t) : s.ClaimsLawful → t.ClaimsLawful := by
  have of (u v : State) (k : v.claims = u.claims) (hu : u.ClaimsLawful) : v.ClaimsLawful := by
    unfold State.ClaimsLawful
    rw [k]
    exact hu
  induction h with
  | refl s => exact id
  | trans _ _ ih ih' => exact fun k => ih' (ih k)
  | light same _ => exact of _ _ (State.solid_claims same)
  | watch s e h => exact of s _ (by rw [State.enterWatch_eq])
  | remove s fate r h ctx => exact of s _ (by rw [State.settleSlot_eq, State.returnHeat_eq]; rfl)
  | pass s r x h =>
    refine of s _ ?_
    show ((s.drop r).returnHeat r.extent h).claims = s.claims
    rw [State.returnHeat_eq]
    rfl
  | conclude _ _ claims => exact claims
  | _ => refine of _ _ ?_; rfl

/-- Without a route or a start no record enters: an extent that is not resident stays so. -/
theorem absent (h : State.Becomes L s t) (hm : L.moves = false) (hr : L.routing = false) {e : Nat} :
    s.residentOf e = none → t.residentOf e = none := by
  have sub (u : State) (r : Resident) (k : u.residentOf e = none) : (u.drop r).residentOf e = none :=
    State.residentOf_eq_none.2 fun x hx => State.residentOf_eq_none.1 k x (List.mem_of_mem_filter hx)
  induction h with
  | refl s => exact id
  | trans _ _ ih ih' => exact fun k => ih' (ih k)
  | light same _ => exact fun k => (State.tables_residentOf (State.tables_of_solid same) e).trans k
  | watch s e h => exact fun k => (State.residentOf_congr (by simp) _).trans k
  | replace s a _ new ctx =>
    intro k
    have := State.residentOf_store a new s e
    rw [k] at this
    exact this
  | remove s fate r h ctx =>
    exact fun k => (State.residentOf_congr (by simp) _).trans (sub { s with contexts := ctx } r k)
  | enter s x ctx _ _ _ _ licence => simp [hm, hr] at licence
  | pass s r x h _ _ _ _ _ _ _ routing => simp [hr] at routing
  | flag s f flags =>
    intro k
    have : ({ s with records := s.records.map f } : State).residentOf e = (s.residentOf e).map f :=
      State.residentOf_map f rfl (fun r => by rw [(flags r).eq]) e
    rw [this, k]
    rfl
  | conclude same => exact fun k => (State.tables_residentOf same e).trans k
  | _ => exact id

end State.Becomes

end Sys2Proof.Machine
end

section
/-! SUPPORT. How moves and records stand beside each other when a record's contents or a context changes, and that the
records the model writes are lawful. -/

namespace Sys2Proof.Machine

/-! ### Moves matched by their records -/

theorem State.MovesMatched.matching {s : State} (h : s.MovesMatched) {c : Fin 4} {e : Nat}
    (hc : s.contexts[c].extentInMove = some e) : ∃ r, s.residentOf e = some r ∧ s.contexts[c].Matches r := by
  cases hx : s.contexts[c] with
  | idle => simp [hx, Context.extentInMove] at hc
  | marking n a => simp [hx, Context.extentInMove] at hc
  | fill m =>
    obtain ⟨r, hr, k⟩ := h.fills c m hx
    have he : m.extent = e := by simpa [hx, Context.extentInMove] using hc
    exact ⟨r, he ▸ hr, k⟩
  | flush m =>
    obtain ⟨r, hr, k⟩ := h.flushes c m hx
    have he : m.extent = e := by simpa [hx, Context.extentInMove] using hc
    exact ⟨r, he ▸ hr, k⟩

/-- Moves are matched when each context with a move on an extent is matched by that extent's record, and no two are on
one extent. -/
theorem State.MovesMatched.of {s : State} (lost : ∀ r ∈ s.records, r.LostApart)
    (matching : ∀ (c : Fin 4) e, s.contexts[c].extentInMove = some e →
      ∃ r, s.residentOf e = some r ∧ s.contexts[c].Matches r)
    (apart : ∀ c d : Fin 4, c ≠ d → ∀ e, s.contexts[c].extentInMove = some e → s.contexts[d].extentInMove ≠ some e) :
    s.MovesMatched where
  lost := lost
  fills c m hc := by
    obtain ⟨r, hr, k⟩ := matching c m.extent (by rw [hc]; rfl)
    rw [hc] at k
    exact ⟨r, hr, k⟩
  flushes c m hc := by
    obtain ⟨r, hr, k⟩ := matching c m.extent (by rw [hc]; rfl)
    rw [hc] at k
    exact ⟨r, hr, k⟩
  apart := apart

theorem Context.Matches.congr {x : Context} {r r' : Resident} (h : x.Matches r) (hslot : r'.slot = r.slot)
    (hstate : r'.state = r.state) (hvalid : r'.valid = r.valid) (hlost : r'.lost = r.lost) : x.Matches r' := by
  cases x <;> simp_all [Context.Matches, Resident.isEmpty]

/-- No move is in flight on an extent whose record is RESIDENT (R109). -/
theorem State.MovesMatched.leave_of_resident {s : State} (h : s.MovesMatched) {r : Resident}
    (hr : s.residentOf r.extent = some r) (hs : r.state = .resident) : s.ContextsLeave r.extent s.contexts := by
  intro c
  refine .inr ⟨rfl, fun hc => ?_⟩
  obtain ⟨r', hr', k⟩ := h.matching hc
  rw [hr] at hr'
  cases hr'
  cases hx : s.contexts[c] <;> simp_all [Context.Matches]

/-- No move is in flight on an extent that is not resident. -/
theorem State.MovesMatched.leave_of_absent {s : State} (h : s.MovesMatched) {e : Nat}
    (he : s.residentOf e = none) : s.ContextsLeave e s.contexts := by
  intro c
  refine .inr ⟨rfl, fun hc => ?_⟩
  obtain ⟨r, hr, -⟩ := h.matching hc
  simp [he] at hr

/-- The end of the one move on an extent. -/
theorem State.MovesMatched.leave_of_end {s : State} (h : s.MovesMatched) {c : Fin 4} {e : Nat}
    (hc : s.contexts[c].extentInMove = some e) {x : Context} (hx : x.extentInMove = none) :
    s.ContextsLeave e (s.contexts.set c x) := by
  intro d
  rw [set_getElem_fin]
  by_cases hd : d = c
  · simp [hd, hx]
  · simpa [hd] using .inr (h.apart c d (Ne.symm hd) e hc)

theorem State.ContextsLeave.fit {s : State} {r : Resident} {ctx : Vector Context 4}
    (h : s.ContextsLeave r.extent ctx) : s.ContextsFit r ctx :=
  fun c => (h c).imp id .inl

/-- A move that starts on an extent without one. -/
theorem State.ContextsLeave.fit_start {s : State} {r : Resident} (h : s.ContextsLeave r.extent s.contexts)
    (c : Fin 4) {x : Context} (hx : x.extentInMove = some r.extent) (hm : x.Matches r) :
    s.ContextsFit r (s.contexts.set c x) := by
  intro d
  rw [set_getElem_fin]
  by_cases hd : d = c
  · refine .inr (.inr ?_)
    simp only [hd, if_true]
    refine ⟨hx, hm, fun j hj => ?_⟩
    rw [set_getElem_fin] at hj
    by_contra hne
    rw [if_neg hne] at hj
    rcases h j with k | ⟨-, k⟩
    · exact nomatch k.symm.trans hj
    · exact k hj
  · rw [if_neg hd]
    exact (h d).imp id .inl

/-- A change of one record, with the contexts changed at most where they hold a move on it. -/
theorem State.MovesMatched.fit_of {s : State} (h : s.MovesMatched) {old new : Resident}
    (hr : s.residentOf new.extent = some old) {ctx : Vector Context 4}
    (hm : ∀ c : Fin 4, ctx[c].extentInMove = s.contexts[c].extentInMove ∧
      (s.contexts[c].extentInMove ≠ some new.extent → ctx[c] = s.contexts[c] ∨ ctx[c].extentInMove = none) ∧
      (s.contexts[c].extentInMove = some new.extent → s.contexts[c].Matches old → ctx[c].Matches new)) :
    s.ContextsFit new ctx := by
  intro c
  obtain ⟨he, hne, hma⟩ := hm c
  by_cases hc : s.contexts[c].extentInMove = some new.extent
  · obtain ⟨r, hr', k⟩ := h.matching hc
    rw [hr] at hr'
    cases hr'
    refine .inr (.inr ⟨he.trans hc, hma hc k, fun d hd => ?_⟩)
    by_contra hdc
    exact h.apart c d (fun e => hdc e.symm) _ hc ((hm d).1 ▸ hd)
  · rcases hne hc with k | k
    · exact .inr (.inl ⟨k, by rw [k]; exact hc⟩)
    · exact .inl k

/-- A record that keeps its slot, its state and its segments. -/
theorem State.MovesMatched.fit_same {s : State} (h : s.MovesMatched) {old new : Resident}
    (hr : s.residentOf new.extent = some old) (hslot : new.slot = old.slot) (hstate : new.state = old.state)
    (hvalid : new.valid = old.valid) (hlost : new.lost = old.lost) : s.ContextsFit new s.contexts :=
  h.fit_of hr fun _ => ⟨rfl, fun _ => .inl rfl, fun _ k => k.congr hslot hstate hvalid hlost⟩

theorem State.MovesMatched.lostApart {s : State} (h : s.MovesMatched) {e : Nat} {r : Resident}
    (hr : s.residentOf e = some r) : r.LostApart :=
  h.lost r (State.residentOf_mem hr).1

/-- A record on a clean list is clean, unpinned and RESIDENT (R18, R94). -/
theorem State.ListsFiled.of_clean {s : State} (h : s.ListsFiled) {b : Band} {e : Nat} (he : e ∈ s.clean.get b)
    {r : Resident} (hr : s.residentOf e = some r) : r.dirty = 0#32 ∧ r.pinned = false ∧ r.state = .resident := by
  obtain ⟨r', hm, he', hb⟩ := (h.clean b e).1 he
  have := State.residentOf_of_mem h.extents hm
  rw [he', hr] at this
  cases this
  unfold Resident.cleanBand at hb
  split at hb
  · assumption
  · simp at hb

/-- A context with a move is not idle. -/
theorem State.not_still {s : State} {c : Fin 4} {e : Nat} (h : s.contexts[c].extentInMove = some e) : ¬ s.Still := by
  intro hs
  rw [hs c] at h
  cases h

/-! ### Lawful records -/

theorem segLess_self (a : SegSet) : segLess a a = 0#32 := by simp [segLess]

/-- A record's dirty set stays in its valid set when both lose the same segments. -/
theorem segLess_segLess {a b : SegSet} (h : segLess a b = 0#32) (c : SegSet) :
    segLess (segLess a c) (segLess b c) = 0#32 := by
  refine BitVec.eq_of_getLsbD_eq fun i hi => ?_
  have := congrArg (fun x : SegSet => x.getLsbD i) h
  simp only [segLess, BitVec.getLsbD_and, BitVec.getLsbD_not, BitVec.getLsbD_zero, hi] at this ⊢
  grind

/-- A record's dirty set stays in its valid set when both gain the same segments. -/
theorem segLess_or_or {a b : SegSet} (h : segLess a b = 0#32) (c : SegSet) : segLess (a ||| c) (b ||| c) = 0#32 := by
  refine BitVec.eq_of_getLsbD_eq fun i hi => ?_
  have := congrArg (fun x : SegSet => x.getLsbD i) h
  simp only [segLess, BitVec.getLsbD_and, BitVec.getLsbD_not, BitVec.getLsbD_or, BitVec.getLsbD_zero, hi] at this ⊢
  grind

theorem segLess_or_right {a b : SegSet} (h : segLess a b = 0#32) (c : SegSet) : segLess a (b ||| c) = 0#32 := by
  refine BitVec.eq_of_getLsbD_eq fun i hi => ?_
  have := congrArg (fun x : SegSet => x.getLsbD i) h
  simp only [segLess, BitVec.getLsbD_and, BitVec.getLsbD_not, BitVec.getLsbD_or, BitVec.getLsbD_zero, hi] at this ⊢
  grind

theorem segLess_left {a b : SegSet} (h : segLess a b = 0#32) (c : SegSet) : segLess (segLess a c) b = 0#32 := by
  refine BitVec.eq_of_getLsbD_eq fun i hi => ?_
  have := congrArg (fun x : SegSet => x.getLsbD i) h
  simp only [segLess, BitVec.getLsbD_and, BitVec.getLsbD_not, BitVec.getLsbD_zero, hi] at this ⊢
  grind

/-- A stored record is lawful when its parts are: what filing it settles need not hold before. -/
theorem Resident.settled_lawful {r : Resident} (valid : r.DirtyValid) (retries : r.retries ≤ 3)
    (flushing : r.state = .flushing → r.dirty ≠ 0#32 → r.stuck = false) (heat : r.heat.InRange) : r.settled.Lawful where
  dirtyValid := by simpa [Resident.DirtyValid] using valid
  settled := by simp [Resident.settled_eq]; tauto
  retries := by simp only [Resident.settled_eq]; split <;> omega
  flushing := by
    simp only [Resident.settled_eq]
    intro h
    split
    · rfl
    · exact flushing h (by assumption)
  heat := by simpa using heat

/-- A record that an examination brings up to date stays lawful. -/
theorem State.caughtUpRecord_lawful {s : State} (w : Nat) (hg : s.settings.InRange) (he : s.epoch < 65536)
    {r : Resident} (h : r.Lawful) : (s.caughtUpRecord w r).settled.Lawful :=
  Resident.settled_lawful h.dirtyValid h.retries (fun k _ => h.flushing k) (State.heatNow_inRange w hg he h.heat)

theorem Resident.lose_lawful {r : Resident} (a : SegSet) (h : r.Lawful) : (r.lose a).settled.Lawful :=
  Resident.settled_lawful (segLess_segLess h.dirtyValid a) h.retries (fun k _ => h.flushing k) h.heat

theorem Resident.trim_lawful {r : Resident} (a : SegSet) (h : r.Lawful) : (r.trim a).settled.Lawful :=
  Resident.settled_lawful (segLess_segLess h.dirtyValid a) h.retries (fun k _ => h.flushing k) h.heat

theorem Resident.written_lawful {r : Resident} (a : SegSet) (h : r.Lawful) : (r.written a).settled.Lawful :=
  Resident.settled_lawful (segLess_or_or h.dirtyValid a) h.retries (fun k _ => h.flushing k) h.heat

/-- A record returned to RESIDENT stays lawful. -/
theorem Resident.returned_lawful {r : Resident} (h : r.Lawful) :
    ({ r with state := .resident } : Resident).settled.Lawful :=
  Resident.settled_lawful h.dirtyValid h.retries (fun k => nomatch k) h.heat

theorem Resident.charged_lawful {r : Resident} (h : r.Lawful) : r.charged.settled.Lawful :=
  Resident.settled_lawful h.dirtyValid (Nat.min_le_right _ _) (fun k => nomatch k) h.heat

theorem Resident.lose_lostApart {r : Resident} (a : SegSet) (h : r.LostApart) : (r.lose a).LostApart := by
  unfold Resident.LostApart at *
  refine BitVec.eq_of_getLsbD_eq fun i hi => ?_
  have := congrArg (fun x : SegSet => x.getLsbD i) h
  simp only [Resident.lose, segLess, BitVec.getLsbD_and, BitVec.getLsbD_or, BitVec.getLsbD_not, BitVec.getLsbD_zero,
    hi] at this ⊢
  grind

theorem Resident.trim_lostApart {r : Resident} (a : SegSet) (h : r.LostApart) : (r.trim a).LostApart := by
  unfold Resident.LostApart at *
  refine BitVec.eq_of_getLsbD_eq fun i hi => ?_
  have := congrArg (fun x : SegSet => x.getLsbD i) h
  simp only [Resident.trim, segLess, BitVec.getLsbD_and, BitVec.getLsbD_or, BitVec.getLsbD_not, BitVec.getLsbD_zero,
    hi] at this ⊢
  grind

theorem Resident.written_lostApart {r : Resident} (a : SegSet) (h : r.LostApart) : (r.written a).LostApart := by
  unfold Resident.LostApart at *
  refine BitVec.eq_of_getLsbD_eq fun i hi => ?_
  have := congrArg (fun x : SegSet => x.getLsbD i) h
  simp only [Resident.written, segLess, BitVec.getLsbD_and, BitVec.getLsbD_or, BitVec.getLsbD_not,
    BitVec.getLsbD_zero, hi] at this ⊢
  grind

/-- The validate set of a FILL joins the valid set of its record, apart from the lost set (R113). -/
theorem Resident.validated_lostApart {r : Resident} {a : SegSet} (h : r.LostApart)
    (ha : a &&& (r.valid ||| r.lost) = 0#32) :
    ({ r with valid := r.valid ||| a, state := .resident } : Resident).LostApart := by
  unfold Resident.LostApart at *
  refine BitVec.eq_of_getLsbD_eq fun i hi => ?_
  have h1 := congrArg (fun x : SegSet => x.getLsbD i) h
  have h2 := congrArg (fun x : SegSet => x.getLsbD i) ha
  simp only [BitVec.getLsbD_and, BitVec.getLsbD_or, BitVec.getLsbD_zero] at h1 h2 ⊢
  grind

/-! ### Moves matched after writes, trims and losses -/

/-- Lost segments were valid: a record's valid and lost segments together stand (R69). -/
theorem Resident.lose_union {r : Resident} (a : SegSet) (ha : segLess a r.valid = 0#32) :
    (r.lose a).valid ||| (r.lose a).lost = r.valid ||| r.lost := by
  refine BitVec.eq_of_getLsbD_eq fun i hi => ?_
  have := congrArg (fun x : SegSet => x.getLsbD i) ha
  simp only [Resident.lose, segLess, BitVec.getLsbD_and, BitVec.getLsbD_or, BitVec.getLsbD_not, BitVec.getLsbD_zero,
    hi] at this ⊢
  grind

theorem Resident.isEmpty_iff_union (r : Resident) : r.isEmpty = true ↔ r.valid ||| r.lost = 0#32 := by
  rw [Resident.isEmpty_iff]
  constructor
  · rintro ⟨h, k⟩
    simp [h, k]
  · intro h
    have hb (i : Nat) : r.valid.getLsbD i = false ∧ r.lost.getLsbD i = false := by
      have := congrArg (fun x : SegSet => x.getLsbD i) h
      simpa using this
    exact ⟨BitVec.eq_of_getLsbD_eq fun i _ => by simpa using (hb i).1,
      BitVec.eq_of_getLsbD_eq fun i _ => by simpa using (hb i).2⟩

/-- A move matched by a record is matched by it when its state, its slot and its union of valid and lost stand. -/
theorem Context.Matches.of_union {x : Context} {r r' : Resident} (h : x.Matches r) (hslot : r'.slot = r.slot)
    (hstate : r'.state = r.state) (hu : r'.valid ||| r'.lost = r.valid ||| r.lost) : x.Matches r' := by
  cases x with
  | fill m =>
    obtain ⟨h1, h2, h3, h4⟩ := h
    exact ⟨hslot.trans h1, hstate.trans h2, hu ▸ h3,
      fun k => (Resident.isEmpty_iff_union r').2 (hu ▸ (Resident.isEmpty_iff_union r).1 (h4 k))⟩
  | flush m => exact ⟨hslot.trans h.1, hstate.trans h.2⟩
  | idle => exact h
  | marking n a => exact h

/-- A WRITE's flash segments that were neither valid nor lost are touched absent ones (R56). -/
theorem Span.writeFlash_le (sp : Span) (r : Resident) (policy : Policy) (i : Nat)
    (h : (sp.writeFlash r policy).getLsbD i = true) :
    r.valid.getLsbD i = true ∨ r.lost.getLsbD i = true ∨ (sp.touched &&& r.absent).getLsbD i = true := by
  have hf : sp.full.getLsbD i = true → sp.touched.getLsbD i = true := by
    intro k
    rw [← Span.full_and_touched] at k
    simp only [BitVec.getLsbD_and, Bool.and_eq_true] at k
    exact k.2
  unfold Span.writeFlash at h
  simp only [BitVec.getLsbD_or, BitVec.getLsbD_and, Bool.or_eq_true, Bool.and_eq_true] at h
  rcases h with (⟨-, h⟩ | ⟨-, h⟩) | h
  · exact .inl h
  · exact .inr (.inl h)
  · split at h
    · simp at h
    · simp only [BitVec.getLsbD_and, Bool.and_eq_true] at h
      exact .inr (.inr (by simp [hf h.1, h.2]))

/-- A move matched by a record is, after a WRITE to both, matched by it (R56, R111, R112). -/
theorem Context.Matches.written {x : Context} {r : Resident} (h : x.Matches r) {sp : Span} (policy : Policy)
    (hx : x.extentInMove = some sp.extent) :
    (Context.written sp.extent (sp.touched &&& r.absent) (sp.writeFlash r policy)
      (r.written (sp.writeFlash r policy)).isEmpty x).Matches (r.written (sp.writeFlash r policy)) := by
  cases x with
  | fill m =>
    have he : m.extent = sp.extent := by simpa [Context.extentInMove] using hx
    obtain ⟨h1, h2, h3, h4⟩ := h
    simp only [Context.written, he, if_true]
    refine ⟨h1, h2, ?_, fun k => ?_⟩
    · refine BitVec.eq_of_getLsbD_eq fun i hi => ?_
      have h3 := congrArg (fun x : SegSet => x.getLsbD i) h3
      have hle := Span.writeFlash_le sp r policy i
      simp only [Resident.written, segLess, BitVec.getLsbD_and, BitVec.getLsbD_or, BitVec.getLsbD_not,
        BitVec.getLsbD_zero, hi] at h3 hle ⊢
      cases hm : m.validate.getLsbD i
      · simp
      · simp only [hm, Bool.true_and, Bool.or_eq_false_iff] at h3
        simp only [h3.1, h3.2, Bool.false_eq_true, false_or] at hle
        cases hw : (sp.writeFlash r policy).getLsbD i
        · simp [h3.1, h3.2]
        · simp [hle hw]
    · simp only [Bool.and_eq_true] at k
      exact k.2
  | flush m =>
    have he : m.extent = sp.extent := by simpa [Context.extentInMove] using hx
    simp only [Context.written, he, if_true]
    exact h
  | idle => exact h.elim
  | marking n a => exact h.elim

/-- A move matched by a record is, after a TRIM of both, matched by it (R61). -/
theorem Context.Matches.trimmed {x : Context} {r : Resident} (h : x.Matches r) (e : Nat) (full : SegSet)
    (hx : x.extentInMove = some e) : (Context.trimmed e full x).Matches (r.trim full) := by
  cases x with
  | fill m =>
    have he : m.extent = e := by simpa [Context.extentInMove] using hx
    obtain ⟨h1, h2, h3, h4⟩ := h
    simp only [Context.trimmed, he, if_true]
    refine ⟨h1, h2, ?_, fun k => ?_⟩
    · refine BitVec.eq_of_getLsbD_eq fun i hi => ?_
      have h3 := congrArg (fun x : SegSet => x.getLsbD i) h3
      simp only [Resident.trim, segLess, BitVec.getLsbD_and, BitVec.getLsbD_or, BitVec.getLsbD_not,
        BitVec.getLsbD_zero, hi] at h3 ⊢
      grind
    · obtain ⟨hv, hl⟩ := (Resident.isEmpty_iff r).1 (h4 k)
      simp [Resident.isEmpty_iff, Resident.trim, hv, hl, segLess]
  | flush m => exact h
  | idle => exact h.elim
  | marking n a => exact h.elim

@[simp] theorem Context.written_extentInMove (e : Nat) (a b : SegSet) (bare : Bool) (x : Context) :
    (Context.written e a b bare x).extentInMove = x.extentInMove := by
  cases x <;> simp only [Context.written] <;> (try split) <;> rfl

theorem Context.written_of_ne {e : Nat} (a b : SegSet) (bare : Bool) {x : Context}
    (h : x.extentInMove ≠ some e) : Context.written e a b bare x = x := by
  cases x <;> simp_all [Context.written, Context.extentInMove]

@[simp] theorem Context.trimmed_extentInMove (e : Nat) (full : SegSet) (x : Context) :
    (Context.trimmed e full x).extentInMove = x.extentInMove := by
  cases x <;> simp only [Context.trimmed] <;> (try split) <;> rfl

theorem Context.trimmed_of_ne {e : Nat} (full : SegSet) {x : Context} (h : x.extentInMove ≠ some e) :
    Context.trimmed e full x = x := by
  cases x <;> simp_all [Context.trimmed, Context.extentInMove]

end Sys2Proof.Machine
end

section
/-! SUPPORT. Each shared operation of the heat, slot and scheduler blocks as a chain of the updates of
`State.Becomes`, with the licence it needs. -/

namespace Sys2Proof.Machine

/-! ### Light operations -/

@[simp] theorem State.place_solid (p : Port) (r : Outbound) (s : State) : (s.place p r).solid = s.solid := by
  unfold State.place
  split
  · cases p <;> rfl
  · rfl

theorem State.produceRetire_solid (n : Nat) (s : State) : (s.produceRetire n).solid = s.solid := by
  unfold State.produceRetire
  split
  · exact State.place_solid _ _ s
  · rfl

theorem State.placeDemand_solid (r : Reason) (s : State) : (s.placeDemand r).solid = s.solid :=
  State.place_solid .disk (.spinUpDemand r) s

theorem State.produceDemand_solid (r : Reason) (s : State) : (s.produceDemand r).solid = s.solid := by
  unfold State.produceDemand
  split
  · exact State.placeDemand_solid r s
  · rfl

theorem State.produceAdvice_solid (s : State) : s.produceAdvice.solid = s.solid := by
  unfold State.produceAdvice
  split
  · exact State.place_solid _ _ s
  · rfl

theorem State.armAdvice_solid (s : State) : s.armAdvice.solid = s.solid := by
  unfold State.armAdvice
  split <;> rfl

theorem State.adjustPromo_solid (e : Nat) (b : Bool) (s : State) : (s.adjustPromo e b).solid = s.solid := by
  unfold State.adjustPromo
  split
  · split
    · rfl
    · split <;> rfl
  · rfl

theorem State.markLost_solid (n : Nat) (a : SegSet) (s : State) : (s.markLost n a).solid = s.solid :=
  State.place_solid .flash (.lostMark n a) s

/-! ### Operations that do not look at the contexts -/

theorem State.place_withContexts (p : Port) (r : Outbound) (s : State) (v : Vector Context 4) :
    State.place p r { s with contexts := v } = { s.place p r with contexts := v } := by
  have (q : Port) : State.link { s with contexts := v } q = s.link q := by cases q <;> rfl
  have h : State.hasRoom { s with contexts := v } p 1 = s.hasRoom p 1 := by simp [State.hasRoom, this]
  unfold State.place
  rw [h]
  split
  · cases p <;> rfl
  · rfl

theorem State.produceRetire_withContexts (n : Nat) (s : State) (v : Vector Context 4) :
    State.produceRetire n { s with contexts := v } = { s.produceRetire n with contexts := v } := by
  unfold State.produceRetire
  have h : State.hasRoom { s with contexts := v } .flash 1 = s.hasRoom .flash 1 := rfl
  rw [h]
  dsimp only
  split
  · exact State.place_withContexts _ _ s v
  · rfl

theorem State.markLost_withContexts (n : Nat) (a : SegSet) (s : State) (v : Vector Context 4) :
    State.markLost n a { s with contexts := v } = { s.markLost n a with contexts := v } := by
  simp only [State.markLost, State.place_withContexts]

theorem State.noticeLost_withContexts (e : Nat) (a : SegSet) (s : State) (v : Vector Context 4) :
    State.noticeLost e a { s with contexts := v } = { s.noticeLost e a with contexts := v } := by
  unfold State.noticeLost
  have h : State.hasRoom { s with contexts := v } .front 1 = s.hasRoom .front 1 := rfl
  rw [h]
  split
  · exact State.place_withContexts _ _ s v
  · rfl

/-! ### Flags -/

theorem Resident.Flagged.refl (r : Resident) : r.Flagged r := ⟨rfl, rfl, id⟩

theorem Resident.Flagged.of_owed (r : Resident) (o : OwedNotice) : r.Flagged { r with owed := o } :=
  ⟨rfl, rfl, fun h => ⟨h.1, h.2, h.3, h.4, h.5⟩⟩

theorem Resident.Flagged.unmarked (r : Resident) : r.Flagged { r with drainMark := false } :=
  ⟨rfl, rfl, fun h => ⟨h.1, fun k => ⟨rfl, (h.2 k).2⟩, h.3, h.4, h.5⟩⟩

theorem Resident.Flagged.marked {r : Resident} (hr : r.dirty ≠ 0#32) : r.Flagged { r with drainMark := true } :=
  ⟨rfl, rfl, fun h => ⟨h.1, fun k => absurd k hr, h.3, h.4, h.5⟩⟩

theorem Resident.Flagged.cold (r : Resident) : r.Flagged { r with heat := { r.heat with heat := 0 } } :=
  ⟨rfl, rfl, fun h => ⟨h.1, h.2, h.3, h.4, ⟨Nat.zero_le _, h.5.2⟩⟩⟩

theorem Resident.Flagged.retried (r : Resident) : r.Flagged r.retried :=
  ⟨rfl, rfl, fun h => ⟨h.1, fun k => ⟨(h.2 k).1, rfl, rfl⟩, Nat.zero_le _, fun _ => rfl, h.5⟩⟩

theorem Resident.Flagged.forgetFront (r : Resident) : r.Flagged r.forgetFront :=
  ⟨rfl, rfl, fun h => ⟨h.1, fun k => ⟨rfl, (h.2 k).2⟩, h.3, h.4, h.5⟩⟩

theorem Resident.Flagged.ite {p : Prop} [Decidable p] {r a b : Resident} (h : p → r.Flagged a) (k : ¬p → r.Flagged b) :
    r.Flagged (if p then a else b) := by
  split
  · exact h ‹_›
  · exact k ‹_›

namespace State.Becomes

variable {L : Licence}

theorem place (p : Port) (r : Outbound) (s : State) : State.Becomes L s (s.place p r) :=
  .light (State.place_solid p r s) (State.place_keeps p r s)

theorem produceRetire (n : Nat) (s : State) : State.Becomes L s (s.produceRetire n) :=
  .light (State.produceRetire_solid n s) (State.produceRetire_keeps n s)

theorem placeDemand (r : Reason) (s : State) : State.Becomes L s (s.placeDemand r) :=
  .light (State.placeDemand_solid r s) (State.placeDemand_keeps r s)

theorem produceDemand (r : Reason) (s : State) : State.Becomes L s (s.produceDemand r) :=
  .light (State.produceDemand_solid r s) (State.produceDemand_keeps r s)

theorem produceAdvice (s : State) : State.Becomes L s s.produceAdvice :=
  .light (State.produceAdvice_solid s) (State.produceAdvice_keeps s)

theorem armAdvice (s : State) : State.Becomes L s s.armAdvice :=
  .light (State.armAdvice_solid s) (State.armAdvice_keeps s)

theorem adjustPromo (e : Nat) (b : Bool) (s : State) : State.Becomes L s (s.adjustPromo e b) :=
  .light (State.adjustPromo_solid e b s) (State.adjustPromo_keeps e b s)

theorem unqueue (e : Nat) (s : State) : State.Becomes L s (s.unqueue e) := .light rfl (State.unqueue_keeps e s)

theorem markLost (n : Nat) (a : SegSet) (s : State) : State.Becomes L s (s.markLost n a) :=
  .light (State.markLost_solid n a s) (State.markLost_keeps n a s)

theorem setOwed (e : Nat) (f : OwedNotice → OwedNotice) (s : State) : State.Becomes L s (s.setOwed e f) :=
  .flag s _ fun r => .ite (fun _ => .of_owed r _) (fun _ => .refl r)

theorem noticeStuck (e : Nat) (s : State) : State.Becomes L s (s.noticeStuck e) := by
  unfold State.noticeStuck
  split
  · exact place _ _ s
  · exact setOwed _ _ s

theorem noticeLost (e : Nat) (a : SegSet) (s : State) : State.Becomes L s (s.noticeLost e a) := by
  unfold State.noticeLost
  split
  · exact place _ _ s
  · exact setOwed _ _ s

theorem penalise (e : Nat) (s : State) : State.Becomes L s (s.penalise e) :=
  .trans (.flag s _ fun r => .ite (fun _ => .cold r) (fun _ => .refl r)) (unqueue e _)

theorem clearMarks (s : State) : State.Becomes L s s.clearMarks := .flag s _ fun r => .unmarked r

theorem markDirty (s : State) : State.Becomes L s s.markDirty :=
  .flag s _ fun r => .ite (fun _ => .refl r) (fun h => .marked h)

/-! ### Heat -/

/-- A record's contents are replaced beside contexts that stand. -/
theorem store (a : ListEnd) (old new : Resident) (s : State) (resident : s.residentOf new.extent = some old)
    (slot : new.slot = old.slot)
    (lawful : s.settings.InRange → s.epoch < 65536 → old.Lawful → new.settled.Lawful)
    (matched : s.MovesMatched → new.LostApart ∧ s.ContextsFit new s.contexts)
    (segments : L.segments = false → new.state = old.state ∧ new.valid = old.valid ∧ new.dirty = old.dirty ∧
      new.lost = old.lost)
    (bare : L.routing = false → old.isEmpty = false → new.isEmpty = false) : State.Becomes L s (s.store a new) :=
  .replace s a old new s.contexts resident slot lawful matched segments (fun _ _ => rfl)
    (fun _ hs => ⟨hs, bare⟩)

theorem examineResident (w : Nat) (r : Resident) (s : State) (h : s.residentOf r.extent = some r) :
    State.Becomes L s (s.examineResident w r) := by
  have hr : s.residentOf (s.caughtUpRecord w r).extent = some r := h
  have hst := store (L := L) (catchUpEnd r (s.caughtUpRecord w r)) r (s.caughtUpRecord w r) s hr rfl
    (fun hg he hr => State.caughtUpRecord_lawful w hg he hr)
    (fun hm => ⟨(hm.lostApart h : r.LostApart), hm.fit_same hr rfl rfl rfl rfl⟩)
    (fun _ => ⟨rfl, rfl, rfl, rfl⟩) (fun _ hr => hr)
  exact hst.trans (adjustPromo _ _ _)

theorem examineWatched (w : Nat) (x : WatchEntry) (s : State) (h : x ∈ s.watch) :
    State.Becomes L s (s.examineWatched w x) :=
  .trans (.rewatch s x _ h fun hg he hx => State.heatNow_inRange w hg he hx) (adjustPromo _ _ _)

theorem watchOf_extent {s : State} {e : Nat} {x : WatchEntry} (h : s.watchOf e = some x) : x.extent = e := by
  simpa using List.find?_some h

theorem examine (w e : Nat) (s : State) : State.Becomes L s (s.examine w e) := by
  unfold State.examine
  split
  · rename_i r h
    exact examineResident w r s (State.residentOf_extent h ▸ h)
  · split
    · rename_i x h
      exact examineWatched w x s (List.mem_of_find?_eq_some h)
    · exact .refl s

theorem weighExtent (w e : Nat) (s : State) (hL : L.routing = true) : State.Becomes L s (s.weighExtent w e) := by
  simp only [State.weighExtent]
  split
  · rename_i r h
    exact (examineResident _ r s (State.residentOf_extent h ▸ h)).trans (.touchClean _ _)
  · rename_i h
    split
    · rename_i x hx
      refine (examineWatched _ x s (List.mem_of_find?_eq_some hx)).trans (.touchWatch _ _ ?_)
      have := watchOf_extent hx
      simp only [State.examineWatched]
      rw [State.watchOf_congr (State.tables_watch (State.tables_of_solid (State.adjustPromo_solid _ _ _)))]
      simp only [State.watchOf, State.setWatchHeat, ne_eq, List.find?_eq_none, List.mem_map, not_forall]
      refine ⟨_, ⟨x, List.mem_of_find?_eq_some hx, rfl⟩, ?_⟩
      simp [this]
    · rename_i hx
      split
      · exact .refl s
      · exact .watch s e _ h hx (fun _ he => State.newHeat_inRange _ he) hL

/-! ### Victims and removals -/

theorem removal (fate : SlotFate) (r : Resident) (s : State) (ctx : Vector Context 4)
    (h : s.residentOf r.extent = some r) (matched : s.ListsFiled → s.MovesMatched → s.ContextsLeave r.extent ctx)
    (licence : L.removes = true) (settled : fate ≠ .passed)
    (fenced : ∀ n, fate = .fenced n → L.fences = true ∧ (s.Still → s.service = .serving))
    (moves : L.moves = false → ctx = s.contexts)
    (still : s.service ≠ .serving → s.Still → (∀ c : Fin 4, ctx[c] = .idle) ∧
      (L.routing = false → r.isEmpty = true)) :
    State.Becomes L s (State.remove fate r { s with contexts := ctx }) := by
  have of_solid (u : State) (hu : u.solid = s.solid) :
      State.Becomes L u ((((State.drop r { u with contexts := ctx }).returnHeat r.extent
        (r.heat.caughtUp s.settings s.epoch)).settleSlot fate r.slot)) := by
    have ht := State.tables_of_solid hu
    have hsv := State.tables_service ht
    have hst : u.Still → s.Still := fun k c => by rw [← State.tables_contexts ht]; exact k c
    have hg : u.settings = s.settings := State.solid_settings hu
    have he : u.epoch = s.epoch := State.solid_epoch hu
    refine .remove u fate r _ ctx ((State.tables_residentOf ht _).trans h)
      (fun a b c => Heat.caughtUp_inRange (hg ▸ a) (he ▸ b) c) (fun a b c => ?_) licence settled
      (fun n hn => ⟨(fenced n hn).1, fun k => hsv ▸ (fenced n hn).2 (hst k)⟩)
      (fun k => (moves k).trans (State.tables_contexts ht).symm) (fun a b => still (hsv ▸ a) (hst b))
    have := matched (a.congr ht.symm) (b.congr ht.symm) c
    rwa [State.tables_contexts ht]
  simp only [State.remove]
  split
  · rw [State.produceRetire_withContexts]
    exact (produceRetire r.slot s).trans (of_solid _ (State.produceRetire_solid _ s))
  · exact of_solid s rfl

theorem retireIfEmpty (fate : SlotFate) (e : Nat) (s : State) (hf : fate.announced = true ∨ fate = .freedSilently)
    (hp : fate ≠ .passed) (hL : L.removes = true) : State.Becomes L s (s.retireIfEmpty fate e) := by
  unfold State.retireIfEmpty
  split
  · exact .refl s
  · rename_i r h
    split
    · rename_i hr
      simp only [Bool.and_eq_true, beq_iff_eq] at hr
      have h' : s.residentOf r.extent = some r := State.residentOf_extent h ▸ h
      exact removal fate r s s.contexts h' (fun _ hm => hm.leave_of_resident h' hr.1.2) hL hp
        (fun n hn => by subst hn; simp [SlotFate.announced] at hf) (fun _ => rfl) (fun _ hs => ⟨hs, fun _ => hr.1.1⟩)
    · exact .refl s

theorem retireEmpties (es : List Nat) (s : State) (hL : L.removes = true) :
    State.Becomes L s (s.retireEmpties es) :=
  foldl _ (fun s e => retireIfEmpty .freed e s (.inl rfl) (by simp) hL) _ s

theorem walk (x : List Nat) (b : List Band) (n : Nat) (s : State) : State.Becomes L s (s.walk x b n).2 := by
  induction n generalizing s with
  | zero => exact .refl s
  | succ n ih =>
    unfold State.walk
    split
    · exact .refl s
    · dsimp only
      split
      · exact examine _ _ s
      · exact (examine _ _ s).trans (ih _)

theorem pinScan (x : List Nat) (b : List Band) (l : List Nat) (s : State) :
    State.Becomes L s (State.pinScan x b l s).2 := by
  induction l generalizing s with
  | nil => exact .refl s
  | cons e l ih =>
    unfold State.pinScan
    split
    · exact ih s
    · rename_i r h
      have h' : s.residentOf r.extent = some r := State.residentOf_extent h ▸ h
      split
      · dsimp only
        split
        · exact examineResident _ r s h'
        · exact (examineResident _ r s h').trans (ih _)
      · exact ih s

theorem victim (x : List Nat) (c : Option Band) (s : State) : State.Becomes L s (s.victim x c).2 := by
  have hw := walk (L := L) x (bandsUpTo c) (s.clean.size + 1) s
  unfold State.victim
  split
  · rename_i h; rw [h] at hw; exact hw
  · rename_i h; rw [h] at hw
    split
    · exact hw.trans (pinScan _ _ _ _)
    · exact hw

end State.Becomes

/-- The extent met by the walk stands on an allowed list, and is not skipped. -/
theorem State.walk_some {x : List Nat} {b : List Band} {n : Nat} {s t : State} {e : Nat}
    (h : s.walk x b n = (some e, t)) : (∃ k ∈ b, e ∈ t.clean.get k) ∧ t.skipped x e = false := by
  induction n generalizing s with
  | zero => simp [State.walk] at h
  | succ n ih =>
    unfold State.walk at h
    split at h
    · simp at h
    · rename_i k v hv
      dsimp only at h
      split at h
      · rename_i hmem
        simp only [Prod.mk.injEq, Option.some.injEq] at h
        obtain ⟨rfl, rfl⟩ := h
        have hex := State.Becomes.examine (L := {}) 0 v s
        obtain ⟨k', hk', hk⟩ := List.exists_of_findSome?_eq_some hv
        obtain ⟨v', hv', hpair⟩ := Option.map_eq_some_iff.1 hk
        simp only [Prod.mk.injEq] at hpair
        obtain ⟨rfl, rfl⟩ := hpair
        refine ⟨⟨_, hk', hmem⟩, ?_⟩
        have hs := List.find?_some hv'
        have hcl := hex.claims_eq rfl
        have hro := hex.routes_eq rfl
        simp only [State.skipped, State.held, State.claimed, State.claimIndex, hcl, hro] at hs ⊢
        simpa using hs
      · exact ih h

theorem State.pinScan_some {x : List Nat} {b : List Band} {l : List Nat} {s t : State} {e : Nat}
    (h : State.pinScan x b l s = (some e, t)) : (∃ k ∈ b, e ∈ t.clean.get k) ∧ t.skipped x e = false := by
  induction l generalizing s with
  | nil => simp [State.pinScan] at h
  | cons v l ih =>
    unfold State.pinScan at h
    split at h
    · exact ih h
    · rename_i r hr
      split at h
      · rename_i hc
        dsimp only at h
        split at h
        · rename_i hon
          simp only [Prod.mk.injEq, Option.some.injEq] at h
          obtain ⟨rfl, rfl⟩ := h
          have hex := State.Becomes.examineResident (L := {}) 0 r s (State.residentOf_extent hr ▸ hr)
          have hcl := hex.claims_eq rfl
          have hro := hex.routes_eq rfl
          refine ⟨by simpa [State.onList] using hon, ?_⟩
          simp only [State.skipped, State.held, State.claimed, State.claimIndex, hcl, hro, Bool.and_eq_true] at hc ⊢
          simpa using hc.2
        · exact ih h
      · exact ih h

/-- The state a fresh FILL's slot is looked for in: the candidate caught up, and victims evicted where the free count is
not above ABSORB_RESERVE (R99, step 1). -/
def State.displaced (e : Nat) (s : State) : State :=
  (s.passingCatchUp e).displace ((s.passingCatchUp e).watchedBand e).below ((s.passingCatchUp e).records.length + 1)

/-- The slot of a fresh FILL: the lowest free slot above the reserve, or none (R99). -/
theorem State.fillSlot_eq (e : Nat) (s : State) :
    s.fillSlot e =
      if (s.displaced e).absorbReserve < (s.displaced e).freeCount then
        match (s.displaced e).handOut with
        | some n => (some n, (s.displaced e).takeSlot n)
        | none => (none, s.displaced e)
      else (none, s.displaced e) := rfl

theorem State.fillSlot_cases (e : Nat) (s : State) :
    s.fillSlot e = (none, s.displaced e) ∨
      ∃ n, (s.displaced e).handOut = some n ∧ (s.displaced e).absorbReserve < (s.displaced e).freeCount ∧
        s.fillSlot e = (some n, (s.displaced e).takeSlot n) := by
  rw [State.fillSlot_eq]
  split
  · split
    · rename_i n hn
      exact .inr ⟨n, hn, ‹_›, rfl⟩
    · exact .inl rfl
  · exact .inl rfl

/-- A victim stands on an allowed clean list, and is neither held nor claimed nor excluded (R95, R96). -/
theorem State.victim_some {x : List Nat} {c : Option Band} {s t : State} {e : Nat}
    (h : s.victim x c = (some e, t)) : (∃ k ∈ bandsUpTo c, e ∈ t.clean.get k) ∧ t.skipped x e = false := by
  unfold State.victim at h
  split at h
  · rename_i hw
    simp only [Prod.mk.injEq, Option.some.injEq] at h
    obtain ⟨rfl, rfl⟩ := h
    exact State.walk_some hw
  · split at h
    · exact State.pinScan_some h
    · simp at h

namespace State.Becomes

variable {L : Licence}

/-- A victim's eviction, its slot freed (R97). -/
theorem evict {b : Band} (r : Resident) (s : State) (h : s.residentOf r.extent = some r)
    (hb : r.extent ∈ s.clean.get b) (hL : L.removes = true) (hs : s.service = .serving) :
    State.Becomes L s (s.evict .freed r) := by
  have h1 : State.Becomes L s (s.remove .freed r) :=
    removal .freed r s s.contexts h (fun hf hm => hm.leave_of_resident h (hf.of_clean hb h).2.2) hL (by simp)
      (fun n hn => nomatch hn) (fun _ => rfl) (fun k => absurd hs k)
  unfold State.evict
  generalize s.remove .freed r = u at h1 ⊢
  exact h1.trans (.light rfl (State.withStats_keeps _ _ (fun k => { k with evictions := addSat_le _ _ })))

theorem displace (c : Option Band) (n : Nat) (s : State) (hL : L.removes = true) (hs : s.service = .serving) :
    State.Becomes L s (s.displace c n) := by
  induction n generalizing s with
  | zero => exact .refl s
  | succ n ih =>
    have hv := victim (L := L) [] c s
    unfold State.displace
    split
    · exact .refl s
    · split
      · rename_i h; rw [h] at hv; exact hv
      · rename_i e t h
        rw [h] at hv
        obtain ⟨⟨b, -, hb⟩, -⟩ := State.victim_some h
        have ht : t.service = .serving := hv.keeps.service.trans hs
        split
        · exact hv
        · rename_i r hr
          have he := State.residentOf_extent hr
          have hev := hv.trans (evict r t (he ▸ hr) (he ▸ hb) hL ht)
          exact hev.trans (ih _ (hev.keeps.service.trans hs))

theorem passingCatchUp (e : Nat) (s : State) : State.Becomes L s (s.passingCatchUp e) := by
  unfold State.passingCatchUp
  split
  · exact .refl s
  · rename_i x hx
    have he := watchOf_extent hx
    subst he
    exact .rewatch s x _ (List.mem_of_find?_eq_some hx) fun hg hep h => Heat.caughtUp_inRange hg hep h

theorem displaced (e : Nat) (s : State) (hL : L.removes = true) (hs : s.service = .serving) :
    State.Becomes L s (s.displaced e) :=
  have hp := passingCatchUp (L := L) e s
  hp.trans (displace _ _ _ hL (hp.keeps.service.trans hs))

/-! ### The end of an event -/

theorem setClaim (i : Fin 8) (x : Option ClaimEntry) (s : State) (hL : L.grants = true)
    (hx : ∀ c, x = some c → c.standing.port ∉ c.waiters ∧ c.waiters.Nodup) : State.Becomes L s (s.setClaim i x) := by
  refine .conclude rfl (State.setClaim_keeps i x s) (fun h j c hc => ?_) fun k => by simp [hL] at k
  have := set_getElem_fin s.claims i j x
  rw [show (s.setClaim i x).claims[j] = _ from this] at hc
  split at hc
  · exact hx c hc
  · exact h j c hc

/-- An entry granted to the port it stands for. -/
theorem regrant (i : Fin 8) (c : ClaimEntry) (b : Bool) (s t : State) (hc : s.claims[i] = some c)
    (same : t.solid = s.solid) (keeps : s.Keeps t) (hL : L.grants = true) :
    State.Becomes L s (t.setClaim i (some { c with standing := .owned c.standing.port b })) := by
  have hcl : t.claims = s.claims := State.solid_claims same
  refine .conclude (show t.tables = s.tables from State.tables_of_solid same) (keeps.trans (State.setClaim_keeps _ _ t)) (fun h j d hd => ?_)
    fun k => by simp [hL] at k
  rw [show (t.setClaim i _).claims[j] = _ from set_getElem_fin t.claims i j _, hcl] at hd
  split at hd
  · simp only [Option.some.injEq] at hd
    subst hd
    exact h i c hc
  · exact h j d hd

theorem grantEntry (i : Fin 8) (s : State) (hL : L.grants = true) : State.Becomes L s (s.grantEntry i) := by
  unfold State.grantEntry
  split
  · exact .refl s
  · rename_i c hc
    split
    · exact .refl s
    · rename_i p hp
      split
      · have hport : c.standing.port = p := by rw [hp]; rfl
        unfold State.grantTo
        split
        · exact hport ▸ regrant i c false s _ hc (State.place_solid _ _ s) (State.place_keeps _ _ s) hL
        · exact hport ▸ regrant i c true s s hc rfl (.refl s) hL
      · exact .refl s

theorem grantAll (s : State) (hL : L.grants = true) : State.Becomes L s s.grantAll :=
  foldl _ (fun s i => grantEntry i s hL) _ s

theorem noticeDrained (n : Nat) (s : State) : State.Becomes L s (s.noticeDrained n) := by
  unfold State.noticeDrained
  split
  · exact place _ _ s
  · exact ofEnd .of

theorem endDrain (s : State) : State.Becomes L s s.endDrain := by
  unfold State.endDrain
  split
  · exact ((noticeDrained _ s).trans (clearMarks _)).trans (ofEnd .of)
  · exact .refl s

theorem compareUrgent (s : State) : State.Becomes L s s.compareUrgent := ofEnd .of

theorem demandFor (r : Reason) (s : State) : State.Becomes L s (s.demandFor r) := by
  unfold State.demandFor
  split
  · split
    · exact .trans (t := s.setDemand r true) (ofEnd .of) (produceDemand r _)
    · exact .refl s
  · exact ofEnd .of

theorem demandAll (s : State) : State.Becomes L s s.demandAll :=
  ((demandFor _ s).trans (demandFor _ _)).trans (demandFor _ _)

theorem finish (s : State) (hL : L.grants = true) : State.Becomes L s s.finish := by
  unfold State.finish
  split
  · exact (((grantAll s hL).trans (endDrain _)).trans (compareUrgent _)).trans (demandAll _)
  · exact .refl s

/-- An entry that a port has left is lawful if the entry was. -/
theorem leave_lawful {c d : ClaimEntry} (p : Port) (h : c.standing.port ∉ c.waiters ∧ c.waiters.Nodup)
    (hd : c.leave p = some d) : d.standing.port ∉ d.waiters ∧ d.waiters.Nodup := by
  unfold ClaimEntry.leave ClaimEntry.passOn at hd
  split at hd
  · split at hd
    · simp at hd
    · rename_i w ws hw
      simp only [Option.some.injEq] at hd
      subst hd
      rw [hw] at h
      exact List.nodup_cons.1 h.2
  · simp only [Option.some.injEq] at hd
    subst hd
    exact ⟨fun k => h.1 ((mem_without p _ _).1 k).1, nodup_without p _ h.2⟩

theorem leaveAllClaims (p : Port) (s : State) (hL : L.grants = true) : State.Becomes L s (s.leaveAllClaims p) := by
  refine .conclude rfl (State.leaveAllClaims_keeps p s) (fun h i d hd => ?_) fun k => by simp [hL] at k
  rw [show (s.leaveAllClaims p).claims[i] = _ from map_getElem_fin s.claims _ i] at hd
  obtain ⟨c, hc, hcd⟩ := Option.bind_eq_some_iff.1 hd
  exact leave_lawful p (h i c hc) hcd

end State.Becomes

end Sys2Proof.Machine
end

section
/-! SUPPORT. Each operation of the Move Engine and of the start event as a chain of updates, with the licence it
needs. -/

namespace Sys2Proof.Machine

/-- The licence of the ends of moves. -/
structure Licence.Ends (L : Licence) : Prop where
  moves : L.moves = true
  segments : L.segments = true
  removes : L.removes = true

/-- The licence of events that place orders. -/
structure Licence.Moves (L : Licence) : Prop extends Licence.Ends L where
  orders : L.orders = true

/-- A slot given up with its record: with RETIRE_SLOT or silently. -/
def SlotFate.Frees (f : SlotFate) : Prop := f = .freed ∨ f = .freedSilently

theorem SlotFate.Frees.retires {f : SlotFate} (h : f.Frees) : f.announced = true ∨ f = .freedSilently := by
  rcases h with rfl | rfl
  · exact .inl rfl
  · exact .inr rfl

theorem SlotFate.Frees.not_passed {f : SlotFate} (h : f.Frees) : f ≠ .passed := by
  rcases h with rfl | rfl <;> simp

theorem SlotFate.Frees.not_fenced {f : SlotFate} (h : f.Frees) (n : Nat) : f ≠ .fenced n := by
  rcases h with rfl | rfl <;> simp

theorem Context.continues_refl (x : Context) : x.Continues x := ⟨rfl, fun _ => id⟩

/-- A FILL goes on with another phase or order. -/
theorem FillMove.continues (m : FillMove) (p : Phase) (o : OrderState) :
    (Context.fill m).Continues (.fill { m with phase := p, order := o }) := ⟨rfl, fun _ h => h⟩

/-- A FLUSH goes on with another phase, order or carried set. -/
theorem FlushMove.continues (m : FlushMove) (p : Phase) (o : OrderState) (a : SegSet) :
    (Context.flush m).Continues (.flush { m with phase := p, order := o, carried := a }) := ⟨rfl, fun _ h => h⟩

theorem FlushMove.continues_afterPlacing (m : FlushMove) (ticket timer : Nat) (dirty : SegSet) :
    (Context.flush m).Continues (.flush (m.afterPlacing ticket timer dirty)) := by
  unfold FlushMove.afterPlacing
  split
  · exact m.continues _ _ _
  · exact m.continues _ _ _

namespace State.Becomes

variable {L : Licence}

/-! ### The end of a move -/

/-- A move ends and its record's contents are replaced (R3, R109). -/
theorem endMove (hL : L.Ends) (c : Fin 4) (x : Context) (a : ListEnd) (old new : Resident) (s : State)
    (hc : s.contexts[c].extentInMove = some new.extent) (hx : x.extentInMove = none)
    (resident : s.residentOf new.extent = some old) (slot : new.slot = old.slot)
    (lawful : old.Lawful → new.settled.Lawful) (apart : s.MovesMatched → new.LostApart) :
    State.Becomes L s { s.store a new with contexts := s.contexts.set c x } :=
  .replace s a old new _ resident slot (fun _ _ => lawful)
    (fun hm => ⟨apart hm, (hm.leave_of_end hc hx).fit⟩) (fun k => by simp [hL.segments] at k)
    (fun k => by simp [hL.moves] at k) (fun _ k => absurd k (State.not_still hc))

/-- A move ends and its record returns to RESIDENT, and is retired if it is then empty and unheld (R5, R109). -/
theorem endRecord (hL : L.Ends) (c : Fin 4) (fate : SlotFate) (hf : fate.Frees) (old new : Resident) (s : State)
    (hc : s.contexts[c].extentInMove = some new.extent) (resident : s.residentOf new.extent = some old)
    (slot : new.slot = old.slot) (lawful : old.Lawful → new.Lawful)
    (apart : s.MovesMatched → new.LostApart) :
    State.Becomes L s (State.endRecord fate new (s.setContext c .idle)) :=
  (endMove hL c .idle .tail old { new with state := .resident } s hc rfl resident slot
    (fun h => Resident.returned_lawful (lawful h)) apart).trans
    (retireIfEmpty fate new.extent _ hf.retires hf.not_passed hL.removes)

theorem idle (hL : L.Ends) (c : Fin 4) (s : State) : State.Becomes L s (s.setContext c .idle) := by
  refine .progress s _ hL.moves (fun d => ?_) (fun hs d => ?_)
  · rw [set_getElem_fin]
    split
    · exact .inl rfl
    · exact .inr (Context.continues_refl _)
  · rw [set_getElem_fin]
    split
    · rfl
    · exact hs d

/-- A move goes on in its context. -/
theorem go (hL : L.moves = true) (c : Fin 4) (x : Context) (s : State) (h : s.contexts[c].Continues x)
    (hc : s.contexts[c] ≠ .idle) : State.Becomes L s (s.setContext c x) := by
  refine .progress s _ hL (fun d => ?_) (fun hs => absurd (hs c) hc)
  rw [set_getElem_fin]
  split
  · rename_i hd
    subst hd
    exact .inr h
  · exact .inr (Context.continues_refl _)

theorem stats (c : Stats) (s : State) (h : s.stats.Bounded → c.Bounded) : State.Becomes L s { s with stats := c } :=
  .light rfl (State.withStats_keeps c s h)

theorem completeFill (hL : L.Ends) (c : Fin 4) (m : FillMove) (s : State) (hc : s.contexts[c] = .fill m) :
    State.Becomes L s (s.completeFill c m) := by
  have hst := stats (L := L) { s.stats with fillsDone := addSat s.stats.fillsDone 1 } s
    (fun h => { h with fillsDone := addSat_le _ _ })
  simp only [State.completeFill]
  refine hst.trans ?_
  generalize hu : ({ s with stats := { s.stats with fillsDone := addSat s.stats.fillsDone 1 } } : State) = u
  have hcu : u.contexts[c] = .fill m := by subst hu; exact hc
  have heq : ({ s.setContext c .idle with
      stats := { (s.setContext c .idle).stats with fillsDone := addSat (s.setContext c .idle).stats.fillsDone 1 } } :
      State) = u.setContext c .idle := by subst hu; rfl
  rw [heq]
  split
  · exact idle hL c u
  · rename_i r hr
    have he := State.residentOf_extent hr
    have hr' : u.residentOf r.extent = some r := he ▸ hr
    have hce : u.contexts[c].extentInMove = some r.extent := by rw [hcu, he]; rfl
    refine endRecord hL c .freed (.inl rfl) r { r with valid := r.valid ||| m.validate } u hce hr' rfl
      (fun h => ⟨segLess_or_right h.dirtyValid _, h.2, h.3, h.4, h.5⟩) (fun hm => ?_)
    obtain ⟨r'', hr'', -, -, hv, -⟩ := hm.fills c m hcu
    have : some r'' = some r := hr''.symm.trans hr
    cases this
    exact Resident.validated_lostApart (hm.lostApart hr) hv

theorem markOwed (c : Fin 4) (s : State) : State.Becomes L s { s with flashOwed := s.flashOwed ++ [.mark c] } :=
  .light rfl .of

theorem completeFlush (hL : L.Ends) (c : Fin 4) (m : FlushMove) (s : State) (hc : s.contexts[c] = .flush m) :
    State.Becomes L s (s.completeFlush c m) := by
  have hst := stats (L := L) { s.stats with flushesDone := addSat s.stats.flushesDone 1 } s
    (fun h => { h with flushesDone := addSat_le _ _ })
  simp only [State.completeFlush]
  refine hst.trans ?_
  generalize hu : ({ s with stats := { s.stats with flushesDone := addSat s.stats.flushesDone 1 } } : State) = u
  have hcu : u.contexts[c] = .flush m := by subst hu; exact hc
  have heq : ({ s.setContext c .idle with
      stats := { (s.setContext c .idle).stats with
        flushesDone := addSat (s.setContext c .idle).stats.flushesDone 1 } } : State) = u.setContext c .idle := by
    subst hu; rfl
  rw [heq]
  split
  · exact idle hL c u
  · rename_i r hr
    have he := State.residentOf_extent hr
    have hr' : u.residentOf r.extent = some r := he ▸ hr
    have hce : u.contexts[c].extentInMove = some r.extent := by rw [hcu, he]; rfl
    refine State.Becomes.trans ?_ (retireIfEmpty .freed m.extent _ (.inl rfl) (by simp) hL.removes)
    have hend (x : Context) (hx : x.extentInMove = none) := endMove hL c x .tail r
      { r with state := .resident, dirty := segLess r.dirty (m.cleaned r.dirty), drainMark := false, retries := 0 } u
      hce hx hr' rfl
      (fun h => Resident.settled_lawful (segLess_left h.dirtyValid _) (Nat.zero_le _) (fun k => nomatch k) h.heat)
      (fun hm => (hm.lostApart hr : r.LostApart))
    split
    · exact hend .idle rfl
    · unfold State.produceMark
      split
      · exact ((hend .idle rfl).trans (place _ _ _)).trans (idle hL c _)
      · have := (hend (.marking m.slot (m.cleaned r.dirty)) rfl).trans (markOwed c _)
        simpa [State.setContext, State.store, State.fileLists, State.filePromo, State.fileDirty, State.fileClean]
          using this

/-! ### Orders -/

theorem issue (hL : L.Moves) (p : Port) (record : Outbound) (c : Fin 4) (x : Context) (s : State)
    (h : s.contexts[c].Continues x) (hc : s.contexts[c] ≠ .idle) : State.Becomes L s (s.issue p record c x) := by
  have hp := State.place_contexts s p record
  have hgo := ((place (L := L) p record s).trans (go hL.moves c x _ (hp ▸ h) (hp ▸ hc))).trans
    (.ticket _ ((((s.place p record).setContext c x).tickets + 1) % Config.wrap16) hL.orders)
  simp only [State.issue]
  split
  · exact hgo.trans (armAdvice _)
  · exact hgo

theorem placeOrder (hL : L.Moves) (c : Fin 4) (s : State) : State.Becomes L s (s.placeOrder c) := by
  unfold State.placeOrder
  split
  · exact .refl s
  · exact .refl s
  · rename_i m hm
    split
    · exact completeFill hL.toEnds c m s hm
    · exact issue hL _ _ c _ s (hm ▸ m.continues m.phase _) (by simp [hm])
  · rename_i m hm
    split
    · exact completeFlush hL.toEnds c m s hm
    · exact issue hL _ _ c _ s (hm ▸ m.continues_afterPlacing _ _ _) (by simp [hm])

theorem oweOrder (p : Port) (c : Fin 4) (s : State) : State.Becomes L s (s.oweOrder p c) := by
  cases p with
  | front => exact .refl s
  | flash => exact .light rfl .of
  | disk => exact .light rfl .of

theorem produceOrder (hL : L.Moves) (c : Fin 4) (s : State) : State.Becomes L s (s.produceOrder c) := by
  unfold State.produceOrder
  split
  · exact .refl s
  · split
    · exact placeOrder hL c s
    · exact oweOrder _ c s

/-! ### Aborts -/

theorem abortFill (hL : L.Ends) (c : Fin 4) (m : FillMove) (penalty : Bool) (fate endFate : SlotFate) (s : State)
    (hc : s.contexts[c] = .fill m) (hf : fate ≠ .passed) (hn : ∀ n, fate = .fenced n → L.fences = true)
    (hg : endFate.Frees) : State.Becomes L s (s.abortFill c m penalty fate endFate) := by
  have hpen : State.Becomes L s (if penalty then s.penalise m.extent else s) := by
    split
    · exact penalise _ s
    · exact .refl s
  simp only [State.abortFill]
  refine hpen.trans ?_
  have heq : (if penalty = true then (s.setContext c .idle).penalise m.extent else s.setContext c .idle) =
      (if penalty then s.penalise m.extent else s).setContext c .idle := by split <;> rfl
  have hcu : (if penalty then s.penalise m.extent else s).contexts[c] = .fill m := by
    split <;> exact hc
  rw [heq]
  generalize (if penalty then s.penalise m.extent else s) = u at hcu ⊢
  split
  · exact idle hL c u
  · rename_i r hr
    have he := State.residentOf_extent hr
    have hr' : u.residentOf r.extent = some r := he ▸ hr
    have hce : u.contexts[c].extentInMove = some r.extent := by rw [hcu, he]; rfl
    split
    · exact removal fate r u _ hr' (fun _ hm => hm.leave_of_end hce rfl) hL.removes hf
        (fun n k => ⟨hn n k, fun hs => absurd hs (State.not_still hce)⟩) (fun k => by simp [hL.moves] at k)
        (fun _ k => absurd k (State.not_still hce))
    · exact endRecord hL c endFate hg r r u hce hr' rfl id (fun hm => hm.lostApart hr)

theorem abortFlush (hL : L.Ends) (c : Fin 4) (m : FlushMove) (fate : SlotFate) (s : State)
    (hc : s.contexts[c] = .flush m) (hf : fate.Frees) : State.Becomes L s (s.abortFlush c m fate) := by
  simp only [State.abortFlush]
  split
  · exact idle hL c s
  · rename_i r hr
    have he := State.residentOf_extent hr
    have hr' : s.residentOf r.extent = some r := he ▸ hr
    have hce : s.contexts[c].extentInMove = some r.extent := by rw [hc, he]; rfl
    exact endRecord hL c fate hf r r s hce hr' rfl id (fun hm => hm.lostApart hr)

theorem chargeFlush (hL : L.Ends) (c : Fin 4) (m : FlushMove) (s : State) (hc : s.contexts[c] = .flush m) :
    State.Becomes L s (s.chargeFlush c m) := by
  simp only [State.chargeFlush]
  split
  · exact idle hL c s
  · rename_i r hr
    have he := State.residentOf_extent hr
    have hr' : s.residentOf r.extent = some r := he ▸ hr
    have hce : s.contexts[c].extentInMove = some r.extent := by rw [hc, he]; rfl
    split
    · exact endRecord hL c .freed (.inl rfl) r r s hce hr' rfl id (fun hm => hm.lostApart hr)
    · rename_i hd
      have hend := endMove hL c .idle .tail r r.charged s hce rfl hr' rfl Resident.charged_lawful
        (fun hm => (hm.lostApart hr : r.LostApart))
      have hmem : m.extent ∈ ({ s.store .tail r.charged with contexts := s.contexts.set c .idle } : State).dirtyList := by
        have hd' : r.charged.settled.dirty ≠ 0#32 := by simpa [Resident.charged] using hd
        have he' : r.charged.settled.extent = m.extent := by simpa [Resident.charged] using he
        simp only [State.store, State.fileLists, State.filePromo, State.fileDirty, State.fileClean, if_neg hd', he']
        split
        · assumption
        · simp
      have hq := hend.trans (.requeue _ m.extent hmem)
      split
      · exact hq.trans (noticeStuck _ _)
      · exact hq

theorem loseFlush (hL : L.Ends) (c : Fin 4) (m : FlushMove) (s : State) (hc : s.contexts[c] = .flush m) :
    State.Becomes L s (s.loseFlush c m) := by
  simp only [State.loseFlush]
  split
  · exact idle hL c s
  · rename_i r hr
    generalize hg : m.cleaned r.dirty = gone
    have hlost : State.Becomes L s (if gone = 0#32 then s else (s.markLost r.slot gone).noticeLost m.extent gone) := by
      split
      · exact .refl s
      · exact (markLost _ _ s).trans (noticeLost _ _ _)
    have heq : (if gone = 0#32 then s.setContext c .idle
        else ((s.setContext c .idle).markLost r.slot gone).noticeLost m.extent gone) =
        { (if gone = 0#32 then s else (s.markLost r.slot gone).noticeLost m.extent gone) with
          contexts := s.contexts.set c .idle } := by
      simp only [State.setContext]
      split
      · rfl
      · rw [State.markLost_withContexts, State.noticeLost_withContexts]
    have hcu : (if gone = 0#32 then s else (s.markLost r.slot gone).noticeLost m.extent gone).contexts = s.contexts := by
      split
      · rfl
      · exact ((markLost (L := {}) r.slot gone s).trans (noticeLost m.extent gone _)).contexts_eq rfl rfl
    refine hlost.trans ?_
    rw [heq]
    generalize (if gone = 0#32 then s else (s.markLost r.slot gone).noticeLost m.extent gone) = u at hcu ⊢
    rw [← hcu]
    split
    · exact idle hL c u
    · rename_i r' hr'
      have he := State.residentOf_extent hr'
      have hr'' : u.residentOf r'.extent = some r' := he ▸ hr'
      have hce : u.contexts[c].extentInMove = some r'.extent := by rw [hcu, hc, he]; rfl
      refine (endMove hL c .idle .tail r' { r'.lose gone with state := .resident } u hce rfl hr'' rfl
        (fun h => ?_) (fun hm => Resident.lose_lostApart gone (hm.lostApart hr'))).trans
        (retireIfEmpty .freed _ _ (.inl rfl) (by simp) hL.removes)
      exact Resident.settled_lawful (segLess_segLess h.dirtyValid gone) h.retries (fun k => nomatch k) h.heat

/-! ### Reports, timeouts and link resets -/

theorem enterWriting (hL : L.Moves) (c : Fin 4) (s : State) : State.Becomes L s (s.enterWriting c) := by
  unfold State.enterWriting
  split
  · exact .refl s
  · exact .refl s
  · rename_i m hm
    exact (go hL.moves c _ s (hm ▸ m.continues _ _) (by simp [hm])).trans (produceOrder hL c _)
  · rename_i m hm
    exact (go hL.moves c _ s (hm ▸ m.continues _ _ m.carried) (by simp [hm])).trans (produceOrder hL c _)

theorem actOnReport (hL : L.Moves) (c : Fin 4) (status : Nat) (s : State) :
    State.Becomes L s (s.actOnReport c status) := by
  unfold State.actOnReport
  split
  · exact .refl s
  · exact .refl s
  · rename_i m hm
    split
    · exact enterWriting hL c s
    · exact completeFill hL.toEnds c m s hm
    · exact abortFill hL.toEnds c m _ _ _ s hm (by simp) (fun n k => nomatch k) (.inl rfl)
    · exact abortFill hL.toEnds c m _ _ _ s hm (by simp) (fun n k => nomatch k) (.inl rfl)
  · rename_i m hm
    split
    · exact enterWriting hL c s
    · exact completeFlush hL.toEnds c m s hm
    · exact loseFlush hL.toEnds c m s hm
    · exact chargeFlush hL.toEnds c m s hm
    · exact abortFlush hL.toEnds c m _ s hm (.inl rfl)

theorem actOnTimeout (hL : L.Ends) (hF : L.fences = true) (c : Fin 4) (s : State) :
    State.Becomes L s (s.actOnTimeout c) := by
  have hst := stats (L := L) { s.stats with orderTimeouts := addSat s.stats.orderTimeouts 1 } s
    (fun h => { h with orderTimeouts := addSat_le _ _ })
  simp only [State.actOnTimeout]
  split
  · exact .refl s
  · exact .refl s
  · rename_i m hm
    split
    · exact hst.trans (abortFill hL c m _ _ _ _ hm (by simp) (fun _ _ => hF) (.inl rfl))
    · exact hst.trans (abortFill hL c m _ _ _ _ hm (by simp) (fun n k => nomatch k) (.inl rfl))
  · rename_i m hm
    split
    · exact hst.trans (abortFlush hL c m _ _ hm (.inl rfl))
    · exact hst.trans (chargeFlush hL c m _ hm)

theorem liftFenceOf (hF : L.fences = true) (ticket : Nat) (s : State) : State.Becomes L s (s.liftFenceOf ticket) := by
  unfold State.liftFenceOf
  split
  · exact .refl s
  · rename_i f hf
    exact (.lift s f (List.mem_of_find?_eq_some hf) hF : State.Becomes L s _).trans (produceRetire _ _)

theorem liftFences (hF : L.fences = true) (s : State) : State.Becomes L s s.liftFences := by
  have key (l : List Fence) (u : State) : State.Becomes L { u with fences := l }
      (l.foldl (fun t f => t.freeSlot f.slot) { u with fences := [] }) := by
    induction l generalizing u with
    | nil => exact .refl _
    | cons f l ih =>
      have hl := State.Becomes.lift (L := L) { u with fences := f :: l } f (by simp) hF
      simp only [List.erase_cons_head] at hl
      exact hl.trans (ih (u.freeSlot f.slot))
  exact key s.fences s

theorem abortByReset (hL : L.Ends) (fate : SlotFate) (hf : fate.Frees) (c : Fin 4) (s : State) :
    State.Becomes L s (s.abortByReset fate c) := by
  unfold State.abortByReset
  split
  · exact .refl s
  · exact .refl s
  · rename_i m hm
    exact abortFill hL c m _ _ _ s hm hf.not_passed (fun n k => absurd k (hf.not_fenced n)) hf
  · rename_i m hm
    exact abortFlush hL c m _ s hm hf

theorem abortMovesOf (hL : L.Ends) (p : Port) (fate : SlotFate) (hf : fate.Frees) (s : State) :
    State.Becomes L s (s.abortMovesOf p fate) :=
  foldl _ (fun s c => abortByReset hL fate hf c s) _ s

theorem dropMarks (hL : L.Ends) (s : State) :
    State.Becomes L s { s with contexts := s.contexts.map Context.dropMark } := by
  refine .progress s _ hL.moves (fun c => ?_) (fun hs c => ?_)
  · rw [map_getElem_fin]
    cases s.contexts[c] with
    | marking n a => exact .inl rfl
    | idle => exact .inl rfl
    | fill m => exact .inr (Context.continues_refl _)
    | flush m => exact .inr (Context.continues_refl _)
  · rw [map_getElem_fin, hs c]
    rfl

/-! ### Starts -/

theorem startFlush (hL : L.Moves) (c : Fin 4) (r : Resident) (s : State) (hc : s.contexts[c] = .idle)
    (hr : s.residentOf r.extent = some r) (hst : r.state = .resident) (hk : r.stuck = false)
    (hs : s.service = .serving) : State.Becomes L s (s.startFlush c r) := by
  refine State.Becomes.trans ?_ (produceOrder hL c _)
  refine .replace s .tail r { r with state := .flushing }
    (s.contexts.set c (.flush { phase := .reading, extent := r.extent, slot := r.slot, work := r.dirty, redirtied := 0#32, carried := 0#32, order := .pending }))
    hr rfl (fun _ _ h => Resident.settled_lawful h.dirtyValid h.retries (fun _ _ => hk) h.heat)
    (fun hm => ⟨(hm.lostApart hr : r.LostApart), ?_⟩) (fun k => by simp [hL.segments] at k)
    (fun k => by simp [hL.moves] at k) (fun k => absurd hs k)
  have hl : s.ContextsLeave r.extent s.contexts := hm.leave_of_resident hr hst
  exact State.ContextsLeave.fit_start (r := { r with state := .flushing }) hl c rfl ⟨rfl, rfl⟩

theorem startPartialFill (hL : L.Moves) (c : Fin 4) (r : Resident) (s : State) (hc : s.contexts[c] = .idle)
    (hr : s.residentOf r.extent = some r) (hst : r.state = .resident) (hs : s.service = .serving) :
    State.Becomes L s (s.startPartialFill c r) := by
  refine State.Becomes.trans ?_ (produceOrder hL c _)
  refine .replace s .tail r { r with state := .filling }
    (s.contexts.set c (.fill { phase := .reading, fresh := false, extent := r.extent, slot := r.slot, work := ~~~(r.valid ||| r.lost), validate := ~~~(r.valid ||| r.lost), order := .pending }))
    hr rfl (fun _ _ h => Resident.settled_lawful h.dirtyValid h.retries (fun k => nomatch k) h.heat)
    (fun hm => ⟨(hm.lostApart hr : r.LostApart), ?_⟩) (fun k => by simp [hL.segments] at k)
    (fun k => by simp [hL.moves] at k) (fun k => absurd hs k)
  have hl : s.ContextsLeave r.extent s.contexts := hm.leave_of_resident hr hst
  exact State.ContextsLeave.fit_start (r := { r with state := .filling }) hl c rfl
    ⟨rfl, rfl, by simp, fun k => nomatch k⟩

theorem freshRecord_lawful {s : State} (e n : Nat) (he : s.epoch < 65536) (hw : ∀ w ∈ s.watch, w.heat.InRange) :
    (s.freshRecord e n).Lawful :=
  ⟨by simp [Resident.DirtyValid, State.freshRecord, segLess], fun _ => ⟨rfl, rfl, rfl⟩, Nat.zero_le _,
    fun k => (nomatch k), State.inheritedHeat_inRange e he hw⟩

theorem startFreshFill (hL : L.Moves) (c : Fin 4) (e n : Nat) (s : State) (hc : s.contexts[c] = .idle)
    (hn : n ∈ s.free) (he : s.residentOf e = none) (hs : s.service = .serving) :
    State.Becomes L s ((s.takeSlot n).startFreshFill c e n) := by
  refine State.Becomes.trans ?_ (produceOrder hL c _)
  refine .enter s ((s.takeSlot n).freshRecord e n)
    (s.contexts.set c (.fill { phase := .reading, fresh := true, extent := e, slot := n, work := SegSet.all, validate := SegSet.all, order := .pending }))
    hn he (fun _ hep hw => freshRecord_lawful e n hep hw) (fun hm => ⟨?_, ?_⟩) (.inr hL.moves) (fun k => absurd hs k)
  · simp [Resident.LostApart, State.freshRecord]
  · have hl : s.ContextsLeave ((s.takeSlot n).freshRecord e n).extent s.contexts := hm.leave_of_absent he
    exact hl.fit_start c rfl ⟨rfl, rfl, by simp [State.freshRecord], fun _ => rfl⟩

end State.Becomes

theorem State.flushable_iff {s : State} {e : Nat} (h : s.flushable e = true) :
    ∃ r, s.residentOf e = some r ∧ r.stuck = false ∧ s.claimed e = false ∧ r.state = .resident := by
  unfold State.flushable at h
  split at h
  · simp at h
  · rename_i r hr
    exact ⟨r, hr, by simpa [and_assoc] using h⟩

theorem State.eligibleFlush_some {s : State} {e : Nat} (h : s.eligibleFlush = some e) :
    s.service = .serving ∧ s.spindle = .up ∧ e ∈ s.dirtyList ∧ s.flushable e = true := by
  unfold State.eligibleFlush at h
  split at h
  · rename_i hc
    simp only [Bool.and_eq_true, State.isServing, beq_iff_eq] at hc
    exact ⟨hc.1.1, hc.1.2, List.mem_of_find?_eq_some h, List.find?_some (p := fun e => s.flushable e) h⟩
  · simp at h

theorem State.fillable_iff {s : State} {e : Nat} (h : s.fillable e = true) :
    s.claimed e = false ∧ ∀ r, s.residentOf e = some r → r.state = .resident := by
  unfold State.fillable at h
  simp only [Bool.and_eq_true, Bool.not_eq_true'] at h
  refine ⟨h.1, fun r hr => ?_⟩
  have := h.2
  rw [hr] at this
  simpa using this

theorem State.eligibleFill_some {s : State} {e : Nat} (h : s.eligibleFill = some e) :
    s.service = .serving ∧ s.spindle = .up ∧ e ∈ s.promo ∧ s.fillable e = true := by
  unfold State.eligibleFill at h
  split at h
  · rename_i hc
    simp only [State.fillsAllowed, Bool.and_eq_true, State.isServing, beq_iff_eq] at hc
    exact ⟨hc.1.1.1.1, hc.1.1.1.2, List.mem_of_find?_eq_some h, List.find?_some (p := fun e => s.fillable e) h⟩
  · simp at h

theorem State.handOut_mem {s : State} {n : Nat} (h : s.handOut = some n) : n ∈ s.free := List.mem_of_find?_eq_some h

namespace State.Becomes

variable {L : Licence}

theorem startEligibleFlush (hL : L.Moves) (hS : L.starts = true) (c : Fin 4) (s : State) (hc : s.contexts[c] = .idle) :
    State.Becomes L s (s.startEligibleFlush c) := by
  unfold State.startEligibleFlush
  split
  · exact .refl s
  · rename_i e he
    obtain ⟨hs, -, -, hf⟩ := State.eligibleFlush_some he
    obtain ⟨r, hr, hk, -, hst⟩ := State.flushable_iff hf
    rw [hr]
    exact (startFlush hL c r s hc (State.residentOf_extent hr ▸ hr) hst hk hs).trans (.mark _ _ hS)

/-- The attempt to start a FILL: it starts, or victims alone were evicted (R99, R110). -/
theorem tryFill (hL : L.Moves) (hS : L.starts = true) (c : Fin 4) (e : Nat) (s : State) (hc : s.contexts[c] = .idle)
    (hs : s.service = .serving) (hf : s.fillable e = true) :
    State.Becomes L s (s.tryFill c e).2 ∧
      ((s.tryFill c e).1 = false → s.residentOf e = none ∧ (s.tryFill c e).2 = s.displaced e) := by
  unfold State.tryFill
  split
  · rename_i r hr
    exact ⟨(startPartialFill hL c r s hc (State.residentOf_extent hr ▸ hr)
      ((State.fillable_iff hf).2 r hr) hs).trans (.mark _ _ hS), fun k => nomatch k⟩
  · rename_i hr
    have hd := displaced (L := { removes := true }) e s rfl hs
    have hdL := displaced e s hL.removes hs
    rcases State.fillSlot_cases e s with h | ⟨n, hn, -, h⟩
    · rw [h]
      exact ⟨hdL, fun _ => ⟨hr, rfl⟩⟩
    · rw [h]
      refine ⟨(hdL.trans (startFreshFill hL c e n _ ?_ (State.handOut_mem hn) (hd.absent rfl rfl hr)
        (hd.keeps.service.trans hs))).trans (.mark _ _ hS), fun k => nomatch k⟩
      rw [hd.contexts_eq rfl rfl]
      exact hc

/-- The fills of a start event: one starts, or victims alone were evicted (R143). -/
theorem tryFills (hL : L.Moves) (hS : L.starts = true) (c : Fin 4) (n : Nat) (passed : List Nat) (s : State)
    (hc : s.contexts[c] = .idle) (hs : s.service = .serving) :
    State.Becomes L s (State.tryFills c n passed s).2 ∧
      ((State.tryFills c n passed s).1 = false → (State.tryFills c n passed s).2.contexts = s.contexts) := by
  induction n generalizing passed s with
  | zero => exact ⟨.refl s, fun _ => rfl⟩
  | succ n ih =>
    unfold State.tryFills
    split
    · exact ⟨.refl s, fun _ => rfl⟩
    · rename_i e he
      obtain ⟨hb, hd⟩ := tryFill hL hS c e s hc hs (List.find?_some (p := fun e => s.fillable e) he)
      split
      · rename_i t ht
        rw [ht] at hb
        exact ⟨hb, fun k => nomatch k⟩
      · rename_i t ht
        rw [ht] at hb hd
        obtain ⟨-, rfl⟩ := hd rfl
        have hctx := (displaced (L := { removes := true }) e s rfl hs).contexts_eq rfl rfl
        obtain ⟨hb', hd'⟩ := ih (passed ++ upTo e s.promo) (s.displaced e) (hctx ▸ hc) (hb.keeps.service.trans hs)
        exact ⟨hb.trans hb', fun k => (hd' k).trans hctx⟩

theorem startFillElseFlush (hL : L.Moves) (hS : L.starts = true) (c : Fin 4) (s : State)
    (hc : s.contexts[c] = .idle) (hs : s.service = .serving) : State.Becomes L s (s.startFillElseFlush c) := by
  obtain ⟨hb, hd⟩ := tryFills hL hS c (s.promo.length + s.records.length + 1) [] s hc hs
  unfold State.startFillElseFlush
  split
  · rename_i k; rw [k] at hb; exact hb
  · rename_i k; rw [k] at hb hd
    exact hb.trans (startEligibleFlush hL hS c _ (by rw [hd rfl]; exact hc))

theorem startMove (hL : L.Moves) (hS : L.starts = true) (c : Fin 4) (s : State)
    (hc : s.contexts[c] = .idle) : State.Becomes L s (s.startMove c) := by
  unfold State.startMove
  split
  · exact .refl s
  · exact startEligibleFlush hL hS c s hc
  · rename_i e _ he
    exact startFillElseFlush hL hS c s hc (State.eligibleFill_some he).1
  · rename_i e _ he
    split
    · exact startFillElseFlush hL hS c s hc (State.eligibleFill_some he).1
    · exact startEligibleFlush hL hS c s hc

/-! ### Owed records at a read -/

theorem placeGrant (p : Port) (i : Fin 8) (s : State) (h : s.owedGrant p = some i) (hL : L.grants = true) :
    State.Becomes L s (s.placeGrant p i) := by
  have hi := List.find?_some h
  unfold State.placeGrant
  split
  · exact .refl s
  · rename_i c hc
    have hp : c.standing.port = p := by
      have : c.standing = .owned p true := by simpa [hc] using hi
      rw [this]
      rfl
    exact hp ▸ regrant i c false s _ hc (State.place_solid _ _ s) (State.place_keeps _ _ s) hL

theorem placeFrontOwed (s : State) : State.Becomes L s s.placeFrontOwed := by
  unfold State.placeFrontOwed
  split
  · exact (place _ _ s).trans (ofEnd .of)
  · split
    · unfold State.placeNotice
      split
      · exact .refl s
      · exact (place _ _ s).trans (setOwed _ _ _)
      · exact (place _ _ s).trans (setOwed _ _ _)
    · exact .refl s

theorem withFlashOwed (l : List FlashOwed) (s : State) : State.Becomes L s { s with flashOwed := l } := .light rfl .of

theorem withDiskOwed (l : List DiskOwed) (s : State) : State.Becomes L s { s with diskOwed := l } := .light rfl .of

theorem placeFlashOwed (hL : L.Moves) (hC : L.grants = true) (n : Nat) (s : State) :
    State.Becomes L s (State.placeFlashOwed n s) := by
  induction n generalizing s with
  | zero => exact .refl s
  | succ n ih =>
    unfold State.placeFlashOwed
    split
    · exact .refl s
    · rename_i o os _
      have ht := withFlashOwed (L := L) os s
      have hu (c : Fin 4) := (ht.trans (placeOrder hL c _)).trans (finish _ hC)
      dsimp only
      split
      · exact ht.trans (place _ _ _)
      · split
        · exact (ht.trans (place _ _ _)).trans (idle hL.toEnds _ _)
        · exact ht.trans (ih _)
        · exact ht.trans (ih _)
        · exact ht.trans (ih _)
      · split
        · split
          · exact (hu _).trans (ih _)
          · exact hu _
        · exact ht.trans (placeOrder hL _ _)

theorem placeDiskOwed (hL : L.Moves) (hC : L.grants = true) (n : Nat) (s : State) :
    State.Becomes L s (State.placeDiskOwed n s) := by
  induction n generalizing s with
  | zero => exact .refl s
  | succ n ih =>
    unfold State.placeDiskOwed
    split
    · exact .refl s
    · rename_i o os _
      have ht := withDiskOwed (L := L) os s
      have hu (c : Fin 4) := (ht.trans (placeOrder hL c _)).trans (finish _ hC)
      dsimp only
      split
      · exact ht.trans (placeDemand _ _)
      · exact ht.trans (place _ _ _)
      · split
        · split
          · exact (hu _).trans (ih _)
          · exact hu _
        · exact ht.trans (placeOrder hL _ _)

theorem placeOwed (hL : L.Moves) (hC : L.grants = true) (p : Port) (s : State) :
    State.Becomes L s (s.placeOwed p) := by
  unfold State.placeOwed
  split
  · rename_i i hi
    exact placeGrant p i s hi hC
  · split
    · exact placeFrontOwed s
    · exact placeFlashOwed hL hC _ s
    · exact placeDiskOwed hL hC _ s

end State.Becomes

end Sys2Proof.Machine
end

section
/-! SUPPORT. Routing as a chain of updates: the weighing, the decisions, the recording and the end of a route. -/

namespace Sys2Proof.Machine

/-- The licence of routed events. -/
structure Licence.Routes (L : Licence) : Prop where
  routing : L.routing = true
  segments : L.segments = true
  removes : L.removes = true
  routes : L.routes = true
  grants : L.grants = true

/-- The licence of the end of a route. -/
structure Licence.Finishes (L : Licence) : Prop where
  segments : L.segments = true
  removes : L.removes = true
  routes : L.routes = true
  grants : L.grants = true

/-- The state a route's events begin in: after the classification of a READ or WRITE (R20, R53). -/
def State.classified (q : Parked) (s : State) : State :=
  if q.kind = .trim then s else (s.classify q.lba q.count).2

theorem State.classify_eq (lba count : Nat) (s : State) :
    (s.classify lba count).2 =
      { s with streams := (s.classify lba count).2.streams, streamUse := (s.classify lba count).2.streamUse } := rfl

theorem State.classified_eq (q : Parked) (s : State) :
    s.classified q = { s with streams := (s.classified q).streams, streamUse := (s.classified q).streamUse } := by
  unfold State.classified
  split
  · rfl
  · exact State.classify_eq _ _ s

theorem State.absorbedRecord_lawful {s : State} (e n : Nat) (full : SegSet) (he : s.epoch < 65536)
    (hw : ∀ w ∈ s.watch, w.heat.InRange) : (s.absorbedRecord e n full).Lawful :=
  ⟨segLess_self full, fun _ => ⟨rfl, rfl, rfl⟩, Nat.zero_le _, fun _ => rfl, State.inheritedHeat_inRange e he hw⟩

/-- The slot of an absorb: a free slot, none after the victim choice, or a victim's slot (R58, R98). -/
theorem State.absorbSlot_cases (x : List Nat) (s : State) :
    (∃ n, s.handOut = some n ∧ s.absorbSlot x = (some n, s.takeSlot n)) ∨
    (s.handOut = none ∧ s.absorbSlot x = (none, (s.victim x (some .b3)).2)) ∨
    ∃ e t r, s.handOut = none ∧ s.victim x (some .b3) = (some e, t) ∧ t.residentOf e = some r ∧
      s.absorbSlot x = (some r.slot, t.evict .passed r) := by
  unfold State.absorbSlot
  cases hh : s.handOut with
  | some n => exact .inl ⟨n, rfl, rfl⟩
  | none =>
    refine .inr ?_
    cases hv : s.victim x (some .b3) with
    | mk o t =>
      cases o with
      | none => exact .inl ⟨rfl, rfl⟩
      | some e =>
        cases hr : t.residentOf e with
        | none => exact .inl ⟨rfl, by simp [hr]⟩
        | some r => exact .inr ⟨e, t, r, rfl, rfl, hr, by simp [hr]⟩

namespace State.Becomes

variable {L : Licence}

/-! ### Decisions -/

theorem writeResident (hR : L.routing = true) (hS : L.segments = true) (sp : Span) (r : Resident) (s : State)
    (h : s.residentOf sp.extent = some r) : State.Becomes L s (s.writeResident sp r).2 := by
  have he := State.residentOf_extent h
  have hr : s.residentOf (r.written (sp.writeFlash r (s.policyOf sp.extent))).extent = some r := by
    rw [show (r.written (sp.writeFlash r (s.policyOf sp.extent))).extent = sp.extent from he]
    exact h
  refine .replace s .tail r (r.written (sp.writeFlash r (s.policyOf sp.extent)))
    (s.contexts.map (Context.written sp.extent (sp.touched &&& r.absent) (sp.writeFlash r (s.policyOf sp.extent))
      (r.written (sp.writeFlash r (s.policyOf sp.extent))).isEmpty))
    hr rfl (fun _ _ hl => Resident.written_lawful _ hl)
    (fun hm => ⟨Resident.written_lostApart _ (hm.lostApart h), hm.fit_of hr fun c => ?_⟩)
    (fun k => by simp [hS] at k) (fun _ k => by simp [hR] at k)
    (fun _ hs => ⟨fun c => by rw [map_getElem_fin, hs c]; rfl, fun k => by simp [hR] at k⟩)
  rw [map_getElem_fin, Context.written_extentInMove,
    show (r.written (sp.writeFlash r (s.policyOf sp.extent))).extent = sp.extent from he]
  exact ⟨rfl, fun k => .inl (Context.written_of_ne _ _ _ k), fun k hm => hm.written _ k⟩

theorem writeAbsent (hR : L.routing = true) (hV : L.removes = true) (x : List Nat) (sp : Span) (s : State)
    (h : s.residentOf sp.extent = none) : State.Becomes L s (s.writeAbsent x sp).2 := by
  unfold State.writeAbsent
  split
  · exact .refl s
  · have hv := victim (L := L) x (some .b3) s
    have hv' := victim (L := {}) x (some .b3) s
    rcases State.absorbSlot_cases x s with ⟨n, hn, k⟩ | ⟨-, k⟩ | ⟨e, t, r, -, hvict, hr, k⟩
    · rw [k]
      exact .enter s ((s.takeSlot n).absorbedRecord sp.extent n sp.full) s.contexts (State.handOut_mem hn) h
        (fun _ he hw => State.absorbedRecord_lawful _ _ _ he hw)
        (fun hm => ⟨by simp [Resident.LostApart, State.absorbedRecord],
          State.ContextsLeave.fit (r := (s.takeSlot n).absorbedRecord sp.extent n sp.full) (hm.leave_of_absent h)⟩)
        (.inl hR) (fun _ => ⟨hR, id⟩)
    · rw [k]
      exact hv
    · rw [k]
      rw [hvict] at hv hv'
      obtain ⟨⟨b, -, hb⟩, -⟩ := State.victim_some hvict
      refine hv.trans ?_
      have he := State.residentOf_extent hr
      have hr' : t.residentOf r.extent = some r := he ▸ hr
      have hp := produceRetire (L := L) r.slot t
      have hst := (produceRetire (L := {}) r.slot t)
      have htab := State.tables_of_solid (State.produceRetire_solid r.slot t)
      refine hp.trans ?_
      have habs : (t.produceRetire r.slot).residentOf sp.extent = none :=
        hst.absent rfl rfl (hv'.absent rfl rfl h)
      have hcl : t.settings = (t.produceRetire r.slot).settings ∧ t.epoch = (t.produceRetire r.slot).epoch :=
        ⟨hst.keeps.settings.symm, hst.keeps.epoch.symm⟩
      generalize hu : t.produceRetire r.slot = u at *
      have hru : u.residentOf r.extent = some r := (State.tables_residentOf htab _).trans hr'
      have hbu : r.extent ∈ u.clean.get b := by rw [State.tables_clean htab, he]; exact hb
      have hev : t.evict .passed r =
          { ((u.drop r).returnHeat r.extent (r.heat.caughtUp u.settings u.epoch)) with
            stats := { ((u.drop r).returnHeat r.extent (r.heat.caughtUp u.settings u.epoch)).stats with
              evictions := addSat ((u.drop r).returnHeat r.extent (r.heat.caughtUp u.settings u.epoch)).stats.evictions 1 } } := by
        simp only [State.evict, State.remove, SlotFate.announced, if_true, hu, State.settleSlot, hcl.1, hcl.2]
      have hpass := State.Becomes.pass (L := L) u r
        ((t.evict .passed r).absorbedRecord sp.extent r.slot sp.full)
        (r.heat.caughtUp u.settings u.epoch) hru rfl habs
        (fun hg hep hr => Heat.caughtUp_inRange hg hep hr)
        (fun _ hep hw => State.absorbedRecord_lawful _ _ _
          (by rw [hev]; show ((u.drop r).returnHeat _ _).epoch < _; rw [State.returnHeat_eq]; exact hep)
          (by rw [hev]; exact hw))
        (by simp [Resident.LostApart, State.absorbedRecord])
        (fun hf hm => hm.leave_of_resident hru (hf.of_clean hbu hru).2.2) hR hV
      refine hpass.trans ?_
      dsimp only
      generalize hy : (t.evict .passed r).absorbedRecord sp.extent r.slot sp.full = y
      rw [show y.extent = sp.extent from hy ▸ rfl, hev]
      generalize (u.drop r).returnHeat r.extent (r.heat.caughtUp u.settings u.epoch) = v
      exact stats { v.stats with evictions := addSat v.stats.evictions 1 } ((v.unwatch sp.extent).enter y)
        (fun k => { k with evictions := addSat_le _ _ })

theorem trimExtent (hR : L.routing = true) (hS : L.segments = true) (sp : Span) (s : State) :
    State.Becomes L s (s.trimExtent sp).2 := by
  unfold State.trimExtent
  split
  · dsimp only
    split
    · exact (State.Becomes.unwatch s _).trans (unqueue _ _)
    · exact .refl s
  · rename_i r h
    have he := State.residentOf_extent h
    have hr : s.residentOf (r.trim sp.full).extent = some r := by
      rw [show (r.trim sp.full).extent = sp.extent from he]
      exact h
    refine .replace s .tail r (r.trim sp.full) (s.contexts.map (Context.trimmed sp.extent sp.full))
      hr rfl (fun _ _ hl => Resident.trim_lawful _ hl)
      (fun hm => ⟨Resident.trim_lostApart _ (hm.lostApart h), hm.fit_of hr fun c => ?_⟩)
      (fun k => by simp [hS] at k) (fun _ k => by simp [hR] at k)
      (fun _ hs => ⟨fun c => by rw [map_getElem_fin, hs c]; rfl, fun k => by simp [hR] at k⟩)
    rw [map_getElem_fin, Context.trimmed_extentInMove, show (r.trim sp.full).extent = sp.extent from he]
    exact ⟨rfl, fun k => .inl (Context.trimmed_of_ne _ k), fun k hm => hm.trimmed _ _ k⟩

theorem decideSpan (hL : L.Routes) (k : RouteKind) (x : List Nat) (sp : Span) (s : State) :
    State.Becomes L s (s.decideSpan k x sp).2 := by
  unfold State.decideSpan
  split
  · split
    · exact .refl s
    · exact .refl s
  · split
    · rename_i r h
      exact writeResident hL.routing hL.segments sp r s h
    · rename_i h
      exact writeAbsent hL.routing hL.removes x sp s h
  · exact trimExtent hL.routing hL.segments sp s

theorem decideSpans (hL : L.Routes) (k : RouteKind) (x : List Nat) (sps : List Span) (s : State) :
    State.Becomes L s (s.decideSpans k x sps).2 := by
  induction sps generalizing s with
  | nil => exact .refl s
  | cons sp sps ih => exact (decideSpan hL k x sp s).trans (ih _)

/-! ### The routed event -/

/-- Parts 1 and 2 of a routed event, after the classification (R53). -/
theorem examineRoute (hL : L.Routes) (q : Parked) (s : State) :
    State.Becomes L (s.classified q) (s.examineRoute q) := by
  have hw : State.Becomes L (s.classify q.lba q.count).2 (s.weighRoute q) :=
    foldl _ (fun u (sp : Span) => weighExtent _ sp.extent u hL.routing) _ _
  unfold State.classified State.examineRoute
  cases h : q.kind with
  | read => simpa using hw
  | write => simpa using hw
  | trim =>
    simp only [if_true]
    exact foldl _ (fun u (sp : Span) => examine 0 sp.extent u) _ _

theorem trimMark (d : Decision) (s : State) : State.Becomes L s (s.trimMark d) := by
  unfold State.trimMark
  split
  · exact .refl s
  · exact place _ _ s

theorem endTrim (hV : L.removes = true) (ds : List Decision) (s : State) : State.Becomes L s (s.endTrim ds) :=
  .trans (foldl _ (fun s d => trimMark d s) ds s) (retireEmpties _ _ hV)

theorem recordRoute (hL : L.Routes) (q : Parked) (ds : List Decision) (s : State) :
    State.Becomes L s (s.recordRoute q ds) := by
  have h : State.Becomes L s (if q.kind = .trim then s.endTrim ds else s) := by
    split
    · exact endTrim hL.removes ds s
    · exact .refl s
  unfold State.recordRoute
  generalize (if q.kind = .trim then s.endTrim ds else s) = t at h ⊢
  dsimp only
  have k := ((h.trans (.reroute t (insertBy (·.tag) (routeEntry q ds) t.routes) hL.routes)).trans
    (place .front (.routeAnswer .ok q.tag (t.forcedWake ds) (routePieces q.kind ds)) _)).trans
    (stats _ _ (Stats.routed_bounded q.kind (routePieces q.kind ds)
      ((ds.map (fun d => segCount d.absorbed)).sum) (t.forcedWake ds) _))
  split
  · exact k.trans (armAdvice _)
  · exact k

/-- A routed event, after the classification (R53). -/
theorem routed (hL : L.Routes) (q : Parked) (s : State) : State.Becomes L (s.classified q) (s.routed q) :=
  (((examineRoute hL q s).trans (decideSpans hL _ _ _ _)).trans (recordRoute hL q _ _)).trans (finish _ hL.grants)

/-! ### DONE -/

theorem failWrite (hL : L.Finishes) (e : Nat) (a : SegSet) (s : State) : State.Becomes L s (s.failWrite e a) := by
  unfold State.failWrite
  split
  · exact .refl s
  · rename_i r h
    dsimp only
    split
    · exact .refl s
    · have he := State.residentOf_extent h
      have hr : s.residentOf (r.lose (a &&& r.valid)).extent = some r := by
        rw [show (r.lose (a &&& r.valid)).extent = e from he]
        exact h
      have hle : segLess (a &&& r.valid) r.valid = 0#32 := by
        refine BitVec.eq_of_getLsbD_eq fun i hi => ?_
        simp only [segLess, BitVec.getLsbD_and, BitVec.getLsbD_not, BitVec.getLsbD_zero, hi]
        grind
      refine (store .tail r (r.lose (a &&& r.valid)) s hr rfl (fun _ _ hl => Resident.lose_lawful _ hl)
        (fun hm => ⟨Resident.lose_lostApart _ (hm.lostApart h), hm.fit_of hr fun c =>
          ⟨rfl, fun _ => .inl rfl, fun _ k => k.of_union rfl rfl (Resident.lose_union _ hle)⟩⟩)
        (fun k => by simp [hL.segments] at k) (fun _ k => ?_)).trans (markLost _ _ _)
      rw [Bool.eq_false_iff, ne_eq, Resident.isEmpty_iff_union] at k ⊢
      rwa [Resident.lose_union _ hle]

theorem failEntry (hL : L.Finishes) (t : RouteEntry) (s : State) : State.Becomes L s (s.failEntry t) := by
  simp only [State.failEntry]
  split
  · exact failWrite hL _ _ s
  · exact (failWrite hL _ _ s).trans (failWrite hL _ _ _)

theorem endRoute (hL : L.Finishes) (t : RouteEntry) (b : Bool) (s : State) : State.Becomes L s (s.endRoute t b) := by
  have h : State.Becomes L s (if (b && t.kind == .write) = true then s.failEntry t else s) := by
    split
    · exact failEntry hL t s
    · exact .refl s
  unfold State.endRoute
  generalize (if (b && t.kind == .write) = true then s.failEntry t else s) = u at h ⊢
  dsimp only
  refine State.Becomes.trans ?_ (finish _ hL.grants)
  have k := (h.trans (.reroute u (u.routes.filter (fun x => x.tag ≠ t.tag)) hL.routes)).trans
    (retireEmpties t.extents _ hL.removes)
  split
  · exact k.trans (armAdvice _)
  · exact k

theorem takeDone (hL : L.Finishes) (tag outcome : Nat) (s : State) : State.Becomes L s (s.takeDone tag outcome) := by
  unfold State.takeDone
  split
  · exact place _ _ s
  · split
    · exact place _ _ s
    · split
      · exact place _ _ s
      · exact (place _ _ s).trans (endRoute hL _ _ _)

end State.Becomes

end Sys2Proof.Machine
end

section
/-! SUPPORT. The Dirty List, the clean lists and the records' own laws through every chain of updates (R2, R4, R8 to
R10, R18, R29, R94). -/

namespace Sys2Proof.Machine

/-! ### The lists after a record is filed -/

theorem CleanLists.get_change (c : CleanLists) (f : Band → List Nat → List Nat) (b : Band) :
    (c.change f).get b = f b (c.get b) := by
  cases b <;> rfl

theorem State.fileLists_clean (a : ListEnd) (r : Resident) (s : State) (b : Band) :
    (s.fileLists a r).clean.get b =
      if r.cleanBand = some b then
        (if r.extent ∈ s.clean.get b then s.clean.get b else joinEnd a r.extent (s.clean.get b))
      else without r.extent (s.clean.get b) :=
  CleanLists.get_change s.clean _ b

theorem State.fileLists_dirtyList (a : ListEnd) (r : Resident) (s : State) :
    (s.fileLists a r).dirtyList =
      if r.dirty = 0#32 then without r.extent s.dirtyList
      else if r.extent ∈ s.dirtyList then s.dirtyList else s.dirtyList ++ [r.extent] := rfl

@[simp] theorem mem_joinEnd (a : ListEnd) (x e : Nat) (l : List Nat) : x ∈ joinEnd a e l ↔ x = e ∨ x ∈ l := by
  cases a <;> simp [joinEnd, or_comm]

theorem nodup_joinEnd (a : ListEnd) {e : Nat} {l : List Nat} (h : l.Nodup) (he : e ∉ l) : (joinEnd a e l).Nodup := by
  cases a with
  | head => exact List.nodup_cons.2 ⟨he, h⟩
  | tail => exact List.nodup_append.2 ⟨h, List.nodup_singleton e, fun x hx y hy => by
      rw [List.mem_singleton.1 hy]; exact fun k => he (k ▸ hx)⟩

theorem State.mem_fileLists_clean (a : ListEnd) (r : Resident) (s : State) (b : Band) (x : Nat) :
    x ∈ (s.fileLists a r).clean.get b ↔
      (x ≠ r.extent ∧ x ∈ s.clean.get b) ∨ (x = r.extent ∧ r.cleanBand = some b) := by
  rw [State.fileLists_clean]
  split
  · split <;> grind [mem_joinEnd]
  · grind [mem_without]

theorem State.mem_fileLists_dirtyList (a : ListEnd) (r : Resident) (s : State) (x : Nat) :
    x ∈ (s.fileLists a r).dirtyList ↔ (x ≠ r.extent ∧ x ∈ s.dirtyList) ∨ (x = r.extent ∧ r.dirty ≠ 0#32) := by
  rw [State.fileLists_dirtyList]
  split
  · grind [mem_without]
  · split <;> grind

theorem State.nodup_fileLists_clean (a : ListEnd) (r : Resident) (s : State) (b : Band)
    (h : (s.clean.get b).Nodup) : ((s.fileLists a r).clean.get b).Nodup := by
  rw [State.fileLists_clean]
  split
  · split
    · exact h
    · exact nodup_joinEnd a h ‹_›
  · exact nodup_without _ _ h

theorem State.nodup_fileLists_dirtyList (a : ListEnd) (r : Resident) (s : State) (h : s.dirtyList.Nodup) :
    (s.fileLists a r).dirtyList.Nodup := by
  rw [State.fileLists_dirtyList]
  split
  · exact nodup_without _ _ h
  · split
    · exact h
    · exact nodup_joinEnd .tail h ‹_›

/-! ### Records lawful -/

namespace State.RecordsLawful

variable {s : State}

/-- A record filed in the table keeps the Dirty List's records dirty (R8). -/
theorem dirty_of_file (h : ∀ e ∈ s.dirtyList, ∀ r, s.residentOf e = some r → r.dirty ≠ 0#32) (a : ListEnd)
    (new : Resident) {t : State} (ht : t.dirtyList = (s.fileLists a new).dirtyList)
    (hsame : ∀ r, t.residentOf new.extent = some r → r.dirty = new.dirty)
    (hne : ∀ e, e ≠ new.extent → t.residentOf e = s.residentOf e) :
    ∀ e ∈ t.dirtyList, ∀ r, t.residentOf e = some r → r.dirty ≠ 0#32 := by
  intro e he r hr
  rw [ht] at he
  rcases (State.mem_fileLists_dirtyList a new s e).1 he with ⟨hx, hm⟩ | ⟨rfl, hd⟩
  · exact h e hm r (hne e hx ▸ hr)
  · rw [hsame r hr]
    exact hd

theorem store (h : s.RecordsLawful) (a : ListEnd) {old new : Resident} (hr : s.residentOf new.extent = some old)
    (hl : new.settled.Lawful) : (s.store a new).RecordsLawful where
  records r hm := by
    rcases State.mem_store hm with rfl | ⟨k, -⟩
    · exact hl
    · exact h.records r k
  watch := h.watch
  epoch := h.epoch
  extents := by rw [State.store_extents]; exact h.extents
  dirtyList := by
    refine dirty_of_file h.dirtyList a new.settled (t := s.store a new) rfl (fun r hr' => ?_) (fun e he => ?_)
    · rw [Resident.settled_extent, State.residentOf_store_same a hr] at hr'
      cases hr'
      rfl
    · exact State.residentOf_store_of_ne a new s (by simpa using he)

theorem enter (h : s.RecordsLawful) {x : Resident} (hx : s.residentOf x.extent = none) (hl : x.Lawful) :
    (s.enter x).RecordsLawful where
  records r hm := by
    rcases (mem_insertBy _ x r s.records).1 hm with rfl | k
    · exact hl
    · exact h.records r k
  watch := h.watch
  epoch := h.epoch
  extents := by
    have := (insertBy_perm (·.slot) x s.records).map (·.extent)
    refine (this.nodup_iff.2 (List.nodup_cons.2 ⟨?_, h.extents⟩))
    simpa using fun r hr => State.residentOf_eq_none.1 hx r hr
  dirtyList := by
    refine dirty_of_file h.dirtyList .tail x (t := s.enter x) rfl (fun r hr' => ?_) (fun e he => ?_)
    · rw [State.residentOf_enter_same hx] at hr'
      cases hr'
      rfl
    · exact State.residentOf_enter_of_ne x s he

theorem drop (h : s.RecordsLawful) (r : Resident) : (s.drop r).RecordsLawful where
  records x hx := h.records x (List.mem_of_mem_filter hx)
  watch := h.watch
  epoch := h.epoch
  extents := h.extents.sublist (List.filter_sublist.map _)
  dirtyList e he x hx := by
    obtain ⟨hm, hne⟩ := (mem_without _ _ _).1 (show e ∈ without r.extent s.dirtyList from he)
    rw [State.residentOf_drop_of_ne r s hne] at hx
    exact h.dirtyList e hm x hx

/-- The Watch List changed: its entries' heat stays in range. -/
theorem withWatch (h : s.RecordsLawful) (w : List WatchEntry) (hw : ∀ x ∈ w, x.heat.InRange) (l p : List Nat) :
    State.RecordsLawful { s with watch := w, touch := l, promo := p } :=
  ⟨h.records, hw, h.epoch, h.extents, h.dirtyList⟩

theorem mem_watchRoom {x : WatchEntry} (hx : x ∈ s.watchRoom.watch) : x ∈ s.watch := by
  unfold State.watchRoom at hx
  split at hx
  · exact hx
  · split at hx
    · exact hx
    · exact List.mem_of_mem_filter hx

theorem enterWatch (h : s.RecordsLawful) (a : ListEnd) (e : Nat) {k : Heat} (hk : k.InRange) :
    (s.enterWatch a e k).RecordsLawful := by
  rw [State.enterWatch_eq]
  refine h.withWatch _ (fun x hx => ?_) _ _
  rcases (mem_insertBy _ _ _ _).1 hx with rfl | hx
  · exact hk
  · exact h.watch x (mem_watchRoom hx)

theorem returnHeat (h : s.RecordsLawful) (e : Nat) {k : Heat} (hk : k.InRange) :
    (s.returnHeat e k).RecordsLawful := by
  unfold State.returnHeat
  split
  · exact ⟨h.records, h.watch, h.epoch, h.extents, h.dirtyList⟩
  · exact h.enterWatch _ _ hk

theorem settleSlot (h : s.RecordsLawful) (f : SlotFate) (n : Nat) : (s.settleSlot f n).RecordsLawful := by
  rw [State.settleSlot_eq]
  exact ⟨h.records, h.watch, h.epoch, h.extents, h.dirtyList⟩

theorem withContexts (h : s.RecordsLawful) (v : Vector Context 4) : State.RecordsLawful { s with contexts := v } :=
  ⟨h.records, h.watch, h.epoch, h.extents, h.dirtyList⟩

theorem unwatch (h : s.RecordsLawful) (e : Nat) : (s.unwatch e).RecordsLawful :=
  h.withWatch _ (fun x hx => h.watch x (List.mem_of_mem_filter hx)) _ s.promo

theorem flag (h : s.RecordsLawful) {f : Resident → Resident} (hf : ∀ r : Resident, r.Flagged (f r)) :
    State.RecordsLawful { s with records := s.records.map f } where
  records r hr := by
    obtain ⟨x, hx, rfl⟩ := List.mem_map.1 hr
    exact (hf x).lawful (h.records x hx)
  watch := h.watch
  epoch := h.epoch
  extents := by
    have : (s.records.map f).map (·.extent) = s.records.map (·.extent) := by
      rw [List.map_map]
      exact List.map_congr_left fun r _ => by rw [Function.comp, (hf r).eq]
    rw [this]
    exact h.extents
  dirtyList e he r hr := by
    rw [State.residentOf_map (s := s) f rfl (fun r => by rw [(hf r).eq]) e] at hr
    obtain ⟨x, hx, rfl⟩ := Option.map_eq_some_iff.1 hr
    rw [(hf x).eq]
    exact h.dirtyList e he x hx

end State.RecordsLawful

/-- Chains of updates keep every record lawful (R2, R4, R8 to R10, R29). -/
theorem State.Becomes.recordsLawful {L : Licence} {s t : State} (h : State.Becomes L s t)
    (hg : s.settings.InRange) (hs : s.RecordsLawful) : t.RecordsLawful := by
  induction h with
  | refl s => exact hs
  | trans h _ ih ih' => exact ih' (h.keeps.settings ▸ hg) (ih hg hs)
  | light same _ => exact hs.congr (State.tables_of_solid same)
  | touchClean s e => exact ⟨hs.records, hs.watch, hs.epoch, hs.extents, hs.dirtyList⟩
  | rewatch s x k hx heat =>
    refine hs.withWatch _ (fun w hw => ?_) s.touch s.promo
    obtain ⟨y, hy, rfl⟩ := List.mem_map.1 hw
    split
    · exact heat hg hs.epoch (hs.watch x hx)
    · exact hs.watch y hy
  | touchWatch s e => exact ⟨hs.records, hs.watch, hs.epoch, hs.extents, hs.dirtyList⟩
  | watch s e k _ _ heat => exact hs.enterWatch _ _ (heat hg hs.epoch)
  | unwatch s e => exact hs.unwatch e
  | replace s a old new ctx hr _ lawful =>
    exact (hs.store a hr (lawful hg hs.epoch (hs.records old (State.residentOf_mem hr).1))).withContexts ctx
  | remove s fate r k ctx hr heat =>
    exact (((hs.withContexts ctx).drop r).returnHeat r.extent
      (heat hg hs.epoch (hs.records r (State.residentOf_mem hr).1).heat)).settleSlot fate r.slot
  | enter s x ctx _ absent lawful =>
    have h1 : (s.takeSlot x.slot).RecordsLawful := ⟨hs.records, hs.watch, hs.epoch, hs.extents, hs.dirtyList⟩
    exact ((h1.unwatch x.extent).enter absent (lawful hg hs.epoch hs.watch)).withContexts ctx
  | pass s r x k hr _ absent heat lawful =>
    have h1 := (hs.drop r).returnHeat r.extent (heat hg hs.epoch (hs.records r (State.residentOf_mem hr).1).heat)
    refine (h1.unwatch x.extent).enter ?_ (lawful hg hs.epoch h1.watch)
    rw [State.residentOf_congr (s := s.drop r) (by simp [State.unwatch])]
    exact State.residentOf_eq_none.2 fun y hy => State.residentOf_eq_none.1 absent y (List.mem_of_mem_filter hy)
  | flag s f flags => exact hs.flag flags
  | requeue s e he =>
    refine ⟨hs.records, hs.watch, hs.epoch, hs.extents, fun x hx => hs.dirtyList x ?_⟩
    rcases List.mem_append.1 hx with hx | hx
    · exact ((mem_without _ _ _).1 hx).1
    · exact List.mem_singleton.1 hx ▸ he
  | progress s ctx => exact hs.withContexts ctx
  | conclude same => exact hs.congr same
  | _ => exact ⟨hs.records, hs.watch, hs.epoch, hs.extents, hs.dirtyList⟩

/-! ### Lists filed -/

/-- The lists are filed when each extent's record, by itself, puts the extent where it stands (R8, R18, R94). -/
theorem State.listsFiled_iff {s : State} : s.ListsFiled ↔
    (s.records.map (·.extent)).Nodup ∧ s.dirtyList.Nodup ∧
    (∀ e, e ∈ s.dirtyList ↔ ∃ r, s.residentOf e = some r ∧ r.dirty ≠ 0#32) ∧ (∀ b, (s.clean.get b).Nodup) ∧
    ∀ b e, e ∈ s.clean.get b ↔ ∃ r, s.residentOf e = some r ∧ r.cleanBand = some b := by
  have key (hn : (s.records.map (·.extent)).Nodup) (e : Nat) (P : Resident → Prop) :
      (∃ r ∈ s.records, r.extent = e ∧ P r) ↔ ∃ r, s.residentOf e = some r ∧ P r := by
    constructor
    · rintro ⟨r, hm, rfl, hp⟩
      exact ⟨r, State.residentOf_of_mem hn hm, hp⟩
    · rintro ⟨r, hr, hp⟩
      obtain ⟨hm, he⟩ := State.residentOf_mem hr
      exact ⟨r, hm, he, hp⟩
  constructor
  · rintro ⟨h1, h2, h3, h4, h5⟩
    exact ⟨h1, h2, fun e => (h3 e).trans (key h1 e _), h4, fun b e => (h5 b e).trans (key h1 e _)⟩
  · rintro ⟨h1, h2, h3, h4, h5⟩
    exact ⟨h1, h2, fun e => (h3 e).trans (key h1 e _).symm, h4, fun b e => (h5 b e).trans (key h1 e _).symm⟩

namespace State.ListsFiled

variable {s : State}

/-- A record filed in the table, beside others that stand, leaves the lists filed. -/
theorem file (h : s.ListsFiled) (a : ListEnd) (new : Resident) {t : State}
    (hd : t.dirtyList = (s.fileLists a new).dirtyList) (hc : t.clean = (s.fileLists a new).clean)
    (hn : (t.records.map (·.extent)).Nodup)
    (hsame : t.residentOf new.extent = some new) (hne : ∀ e, e ≠ new.extent → t.residentOf e = s.residentOf e) :
    t.ListsFiled := by
  obtain ⟨-, h2, h3, h4, h5⟩ := State.listsFiled_iff.1 h
  refine State.listsFiled_iff.2 ⟨hn, hd ▸ State.nodup_fileLists_dirtyList a new s h2, fun e => ?_,
    fun b => hc ▸ State.nodup_fileLists_clean a new s b (h4 b), fun b e => ?_⟩
  · rw [hd, State.mem_fileLists_dirtyList]
    by_cases he : e = new.extent
    · subst he; simp [hsame]
    · simp [he, h3 e, hne e he]
  · rw [hc, State.mem_fileLists_clean]
    by_cases he : e = new.extent
    · subst he; simp [hsame]
    · simp [he, h5 b e, hne e he]

theorem store (h : s.ListsFiled) (a : ListEnd) {old new : Resident} (hr : s.residentOf new.extent = some old) :
    (s.store a new).ListsFiled := by
  refine h.file a new.settled rfl rfl (by rw [State.store_extents]; exact h.extents) ?_ fun e he => ?_
  · rw [Resident.settled_extent]
    exact State.residentOf_store_same a hr
  · exact State.residentOf_store_of_ne a new s (by simpa using he)

theorem enter (h : s.ListsFiled) {x : Resident} (hx : s.residentOf x.extent = none) : (s.enter x).ListsFiled := by
  refine h.file .tail x rfl rfl ?_ (State.residentOf_enter_same hx) fun e he => State.residentOf_enter_of_ne x s he
  have := (insertBy_perm (·.slot) x s.records).map (·.extent)
  refine (this.nodup_iff.2 (List.nodup_cons.2 ⟨?_, h.extents⟩))
  simpa using fun r hr => State.residentOf_eq_none.1 hx r hr

theorem drop (h : s.ListsFiled) (r : Resident) : (s.drop r).ListsFiled := by
  obtain ⟨h1, h2, h3, h4, h5⟩ := State.listsFiled_iff.1 h
  have hcl (b : Band) : (s.drop r).clean.get b = without r.extent (s.clean.get b) := CleanLists.get_change s.clean _ b
  refine State.listsFiled_iff.2 ⟨h1.sublist (List.filter_sublist.map _), nodup_without _ _ h2, fun e => ?_,
    fun b => hcl b ▸ nodup_without _ _ (h4 b), fun b e => ?_⟩
  · rw [show (s.drop r).dirtyList = without r.extent s.dirtyList from rfl, mem_without]
    by_cases he : e = r.extent
    · subst he; simp [State.residentOf_drop_same]
    · simp [he, h3 e, State.residentOf_drop_of_ne r s he]
  · rw [hcl b, mem_without]
    by_cases he : e = r.extent
    · subst he; simp [State.residentOf_drop_same]
    · simp [he, h5 b e, State.residentOf_drop_of_ne r s he]

/-- The lists look at the records, the Dirty List and the clean lists alone. -/
theorem of_same (h : s.ListsFiled) {t : State} (hr : t.records = s.records) (hd : t.dirtyList = s.dirtyList)
    (hc : t.clean = s.clean) : t.ListsFiled :=
  ⟨hr ▸ h.extents, hd ▸ h.dirtyOnce, fun e => by rw [hd, hr]; exact h.dirty e, hc ▸ h.cleanOnce,
    fun b e => by rw [hc, hr]; exact h.clean b e⟩

theorem returnHeat (h : s.ListsFiled) (e : Nat) (k : Heat) : (s.returnHeat e k).ListsFiled :=
  h.of_same (by simp) (by rw [State.returnHeat_eq]) (by rw [State.returnHeat_eq])

theorem settleSlot (h : s.ListsFiled) (f : SlotFate) (n : Nat) : (s.settleSlot f n).ListsFiled :=
  h.of_same (by simp) (by rw [State.settleSlot_eq]) (by rw [State.settleSlot_eq])

theorem flag (h : s.ListsFiled) {f : Resident → Resident} (hf : ∀ r : Resident, r.Flagged (f r)) :
    State.ListsFiled { s with records := s.records.map f } := by
  obtain ⟨h1, h2, h3, h4, h5⟩ := State.listsFiled_iff.1 h
  have hres (e : Nat) : ({ s with records := s.records.map f } : State).residentOf e = (s.residentOf e).map f :=
    State.residentOf_map f rfl (fun r => by rw [(hf r).eq]) e
  have hdirty (r : Resident) : (f r).dirty = r.dirty := by rw [(hf r).eq]
  have hband (r : Resident) : (f r).cleanBand = r.cleanBand := by
    have := (hf r).band
    rw [(hf r).eq, Resident.cleanBand, Resident.cleanBand]
    simp only [this]
  refine State.listsFiled_iff.2 ⟨?_, h2, fun e => ?_, h4, fun b e => ?_⟩
  · have : (s.records.map f).map (·.extent) = s.records.map (·.extent) := by
      rw [List.map_map]
      exact List.map_congr_left fun r _ => by rw [Function.comp, (hf r).eq]
    rw [this]
    exact h1
  · rw [hres, h3 e]
    cases s.residentOf e <;> simp [hdirty]
  · rw [hres, h5 b e]
    cases s.residentOf e <;> simp [hband]

/-- A touch of a clean list's record leaves what the lists hold (R18). -/
theorem touchClean (h : s.ListsFiled) (e : Nat) : (s.touchClean e).ListsFiled := by
  have hcl (b : Band) : (s.touchClean e).clean.get b =
      if e ∈ s.clean.get b then without e (s.clean.get b) ++ [e] else s.clean.get b := CleanLists.get_change s.clean _ b
  refine ⟨h.extents, h.dirtyOnce, h.dirty, fun b => ?_, fun b x => ?_⟩
  · rw [hcl b]
    split
    · exact nodup_joinEnd .tail (nodup_without e _ (h.cleanOnce b)) (by simp)
    · exact h.cleanOnce b
  · rw [hcl b, show (s.touchClean e).records = s.records from rfl, ← h.clean b x]
    split
    · by_cases hx : x = e <;> simp_all
    · rfl

end State.ListsFiled

/-- Chains of updates leave every list filed (R8, R18, R94). -/
theorem State.Becomes.listsFiled {L : Licence} {s t : State} (h : State.Becomes L s t) (hs : s.ListsFiled) :
    t.ListsFiled := by
  induction h with
  | refl s => exact hs
  | trans _ _ ih ih' => exact ih' (ih hs)
  | light same _ => exact hs.congr (State.tables_of_solid same)
  | touchClean s e => exact hs.touchClean e
  | watch s e k => exact hs.of_same (by simp) (by rw [State.enterWatch_eq]) (by rw [State.enterWatch_eq])
  | replace s a old new ctx hr => exact (hs.store a hr).of_same rfl rfl rfl
  | remove s fate r k ctx hr =>
    exact (((hs.of_same (t := { s with contexts := ctx }) rfl rfl rfl).drop r).returnHeat r.extent k).settleSlot fate _
  | enter s x ctx _ absent =>
    have h1 : ((s.takeSlot x.slot).unwatch x.extent).ListsFiled := hs.of_same rfl rfl rfl
    exact (h1.enter absent).of_same rfl rfl rfl
  | pass s r x k hr _ absent =>
    have h1 : (((s.drop r).returnHeat r.extent k).unwatch x.extent).ListsFiled :=
      ((hs.drop r).returnHeat r.extent k).of_same rfl rfl rfl
    refine h1.enter ?_
    rw [State.residentOf_congr (s := s.drop r) (by simp [State.unwatch])]
    exact State.residentOf_eq_none.2 fun y hy => State.residentOf_eq_none.1 absent y (List.mem_of_mem_filter hy)
  | flag s f flags => exact hs.flag flags
  | requeue s e he =>
    refine ⟨hs.extents, nodup_joinEnd .tail (nodup_without e _ hs.dirtyOnce) (by simp), fun x => ?_, hs.cleanOnce,
      hs.clean⟩
    rw [show ({ s with dirtyList := without e s.dirtyList ++ [e] } : State).records = s.records from rfl, ← hs.dirty x]
    by_cases hx : x = e <;> simp_all
  | conclude same => exact hs.congr same
  | _ => exact hs.of_same rfl rfl rfl

end Sys2Proof.Machine
end

section
/-! SUPPORT. Moves matched by their records, and each extent's heat in one place, through every chain of updates (R3,
R4, R12, R109 to R113). -/

namespace Sys2Proof.Machine

/-! ### Moves matched -/

namespace State.MovesMatched

variable {s : State}

/-- Moves look at the records and the contexts alone. -/
theorem of_same (h : s.MovesMatched) {t : State} (hr : t.records = s.records) (hc : t.contexts = s.contexts) :
    t.MovesMatched := by
  refine .of (hr ▸ h.lost) (fun c e hce => ?_) (hc ▸ h.apart)
  rw [hc] at hce ⊢
  rw [State.residentOf_congr hr]
  exact h.matching hce

/-- One extent's record is new or has new contents, the other records stand, and the contexts fit. -/
theorem change (h : s.MovesMatched) {new : Resident} {ctx : Vector Context 4} (hl : new.LostApart)
    (hf : s.ContextsFit new ctx) {t : State} (hc : t.contexts = ctx)
    (hm : ∀ r ∈ t.records, r.LostApart) {u : Resident} (hsame : t.residentOf new.extent = some u)
    (hslot : u.slot = new.slot) (hstate : u.state = new.state) (hvalid : u.valid = new.valid)
    (hlost : u.lost = new.lost) (hne : ∀ e, e ≠ new.extent → t.residentOf e = s.residentOf e) : t.MovesMatched := by
  refine .of hm (fun c e hce => ?_) fun c d hcd e hce hde => ?_
  · rw [hc] at hce ⊢
    rcases hf c with k | ⟨k, kn⟩ | ⟨k, km, -⟩
    · exact nomatch k.symm.trans hce
    · have he : e ≠ new.extent := fun x => kn (x ▸ hce)
      rw [k] at hce ⊢
      rw [hne e he]
      exact h.matching hce
    · have he : new.extent = e := Option.some.inj (k.symm.trans hce)
      exact ⟨u, he ▸ hsame, km.congr hslot hstate hvalid hlost⟩
  · rw [hc] at hce hde
    rcases hf c with k | ⟨k, kn⟩ | ⟨k, km, ku⟩
    · exact nomatch k.symm.trans hce
    · rcases hf d with j | ⟨j, jn⟩ | ⟨j, -, -⟩
      · exact nomatch j.symm.trans hde
      · rw [k] at hce
        rw [j] at hde
        exact h.apart c d hcd e hce hde
      · exact kn (hce.trans (hde.symm.trans j))
    · have he : new.extent = e := Option.some.inj (k.symm.trans hce)
      exact hcd (ku d (he ▸ hde)).symm

/-- One extent's record is gone, the other records stand, and the contexts leave it. -/
theorem leave (h : s.MovesMatched) {e : Nat} {ctx : Vector Context 4} (hf : s.ContextsLeave e ctx) {t : State}
    (hc : t.contexts = ctx) (hm : ∀ r ∈ t.records, r.LostApart)
    (hne : ∀ x, x ≠ e → t.residentOf x = s.residentOf x) : t.MovesMatched := by
  refine .of hm (fun c x hcx => ?_) fun c d hcd x hcx hdx => ?_
  · rw [hc] at hcx ⊢
    rcases hf c with k | ⟨k, kn⟩
    · exact nomatch k.symm.trans hcx
    · have he : x ≠ e := fun y => kn (y ▸ hcx)
      rw [k] at hcx ⊢
      rw [hne x he]
      exact h.matching hcx
  · rw [hc] at hcx hdx
    rcases hf c with k | ⟨k, -⟩
    · exact nomatch k.symm.trans hcx
    · rcases hf d with j | ⟨j, -⟩
      · exact nomatch j.symm.trans hdx
      · rw [k] at hcx
        rw [j] at hdx
        exact h.apart c d hcd x hcx hdx

/-- A removal, whatever becomes of the slot and the heat. -/
theorem removal (h : s.MovesMatched) {r : Resident} {ctx : Vector Context 4} (hf : s.ContextsLeave r.extent ctx)
    {t : State} (hr : t.records = (s.drop r).records) (hc : t.contexts = ctx) : t.MovesMatched := by
  refine h.leave hf hc (fun x hx => ?_) fun x hx => ?_
  · rw [hr] at hx
    exact h.lost x (List.mem_of_mem_filter hx)
  · rw [State.residentOf_congr hr]
    exact State.residentOf_drop_of_ne r s hx

theorem enter (h : s.MovesMatched) {x : Resident} {ctx : Vector Context 4} (hx : s.residentOf x.extent = none)
    (hl : x.LostApart) (hf : s.ContextsFit x ctx) {t : State} (hr : t.records = (s.enter x).records)
    (hc : t.contexts = ctx) : t.MovesMatched := by
  refine h.change hl hf hc (fun r hm => ?_) ((State.residentOf_congr hr _).trans (State.residentOf_enter_same hx))
    rfl rfl rfl rfl fun e he => (State.residentOf_congr hr _).trans (State.residentOf_enter_of_ne x s he)
  rw [hr] at hm
  rcases (mem_insertBy _ x r s.records).1 hm with rfl | k
  · exact hl
  · exact h.lost r k

end State.MovesMatched

/-- Chains of updates keep every move matched by its record (R3, R4, R109, R111, R112). -/
theorem State.Becomes.movesMatched {L : Licence} {s t : State} (h : State.Becomes L s t) (hf : s.ListsFiled)
    (hs : s.MovesMatched) : t.MovesMatched := by
  induction h with
  | refl s => exact hs
  | trans h _ ih ih' => exact ih' (h.listsFiled hf) (ih hf hs)
  | light same _ => exact hs.congr (State.tables_of_solid same)
  | watch s e k => exact hs.of_same (by simp) (by rw [State.enterWatch_eq])
  | replace s a old new ctx hr _ _ matched =>
    obtain ⟨hl, hfit⟩ := matched hs
    refine hs.change hl hfit rfl (fun r hm => ?_) (State.residentOf_store_same a hr) (by simp) (by simp) (by simp)
      (by simp) fun e he => State.residentOf_store_of_ne a new s he
    rcases State.mem_store (a := a) hm with rfl | ⟨k, -⟩
    · simpa [Resident.LostApart] using hl
    · exact hs.lost r k
  | remove s fate r k ctx hr _ matched =>
    refine hs.removal (matched hf hs) (r := r) ?_ ?_
    · simp
    · rw [State.settleSlot_eq, State.returnHeat_eq]
      rfl
  | enter s x ctx _ absent _ matched =>
    obtain ⟨hl, hfit⟩ := matched hs
    exact hs.enter absent hl hfit rfl rfl
  | pass s r x k hr _ absent _ _ apart matched =>
    have h1 : (((s.drop r).returnHeat r.extent k).unwatch x.extent).MovesMatched := by
      refine hs.removal (matched hf hs) (r := r) ?_ ?_
      · simp [State.unwatch]
      · show ((s.drop r).returnHeat r.extent k).contexts = s.contexts
        rw [State.returnHeat_eq]
        rfl
    have habs : (((s.drop r).returnHeat r.extent k).unwatch x.extent).residentOf x.extent = none := by
      rw [State.residentOf_congr (s := s.drop r) (by simp [State.unwatch])]
      exact State.residentOf_eq_none.2 fun y hy => State.residentOf_eq_none.1 absent y (List.mem_of_mem_filter hy)
    exact h1.enter habs apart (h1.leave_of_absent habs).fit rfl rfl
  | flag s f flags =>
    have hres (e : Nat) : ({ s with records := s.records.map f } : State).residentOf e = (s.residentOf e).map f :=
      State.residentOf_map f rfl (fun r => by rw [(flags r).eq]) e
    refine .of (fun r hr => ?_) (fun c e hc => ?_) hs.apart
    · obtain ⟨x, hx, rfl⟩ := List.mem_map.1 hr
      rw [(flags x).eq]
      exact hs.lost x hx
    · obtain ⟨r, hr, k⟩ := hs.matching hc
      refine ⟨f r, by rw [hres, hr]; rfl, k.congr ?_ ?_ ?_ ?_⟩ <;> rw [(flags r).eq]
  | progress s ctx _ fit =>
    refine .of hs.lost (fun c e hc => ?_) fun c d hcd e hc hd => ?_
    · rcases fit c with k | ⟨k, km⟩
      · exact nomatch k.symm.trans hc
      · obtain ⟨r, hr, k'⟩ := hs.matching (k.symm.trans hc)
        exact ⟨r, hr, km r k'⟩
    · rcases fit c with k | ⟨k, -⟩
      · exact nomatch k.symm.trans hc
      · rcases fit d with j | ⟨j, -⟩
        · exact nomatch j.symm.trans hd
        · exact hs.apart c d hcd e (k.symm.trans hc) (j.symm.trans hd)
  | conclude same => exact hs.congr same
  | _ => exact hs.of_same rfl rfl

/-! ### Heat in one place -/

/-- No two watch entries are of one extent, none is of a resident extent, and last-touch order holds each watch entry
once (R12). -/
structure State.HeatApart (s : State) : Prop where
  once : (s.watch.map (·.extent)).Nodup
  apart : ∀ w ∈ s.watch, s.residentOf w.extent = none
  touch : s.touch.Perm (s.watch.map (·.extent))

theorem State.HeatOnce.heatApart {s : State} (h : s.HeatOnce) : s.HeatApart :=
  ⟨h.once, fun w hw => State.residentOf_eq_none.2 fun r hr k => h.apart w hw r hr k.symm, h.touch⟩

theorem State.watchOf_eq_none {s : State} {e : Nat} : s.watchOf e = none ↔ ∀ w ∈ s.watch, w.extent ≠ e := by
  simp [State.watchOf]

theorem State.watchOf_mem {s : State} {e : Nat} {w : WatchEntry} (h : s.watchOf e = some w) :
    w ∈ s.watch ∧ w.extent = e :=
  ⟨List.mem_of_find?_eq_some h, State.Becomes.watchOf_extent h⟩

theorem map_extent_filter (l : List WatchEntry) (e : Nat) :
    (l.filter fun w => w.extent ≠ e).map (·.extent) = without e (l.map (·.extent)) := by
  unfold without
  rw [List.filter_map]
  rfl

namespace State.HeatApart

variable {s : State}

/-- Heat looks at the Watch List, last-touch order and the resident extents alone. -/
theorem of_same (h : s.HeatApart) {t : State} (hw : t.watch = s.watch) (ht : t.touch = s.touch)
    (hr : ∀ e, s.residentOf e = none → t.residentOf e = none) : t.HeatApart :=
  ⟨hw ▸ h.once, fun w k => hr _ (h.apart w (hw ▸ k)), by rw [hw, ht]; exact h.touch⟩

theorem unwatch (h : s.HeatApart) (e : Nat) : (s.unwatch e).HeatApart where
  once := by
    rw [show (s.unwatch e).watch = s.watch.filter fun w => w.extent ≠ e from rfl, map_extent_filter]
    exact nodup_without e _ h.once
  apart w hw := h.apart w (List.mem_of_mem_filter hw)
  touch := by
    rw [show (s.unwatch e).watch = s.watch.filter fun w => w.extent ≠ e from rfl, map_extent_filter]
    exact h.touch.filter _

theorem unwatch_watchOf (e : Nat) : (s.unwatch e).watchOf e = none := by
  rw [State.watchOf_eq_none]
  intro w hw
  simpa using (List.mem_filter.1 hw).2

theorem watchRoom (h : s.HeatApart) : s.watchRoom.HeatApart := by
  unfold State.watchRoom
  split
  · exact h
  · split
    · exact h
    · exact (h.unwatch _).of_same rfl rfl fun _ => id

theorem watchRoom_watchOf {e : Nat} (he : s.watchOf e = none) : s.watchRoom.watchOf e = none :=
  State.watchOf_eq_none.2 fun w hw => State.watchOf_eq_none.1 he w (State.RecordsLawful.mem_watchRoom hw)

theorem watchRoom_residentOf (s : State) (e : Nat) : s.watchRoom.residentOf e = s.residentOf e :=
  State.residentOf_congr (by rw [State.watchRoom_tables]) e

theorem joinEnd_perm (a : ListEnd) (e : Nat) (l : List Nat) : (joinEnd a e l).Perm (e :: l) := by
  cases a
  · exact .refl _
  · exact List.perm_append_comm

theorem enterWatch (h : s.HeatApart) (a : ListEnd) (e : Nat) (k : Heat) (hr : s.residentOf e = none)
    (he : s.watchOf e = none) : (s.enterWatch a e k).HeatApart := by
  have hroom := h.watchRoom
  have hno := State.watchOf_eq_none.1 (watchRoom_watchOf he)
  have hperm := (insertBy_perm (·.place) { place := lowestGap 0 s.watchRoom.watch, extent := e, heat := k }
    s.watchRoom.watch).map (·.extent)
  refine ⟨hperm.nodup_iff.2 (List.nodup_cons.2 ⟨by simpa using hno, hroom.once⟩), fun w hw => ?_, ?_⟩
  · show s.watchRoom.residentOf w.extent = none
    rcases (mem_insertBy _ _ _ _).1 hw with rfl | hw
    · rw [watchRoom_residentOf]
      exact hr
    · exact hroom.apart w hw
  · exact (joinEnd_perm a e _).trans ((hroom.touch.cons e).trans hperm.symm)

theorem returnHeat (h : s.HeatApart) (e : Nat) (k : Heat) (hr : s.residentOf e = none)
    (he : s.watchOf e = none) : (s.returnHeat e k).HeatApart := by
  unfold State.returnHeat
  split
  · exact h.of_same rfl rfl fun _ => id
  · exact h.enterWatch _ e k hr he

/-- A resident extent is not watched. -/
theorem unwatched (h : s.HeatApart) {e : Nat} {r : Resident} (hr : s.residentOf e = some r) : s.watchOf e = none :=
  State.watchOf_eq_none.2 fun w hw k => by
    have := h.apart w hw
    rw [k, hr] at this
    cases this

theorem drop (h : s.HeatApart) (r : Resident) : (s.drop r).HeatApart :=
  h.of_same rfl rfl fun e he => State.residentOf_eq_none.2 fun x hx =>
    State.residentOf_eq_none.1 he x (List.mem_of_mem_filter hx)

/-- A removal's heat returns to a Watch List that does not hold its extent. -/
theorem removal (h : s.HeatApart) {r : Resident} (hr : s.residentOf r.extent = some r) (k : Heat) :
    ((s.drop r).returnHeat r.extent k).HeatApart :=
  (h.drop r).returnHeat r.extent k (State.residentOf_drop_same r s) (h.unwatched hr)

theorem settleSlot (h : s.HeatApart) (f : SlotFate) (n : Nat) : (s.settleSlot f n).HeatApart :=
  h.of_same (by rw [State.settleSlot_eq]) (by rw [State.settleSlot_eq])
    fun e => (State.residentOf_congr (by simp) e).trans

/-- A record enters whose extent is not watched. -/
theorem enter (h : s.HeatApart) {x : Resident} (hx : s.watchOf x.extent = none) : (s.enter x).HeatApart := by
  refine ⟨h.once, fun w hw => ?_, h.touch⟩
  rw [State.residentOf_enter_of_ne x s (State.watchOf_eq_none.1 hx w hw)]
  exact h.apart w hw

theorem rewatch (h : s.HeatApart) (e : Nat) (k : Heat) : (s.setWatchHeat e k).HeatApart := by
  have : (s.setWatchHeat e k).watch.map (·.extent) = s.watch.map (·.extent) := by
    rw [State.setWatchHeat, List.map_map]
    refine List.map_congr_left fun w _ => ?_
    by_cases hw : w.extent = e <;> simp [hw]
  refine ⟨this ▸ h.once, fun w hw => ?_, this ▸ h.touch⟩
  obtain ⟨y, hy, rfl⟩ := List.mem_map.1 hw
  have := h.apart y hy
  by_cases hye : y.extent = e <;> simp only [hye, if_true, if_false] at this ⊢ <;> exact this

theorem touchWatch (h : s.HeatApart) {e : Nat} (he : s.watchOf e ≠ none) : (s.touchWatch e).HeatApart := by
  refine ⟨h.once, h.apart, ?_⟩
  obtain ⟨w, hw⟩ := Option.ne_none_iff_exists'.1 he
  obtain ⟨hm, hwe⟩ := State.watchOf_mem hw
  have hmem : e ∈ s.touch := h.touch.mem_iff.2 (List.mem_map.2 ⟨w, hm, hwe⟩)
  have hn : s.touch.Nodup := h.touch.nodup_iff.2 h.once
  exact (List.perm_append_comm.trans (cons_without_perm e _ hn hmem)).trans h.touch

end State.HeatApart

/-- Chains of updates keep each extent's heat in one place (R12). -/
theorem State.Becomes.heatApart {L : Licence} {s t : State} (h : State.Becomes L s t) (hs : s.HeatApart) :
    t.HeatApart := by
  induction h with
  | refl s => exact hs
  | trans _ _ ih ih' => exact ih' (ih hs)
  | light same _ =>
    have ht := State.tables_of_solid same
    exact hs.of_same (State.tables_watch ht) (State.tables_touch ht) fun e => (State.tables_residentOf ht e).trans
  | rewatch s x k => exact hs.rewatch x.extent k
  | touchWatch s e he => exact hs.touchWatch he
  | watch s e k hr he => exact hs.enterWatch .tail e k hr he
  | unwatch s e => exact hs.unwatch e
  | replace s a old new ctx hr =>
    refine hs.of_same rfl rfl fun e he => ?_
    have := State.residentOf_store a new s e
    rw [he] at this
    exact this
  | remove s fate r k ctx hr =>
    have h1 : State.HeatApart { s with contexts := ctx } := hs.of_same rfl rfl fun _ => id
    exact (h1.removal hr k).settleSlot fate r.slot
  | enter s x ctx =>
    have h1 : (s.takeSlot x.slot).HeatApart := hs.of_same rfl rfl fun _ => id
    exact ((h1.unwatch x.extent).enter (State.HeatApart.unwatch_watchOf x.extent)).of_same rfl rfl fun _ => id
  | pass s r x k hr =>
    exact ((hs.removal hr k).unwatch x.extent).enter (State.HeatApart.unwatch_watchOf x.extent)
  | flag s f flags =>
    refine hs.of_same rfl rfl fun e he => ?_
    have : ({ s with records := s.records.map f } : State).residentOf e = (s.residentOf e).map f :=
      State.residentOf_map f rfl (fun r => by rw [(flags r).eq]) e
    rw [this, he]
    rfl
  | conclude same =>
    exact hs.of_same (State.tables_watch same) (State.tables_touch same) fun e =>
      (State.tables_residentOf same e).trans
  | _ => exact hs.of_same rfl rfl fun _ => id

/-- Outside SERVING no move is in flight: chains of updates keep it so (R157). -/
theorem State.Becomes.still {L : Licence} {s t : State} (h : State.Becomes L s t) (hv : s.service ≠ .serving)
    (hs : s.Still) : t.Still := by
  have of {u v : State} (k : v.contexts = u.contexts) (hu : u.Still) : v.Still := by
    unfold State.Still
    rw [k]
    exact hu
  induction h with
  | refl s => exact hs
  | trans h _ ih ih' => exact ih' (h.keeps.service ▸ hv) (ih hv hs)
  | light same _ => exact of (State.tables_contexts (State.tables_of_solid same)) hs
  | watch s e k => exact of (by rw [State.enterWatch_eq]) hs
  | replace s a old new ctx _ _ _ _ _ _ still => exact (still hv hs).1
  | remove s fate r k ctx _ _ _ _ _ _ _ still =>
    refine of (u := { s with contexts := ctx }) ?_ (still hv hs).1
    rw [State.settleSlot_eq, State.returnHeat_eq]
    rfl
  | enter s x ctx _ _ _ _ _ still => exact (still hv).2 hs
  | pass s r x k =>
    refine of (u := s) ?_ hs
    show ((s.drop r).returnHeat r.extent k).contexts = s.contexts
    rw [State.returnHeat_eq]
    rfl
  | progress s ctx _ _ still => exact still hs
  | conclude same => exact of (State.tables_contexts same) hs
  | _ => exact of (by rfl) hs

/-- Outside SERVING nothing is watched and no record is empty: chains of updates that route nothing keep it so (R156,
R157, R162). -/
theorem State.Becomes.unserved {L : Licence} {s t : State} (h : State.Becomes L s t) (hL : L.routing = false)
    (hv : s.service ≠ .serving) (hs : s.Still) (hw : s.watch = [] ∧ ∀ r ∈ s.records, r.isEmpty = false) :
    t.watch = [] ∧ ∀ r ∈ t.records, r.isEmpty = false := by
  induction h with
  | refl s => exact hw
  | trans h _ ih ih' => exact ih' (h.keeps.service ▸ hv) (h.still hv hs) (ih hv hs hw)
  | light same _ =>
    have ht := State.tables_of_solid same
    rw [State.tables_watch ht, State.tables_records ht]
    exact hw
  | rewatch s x k hx => rw [hw.1] at hx; exact nomatch hx
  | watch s e k _ _ _ licence => simp [hL] at licence
  | unwatch s e => exact ⟨by simp [State.unwatch, hw.1], hw.2⟩
  | replace s a old new ctx hr _ _ _ _ _ still =>
    refine ⟨hw.1, fun r hm => ?_⟩
    rcases State.mem_store (a := a) hm with rfl | ⟨k, -⟩
    · rw [Resident.settled_isEmpty]
      exact (still hv hs).2 hL (hw.2 old (State.residentOf_mem hr).1)
    · exact hw.2 r k
  | remove s fate r k ctx hr _ _ _ _ _ _ still =>
    have h1 := (still hv hs).2 hL
    rw [hw.2 r (State.residentOf_mem hr).1] at h1
    cases h1
  | enter s x ctx _ _ _ _ _ still => simp [hL] at still; exact absurd still hv
  | pass s r x k _ _ _ _ _ _ _ routing => simp [hL] at routing
  | flag s f flags =>
    refine ⟨hw.1, fun r hr => ?_⟩
    obtain ⟨x, hx, rfl⟩ := List.mem_map.1 hr
    rw [(flags x).eq]
    exact hw.2 x hx
  | conclude same =>
    rw [State.tables_watch same, State.tables_records same]
    exact hw
  | _ => exact hw

/-- Chains of updates keep each extent's heat in one place, in service or where nothing is routed (R12, R156). -/
theorem State.Becomes.heatOnce {L : Licence} {s t : State} (h : State.Becomes L s t)
    (hL : L.routing = false ∨ s.service = .serving) (hs : s.HeatOnce) : t.HeatOnce := by
  obtain ⟨h1, h2, h3⟩ := h.heatApart hs.heatApart
  refine ⟨h1, fun w hw r hr k => State.residentOf_eq_none.1 (h2 w hw) r hr k.symm, h3, fun hv => ?_⟩
  have hv' : s.service ≠ .serving := h.keeps.service ▸ hv
  have hL' : L.routing = false := hL.resolve_right hv'
  obtain ⟨k1, k2, k3, k4⟩ := hs.unserved hv'
  obtain ⟨u1, u2⟩ := h.unserved hL' hv' k3 ⟨k1, k4⟩
  exact ⟨u1, h.keeps.parked.trans k2, h.still hv' k3, u2⟩

end Sys2Proof.Machine
end

section
/-! SUPPORT. Every slot in one place, and the free pool, the Residency Table and the Watch List in ascending order,
through every chain of updates (R12, R92, R93, R101, R103). -/

namespace Sys2Proof.Machine

/-! ### The balance of slots -/

/-- How often a slot is free, fenced or occupied. -/
def State.slotCount (s : State) (n : Nat) : Nat :=
  s.free.count n + (s.fences.map (·.slot)).count n + (s.records.map (·.slot)).count n

/-- Every slot below S is in one place, and no other is anywhere. -/
def State.Balanced (s : State) : Prop := ∀ n, s.slotCount n = (List.range s.slots).count n

theorem State.balanced_iff {s : State} :
    s.Balanced ↔ (s.free ++ s.fences.map (·.slot) ++ s.records.map (·.slot)).Perm (List.range s.slots) := by
  rw [List.perm_iff_count]
  simp [State.Balanced, State.slotCount, Nat.add_assoc]

theorem count_range_le (m n : Nat) : (List.range m).count n ≤ 1 := List.nodup_iff_count_le_one.1 List.nodup_range n

theorem count_without {α : Type} [DecidableEq α] (x n : α) (l : List α) :
    (without x l).count n = if n = x then 0 else l.count n := by
  unfold without
  split
  · subst n
    rw [List.count_eq_zero]
    simp
  · rw [List.count_filter (by simpa using ‹¬n = x›)]

theorem count_insertBy (x n : Nat) (l : List Nat) :
    (insertBy id x l).count n = (if n = x then 1 else 0) + l.count n := by
  rw [(insertBy_perm id x l).count_eq, List.count_cons, Nat.add_comm]
  congr 1
  by_cases h : n = x
  · simp [h]
  · simp [h, Ne.symm h]

namespace State.Balanced

variable {s : State}

/-- The balance looks at the slots of the pool, the fences and the records alone. -/
theorem of_same (h : s.Balanced) {t : State} (hc : ∀ n, t.slotCount n = s.slotCount n) (hs : t.slots = s.slots) :
    t.Balanced := fun n => by rw [hc, hs]; exact h n

theorem slotCount_le (h : s.Balanced) (n : Nat) : s.slotCount n ≤ 1 := by
  rw [h n]
  exact count_range_le _ _

theorem free_nodup (h : s.Balanced) : s.free.Nodup :=
  List.nodup_iff_count_le_one.2 fun n => by
    have := h.slotCount_le n
    unfold State.slotCount at this
    omega

/-- A free slot is not a record's. -/
theorem not_occupied (h : s.Balanced) {n : Nat} (hn : n ∈ s.free) : ∀ r ∈ s.records, r.slot ≠ n := by
  intro r hr he
  have h1 : 0 < s.free.count n := List.count_pos_iff.2 hn
  have h2 : 0 < (s.records.map (·.slot)).count n := List.count_pos_iff.2 (List.mem_map.2 ⟨r, hr, he⟩)
  have := h.slotCount_le n
  unfold State.slotCount at this
  omega

/-- A slot below S that is neither fenced nor a record's is free. -/
theorem mem_free (h : s.Balanced) {n : Nat} (hn : n < s.slots) (hf : ∀ f ∈ s.fences, f.slot ≠ n)
    (hr : ∀ r ∈ s.records, r.slot ≠ n) : n ∈ s.free := by
  have h1 := h n
  have h2 : (List.range s.slots).count n = 1 := List.count_eq_one_of_mem List.nodup_range (List.mem_range.2 hn)
  have h3 : (s.fences.map (·.slot)).count n = 0 := List.count_eq_zero.2 (by simpa using hf)
  have h4 : (s.records.map (·.slot)).count n = 0 := List.count_eq_zero.2 (by simpa using hr)
  unfold State.slotCount at h1
  exact List.count_pos_iff.1 (by omega)

end State.Balanced

/-- What a removal takes out of the table. -/
theorem State.slotCount_drop {s : State} {r : Resident} (hn : (s.records.map (·.extent)).Nodup)
    (hr : s.residentOf r.extent = some r) (n : Nat) :
    s.slotCount n = (s.drop r).slotCount n + (if n = r.slot then 1 else 0) := by
  have := ((State.cons_drop_perm hn hr).map (·.slot)).count_eq n
  rw [List.map_cons, List.count_cons] at this
  simp only [State.slotCount, ← this, show (s.drop r).free = s.free from rfl,
    show (s.drop r).fences = s.fences from rfl]
  by_cases h : n = r.slot
  · simp [h]; omega
  · simp [h, Ne.symm h]

theorem State.slotCount_enter (x : Resident) (s : State) (n : Nat) :
    (s.enter x).slotCount n = s.slotCount n + (if n = x.slot then 1 else 0) := by
  have := ((insertBy_perm (·.slot) x s.records).map (·.slot)).count_eq n
  rw [List.map_cons, List.count_cons] at this
  simp only [State.slotCount, State.enter_records, this, show (s.enter x).free = s.free from rfl,
    show (s.enter x).fences = s.fences from rfl]
  by_cases h : n = x.slot
  · simp [h]; omega
  · simp [h, Ne.symm h]

theorem State.slotCount_takeSlot {s : State} {k : Nat} (hd : s.free.Nodup) (hk : k ∈ s.free) (n : Nat) :
    s.slotCount n = (s.takeSlot k).slotCount n + (if n = k then 1 else 0) := by
  have h1 : (s.takeSlot k).free = without k s.free := rfl
  have h2 : s.free.count k = 1 := List.count_eq_one_of_mem hd hk
  simp only [State.slotCount, h1, count_without, show (s.takeSlot k).fences = s.fences from rfl,
    show (s.takeSlot k).records = s.records from rfl]
  by_cases h : n = k
  · subst h; simp; omega
  · simp [h]

theorem State.slotCount_settleSlot {f : SlotFate} (hf : f ≠ .passed) (k : Nat) (s : State) (n : Nat) :
    (s.settleSlot f k).slotCount n = s.slotCount n + (if n = k then 1 else 0) := by
  have hfree (u : State) (hu : u.free = insertBy id k s.free) (h2 : u.fences = s.fences)
      (h3 : u.records = s.records) : u.slotCount n = s.slotCount n + (if n = k then 1 else 0) := by
    simp only [State.slotCount, hu, h2, h3, count_insertBy]
    omega
  cases f with
  | passed => exact absurd rfl hf
  | freed => exact hfree _ rfl rfl rfl
  | freedSilently => exact hfree _ rfl rfl rfl
  | fenced t =>
    simp only [State.slotCount, State.settleSlot, List.map_append, List.count_append, List.map_cons, List.map_nil,
      List.count_singleton]
    by_cases h : n = k
    · simp [h]; omega
    · simp [h, Ne.symm h]

theorem State.slotCount_lift {s : State} {f : Fence} (hf : f ∈ s.fences) (n : Nat) :
    (State.freeSlot f.slot { s with fences := s.fences.erase f }).slotCount n = s.slotCount n := by
  have := ((List.perm_cons_erase hf).map (·.slot)).count_eq n
  rw [List.map_cons, List.count_cons] at this
  simp only [State.slotCount, State.freeSlot, count_insertBy, this]
  by_cases h : n = f.slot
  · simp [h]; omega
  · simp [h, Ne.symm h]

/-- The slots of a state that no slot is twice in: chains of updates leave each where it is or move it (R92, R93,
R103). -/
theorem State.Becomes.slotCount {L : Licence} {s t : State} (h : State.Becomes L s t)
    (hn : (s.records.map (·.extent)).Nodup) (hs : ∀ n, s.slotCount n ≤ 1) :
    (t.records.map (·.extent)).Nodup ∧ ∀ n, t.slotCount n = s.slotCount n := by
  have of {u v : State} (hr : v.records = u.records) (hf : v.free = u.free) (hfe : v.fences = u.fences)
      (hn : (u.records.map (·.extent)).Nodup) :
      (v.records.map (·.extent)).Nodup ∧ ∀ n, v.slotCount n = u.slotCount n :=
    ⟨hr ▸ hn, fun n => by simp [State.slotCount, hr, hf, hfe]⟩
  have hret (u : State) (e : Nat) (k : Heat) (n : Nat) : (u.returnHeat e k).slotCount n = u.slotCount n := by
    rw [State.returnHeat_eq]
    rfl
  induction h with
  | refl s => exact ⟨hn, fun _ => rfl⟩
  | trans _ _ ih ih' =>
    obtain ⟨h1, h2⟩ := ih hn hs
    obtain ⟨h3, h4⟩ := ih' h1 (fun n => h2 n ▸ hs n)
    exact ⟨h3, fun n => (h4 n).trans (h2 n)⟩
  | light same keeps =>
    have ht := State.tables_of_solid same
    exact of (State.tables_records ht) (State.tables_free ht) (State.tables_fences ht) hn
  | watch s e k => exact of (by simp) (by rw [State.enterWatch_eq]) (by rw [State.enterWatch_eq]) hn
  | replace s a old new ctx hr slot =>
    refine ⟨by rw [State.store_extents]; exact hn, fun n => ?_⟩
    have := State.store_slots a hn hr slot
    simp only [State.slotCount, this]
    rfl
  | remove s fate r k ctx hr _ _ _ settled =>
    have h0 : State.residentOf { s with contexts := ctx } r.extent = some r := hr
    refine ⟨by simpa using hn.sublist (List.filter_sublist.map _), fun n => ?_⟩
    rw [State.slotCount_settleSlot settled, hret, ← State.slotCount_drop (s := { s with contexts := ctx }) hn h0 n]
    rfl
  | enter s x ctx free absent =>
    have hd : s.free.Nodup := List.nodup_iff_count_le_one.2 fun n =>
      (Nat.le_add_right _ _).trans ((Nat.le_add_right _ _).trans (hs n))
    refine ⟨?_, fun n => ?_⟩
    · refine ((insertBy_perm (·.slot) x s.records).map (·.extent)).nodup_iff.2 (List.nodup_cons.2 ⟨?_, hn⟩)
      simpa using fun r hr => State.residentOf_eq_none.1 absent r hr
    · show (((s.takeSlot x.slot).unwatch x.extent).enter x).slotCount n = _
      rw [State.slotCount_enter, State.slotCount_takeSlot hd free n]
      rfl
  | pass s r x k hr slot absent =>
    refine ⟨?_, fun n => ?_⟩
    · have hrec : (((s.drop r).returnHeat r.extent k).unwatch x.extent).records = (s.drop r).records := by
        simp [State.unwatch]
      rw [State.enter_records, hrec]
      refine ((insertBy_perm (·.slot) x (s.drop r).records).map (·.extent)).nodup_iff.2
        (List.nodup_cons.2 ⟨?_, hn.sublist (List.filter_sublist.map _)⟩)
      simp only [List.mem_map, not_exists, not_and]
      exact fun y hy => State.residentOf_eq_none.1 absent y (List.mem_of_mem_filter hy)
    · rw [State.slotCount_enter, State.slotCount_drop hn hr n, slot, ← hret (s.drop r) r.extent k n]
      rfl
  | flag s f flags =>
    have h1 : (s.records.map f).map (·.extent) = s.records.map (·.extent) := by
      rw [List.map_map]
      exact List.map_congr_left fun r _ => by rw [Function.comp, (flags r).eq]
    have h2 : (s.records.map f).map (·.slot) = s.records.map (·.slot) := by
      rw [List.map_map]
      exact List.map_congr_left fun r _ => by rw [Function.comp, (flags r).eq]
    exact ⟨by rw [h1]; exact hn, fun n => by simp only [State.slotCount, h2]⟩
  | lift s f hf => exact ⟨hn, fun n => State.slotCount_lift hf n⟩
  | conclude same =>
    exact of (State.tables_records same) (State.tables_free same) (State.tables_fences same) hn
  | _ => exact of rfl rfl rfl hn

/-- The balance of slots through every chain of updates, where no two records are of one extent (R92, R93, R103). -/
theorem State.Becomes.balanced {L : Licence} {s t : State} (h : State.Becomes L s t)
    (hn : (s.records.map (·.extent)).Nodup) (hs : s.Balanced) :
    (t.records.map (·.extent)).Nodup ∧ t.Balanced := by
  obtain ⟨h1, h2⟩ := h.slotCount hn hs.slotCount_le
  exact ⟨h1, fun n => by rw [h2, hs n, State.slots, State.slots, h.keeps.sizes]⟩

end Sys2Proof.Machine
end

section
/-! SUPPORT. The free pool, the Residency Table and the Watch List in ascending order, and where no slot is outside
SERVING, through every chain of updates (R12, R92, R101, R156). -/

namespace Sys2Proof.Machine

/-! ### The Watch List's order -/

theorem lowestGap_spec (n : Nat) (l : List WatchEntry) (h : l.Pairwise (·.place < ·.place)) (hn : ∀ w ∈ l, n ≤ w.place) :
    (∀ w ∈ l, w.place ≠ lowestGap n l) ∧ lowestGap n l ≤ n + l.length := by
  induction l generalizing n with
  | nil => exact ⟨by simp, Nat.le_refl n⟩
  | cons x l ih =>
    obtain ⟨hx, hl⟩ := List.pairwise_cons.1 h
    have h0 := hn x (by simp)
    unfold lowestGap
    split
    · rename_i he
      obtain ⟨h1, h2⟩ := ih (n + 1) hl fun w hw => by have := hx w hw; omega
      refine ⟨fun w hw => ?_, by rw [List.length_cons]; omega⟩
      rcases List.mem_cons.1 hw with rfl | hw
      · have : n + 1 ≤ lowestGap (n + 1) l := by
          clear * -
          generalize n + 1 = k
          induction l generalizing k with
          | nil => exact Nat.le_refl k
          | cons y l ih =>
            unfold lowestGap
            split
            · exact (Nat.le_succ k).trans (ih (k + 1))
            · exact Nat.le_refl k
        omega
      · exact h1 w hw
    · refine ⟨fun w hw => ?_, by omega⟩
      rcases List.mem_cons.1 hw with rfl | hw
      · assumption
      · have := hx w hw; omega

/-- The Watch List stands in ascending order of its places, each of them one of the 4,096 (R12). -/
structure State.WatchOrdered (s : State) : Prop where
  order : s.watch.Pairwise (·.place < ·.place)
  places : ∀ w ∈ s.watch, w.place < 4096

namespace State.WatchOrdered

variable {s : State}

theorem of_same (h : s.WatchOrdered) {t : State} (hw : t.watch = s.watch) : t.WatchOrdered :=
  ⟨hw ▸ h.order, hw ▸ h.places⟩

theorem length_le (h : s.WatchOrdered) : s.watch.length ≤ 4096 := by
  have hd : (s.watch.map (·.place)).Nodup := (List.pairwise_map.2 h.order).imp fun k => Nat.ne_of_lt k
  have hsub : s.watch.map (·.place) ⊆ List.range 4096 := fun n hn => by
    obtain ⟨w, hw, rfl⟩ := List.mem_map.1 hn
    exact List.mem_range.2 (h.places w hw)
  simpa using (List.subperm_of_subset hd hsub).length_le

theorem unwatch (h : s.WatchOrdered) (e : Nat) : (s.unwatch e).WatchOrdered :=
  ⟨h.order.filter _, fun w hw => h.places w (List.mem_of_mem_filter hw)⟩

theorem watchRoom (h : s.WatchOrdered) (ht : s.touch.Perm (s.watch.map (·.extent))) :
    s.watchRoom.WatchOrdered ∧ s.watchRoom.watch.length < 4096 := by
  have hlen := h.length_le
  unfold State.watchRoom
  split
  · exact ⟨h, by assumption⟩
  · rename_i hfull
    have hpos : s.watch.length = 4096 := by unfold Config.watchPlaces at hfull; omega
    split
    · rename_i hnil
      have := ht.length_eq
      simp [hnil, hpos] at this
    · rename_i e es hcons
      refine ⟨(h.unwatch e).of_same rfl, ?_⟩
      have he : e ∈ s.watch.map (·.extent) := ht.mem_iff.1 (by simp [hcons])
      obtain ⟨w, hw, rfl⟩ := List.mem_map.1 he
      have : ((s.unwatch w.extent).unqueue w.extent).watch.length < s.watch.length :=
        List.length_filter_lt_length_iff_exists.2 ⟨w, hw, by simp⟩
      omega

theorem enterWatch (h : s.WatchOrdered) (ht : s.touch.Perm (s.watch.map (·.extent))) (a : ListEnd) (e : Nat)
    (k : Heat) : (s.enterWatch a e k).WatchOrdered := by
  obtain ⟨hr, hlen⟩ := h.watchRoom ht
  obtain ⟨h1, h2⟩ := lowestGap_spec 0 s.watchRoom.watch hr.order fun _ _ => Nat.zero_le _
  refine ⟨insertBy_pairwise _ _ _ hr.order h1, fun w hw => ?_⟩
  rcases (mem_insertBy _ _ w s.watchRoom.watch).1 hw with rfl | hw
  · show lowestGap 0 s.watchRoom.watch < 4096
    omega
  · exact hr.places w hw

theorem returnHeat (h : s.WatchOrdered) (ht : s.touch.Perm (s.watch.map (·.extent))) (e : Nat) (k : Heat) :
    (s.returnHeat e k).WatchOrdered := by
  unfold State.returnHeat
  split
  · exact h.of_same rfl
  · exact h.enterWatch ht _ _ _

theorem setWatchHeat (h : s.WatchOrdered) (e : Nat) (k : Heat) : (s.setWatchHeat e k).WatchOrdered := by
  have hp (w : WatchEntry) : (if w.extent = e then { w with heat := k } else w).place = w.place := by split <;> rfl
  refine ⟨List.pairwise_map.2 (h.order.imp fun {a b} hab => by rw [hp, hp]; exact hab), fun w hw => ?_⟩
  obtain ⟨x, hx, rfl⟩ := List.mem_map.1 hw
  rw [hp]
  exact h.places x hx

end State.WatchOrdered

/-- The Watch List's order through every chain of updates. -/
theorem State.Becomes.watchOrdered {L : Licence} {s t : State} (h : State.Becomes L s t) (ha : s.HeatApart)
    (hs : s.WatchOrdered) : t.WatchOrdered := by
  induction h with
  | refl s => exact hs
  | trans h _ ih ih' => exact ih' (h.heatApart ha) (ih ha hs)
  | light same _ => exact hs.of_same (State.tables_watch (State.tables_of_solid same))
  | rewatch s x k => exact hs.setWatchHeat _ _
  | watch s e k => exact hs.enterWatch ha.touch _ _ _
  | unwatch s e => exact hs.unwatch e
  | remove s fate r k ctx =>
    have h1 : (State.drop r { s with contexts := ctx }).WatchOrdered := hs.of_same rfl
    refine (h1.returnHeat (e := r.extent) (k := k) ha.touch).of_same ?_
    rw [State.settleSlot_eq]
  | enter s x ctx =>
    have h1 : (s.takeSlot x.slot).WatchOrdered := hs.of_same rfl
    exact (h1.unwatch x.extent).of_same rfl
  | pass s r x k =>
    have h1 : (s.drop r).WatchOrdered := hs.of_same rfl
    exact ((h1.returnHeat (e := r.extent) (k := k) ha.touch).unwatch x.extent).of_same rfl
  | conclude same => exact hs.of_same (State.tables_watch same)
  | _ => exact hs.of_same rfl

/-! ### The order of the free pool and the Residency Table -/

/-- The free pool and the Residency Table stand in ascending order of slots (R92, R101). -/
structure State.SlotsOrdered (s : State) : Prop where
  free : s.free.Pairwise (· < ·)
  records : s.records.Pairwise (·.slot < ·.slot)

namespace State.SlotsOrdered

variable {s : State}

theorem of_same (h : s.SlotsOrdered) {t : State} (hf : t.free = s.free) (hr : t.records = s.records) :
    t.SlotsOrdered := ⟨hf ▸ h.free, hr ▸ h.records⟩

theorem of_slots (h : s.SlotsOrdered) {t : State} (hf : t.free = s.free)
    (hr : t.records.map (·.slot) = s.records.map (·.slot)) : t.SlotsOrdered := by
  refine ⟨hf ▸ h.free, ?_⟩
  have := List.pairwise_map.2 h.records
  rw [← hr] at this
  exact List.pairwise_map.1 this

theorem freeSlot (h : s.SlotsOrdered) {n : Nat} (hn : n ∉ s.free) : (s.freeSlot n).SlotsOrdered :=
  ⟨insertBy_pairwise id n s.free h.free fun y hy k => hn ((show y = n from k) ▸ hy), h.records⟩

theorem drop (h : s.SlotsOrdered) (r : Resident) : (s.drop r).SlotsOrdered := ⟨h.free, h.records.filter _⟩

theorem enter (h : s.SlotsOrdered) {x : Resident} (hx : ∀ r ∈ s.records, r.slot ≠ x.slot) :
    (s.enter x).SlotsOrdered :=
  ⟨h.free, insertBy_pairwise (·.slot) x s.records h.records hx⟩

theorem settleSlot (h : s.SlotsOrdered) (f : SlotFate) {n : Nat} (hn : n ∉ s.free) : (s.settleSlot f n).SlotsOrdered := by
  cases f with
  | freed => exact h.freeSlot hn
  | freedSilently => exact h.freeSlot hn
  | passed => exact h
  | fenced t => exact h.of_same rfl rfl

end State.SlotsOrdered

/-- A record that no other shares a slot with: its slot is not another's. -/
theorem State.slot_ne_of_drop {s : State} (hs : ∀ n, s.slotCount n ≤ 1) {r : Resident}
    (hn : (s.records.map (·.extent)).Nodup) (hr : s.residentOf r.extent = some r) :
    ∀ y ∈ (s.drop r).records, y.slot ≠ r.slot := by
  intro y hy he
  have h1 := State.slotCount_drop hn hr r.slot
  have h2 : 0 < ((s.drop r).records.map (·.slot)).count r.slot := List.count_pos_iff.2 (List.mem_map.2 ⟨y, hy, he⟩)
  have h3 := hs r.slot
  unfold State.slotCount at h1 h3
  simp only [if_true] at h1
  omega

theorem State.free_of_slotCount {s : State} (hs : ∀ n, s.slotCount n ≤ 1) {n : Nat}
    (h : 0 < (s.fences.map (·.slot)).count n + (s.records.map (·.slot)).count n) : n ∉ s.free := by
  intro k
  have h1 : 0 < s.free.count n := List.count_pos_iff.2 k
  have := hs n
  unfold State.slotCount at this
  omega

theorem State.occupied_not_free {s : State} (hs : ∀ n, s.slotCount n ≤ 1) {r : Resident} (hr : r ∈ s.records) :
    r.slot ∉ s.free := by
  have : 0 < (s.records.map (·.slot)).count r.slot := List.count_pos_iff.2 (List.mem_map.2 ⟨r, hr, rfl⟩)
  exact State.free_of_slotCount hs (by omega)

/-- The order of the free pool and the Residency Table through every chain of updates. -/
theorem State.Becomes.slotsOrdered {L : Licence} {s t : State} (h : State.Becomes L s t)
    (hn : (s.records.map (·.extent)).Nodup) (hc : ∀ n, s.slotCount n ≤ 1) (hs : s.SlotsOrdered) : t.SlotsOrdered := by
  induction h with
  | refl s => exact hs
  | trans h _ ih ih' =>
    obtain ⟨h1, h2⟩ := h.slotCount hn hc
    exact ih' h1 (fun n => h2 n ▸ hc n) (ih hn hc hs)
  | light same _ =>
    have ht := State.tables_of_solid same
    exact hs.of_same (State.tables_free ht) (State.tables_records ht)
  | watch s e k => exact hs.of_same (by rw [State.enterWatch_eq]) (by simp)
  | replace s a old new ctx hr slot => exact hs.of_slots rfl (State.store_slots a hn hr slot)
  | remove s fate r k ctx hr =>
    have h1 : (State.drop r { s with contexts := ctx }).SlotsOrdered := (hs.drop r).of_same rfl rfl
    have h2 : ((State.drop r { s with contexts := ctx }).returnHeat r.extent k).SlotsOrdered :=
      h1.of_same (by rw [State.returnHeat_eq]) (by simp)
    refine h2.settleSlot fate ?_
    rw [State.returnHeat_eq]
    exact State.occupied_not_free hc (State.residentOf_mem hr).1
  | enter s x ctx free =>
    have h1 : ((s.takeSlot x.slot).unwatch x.extent).SlotsOrdered := ⟨hs.free.filter _, hs.records⟩
    exact (h1.enter fun r hr he => State.occupied_not_free hc hr (he ▸ free)).of_same rfl rfl
  | pass s r x k hr slot =>
    have h1 : (((s.drop r).returnHeat r.extent k).unwatch x.extent).SlotsOrdered :=
      (hs.drop r).of_same (by show ((s.drop r).returnHeat r.extent k).free = _; rw [State.returnHeat_eq])
        (by simp [State.unwatch])
    refine h1.enter fun y hy => ?_
    rw [slot]
    refine State.slot_ne_of_drop hc hn hr y ?_
    simpa [State.unwatch] using hy
  | flag s f flags =>
    refine hs.of_slots rfl ?_
    rw [List.map_map]
    exact List.map_congr_left fun r _ => by rw [Function.comp, (flags r).eq]
  | lift s f hf =>
    have h1 : State.SlotsOrdered { s with fences := s.fences.erase f } := hs.of_same rfl rfl
    refine h1.freeSlot ?_
    have : 0 < (s.fences.map (·.slot)).count f.slot := List.count_pos_iff.2 (List.mem_map.2 ⟨f, hf, rfl⟩)
    exact State.free_of_slotCount (s := s) hc (by omega)
  | conclude same => exact hs.of_same (State.tables_free same) (State.tables_records same)
  | _ => exact hs.of_same rfl rfl

/-- The order of the map through every chain of updates (R12, R92, R101). -/
theorem State.Becomes.ascending {L : Licence} {s t : State} (h : State.Becomes L s t) (ha : s.HeatApart)
    (hn : (s.records.map (·.extent)).Nodup) (hc : ∀ n, s.slotCount n ≤ 1) (hs : s.Ascending) : t.Ascending := by
  obtain ⟨h1, h2⟩ := h.slotsOrdered hn hc ⟨hs.free, hs.records⟩
  obtain ⟨h3, h4⟩ := h.watchOrdered ha ⟨hs.watch, hs.places⟩
  exact ⟨h1, h2, h3, h4⟩

/-! ### Slots outside SERVING -/

/-- Outside SERVING there is no fence: chains of updates keep it so (R157). -/
theorem State.Becomes.unfenced {L : Licence} {s t : State} (h : State.Becomes L s t) (hv : s.service ≠ .serving)
    (hs : s.Still) (hf : s.fences = []) : t.fences = [] := by
  have of {u v : State} (k : v.fences = u.fences) (hu : u.fences = []) : v.fences = [] := k.trans hu
  induction h with
  | refl s => exact hf
  | trans h _ ih ih' => exact ih' (h.keeps.service ▸ hv) (h.still hv hs) (ih hv hs hf)
  | light same _ => exact (State.tables_fences (State.tables_of_solid same)).trans hf
  | watch s e k =>
    rw [State.enterWatch_eq]
    exact hf
  | remove s fate r k ctx _ _ _ _ _ fenced =>
    rw [State.settleSlot_fences fun n hn => hv ((fenced n hn).2 hs), State.returnHeat_eq]
    exact hf
  | pass s r x k =>
    show ((s.drop r).returnHeat r.extent k).fences = []
    rw [State.returnHeat_eq]
    exact hf
  | lift s f hm => rw [hf] at hm; exact nomatch hm
  | conclude same => exact (State.tables_fences same).trans hf
  | _ => exact of (by rfl) hf

/-- Chains of updates keep every slot in one place (R92, R93, R103). -/
theorem State.Becomes.slotsAccounted {L : Licence} {s t : State} (h : State.Becomes L s t) (hs : s.SlotsAccounted) :
    t.SlotsAccounted := by
  obtain ⟨h1, h2⟩ := h.balanced hs.extents (State.balanced_iff.2 hs.balance)
  refine ⟨State.balanced_iff.1 h2, h1, fun hv => ?_, fun hv => ?_⟩
  · rw [h.keeps.sizes]
    exact hs.cold (h.keeps.service ▸ hv)
  · have hv' : s.service ≠ .serving := h.keeps.service ▸ hv
    obtain ⟨k1, k2⟩ := hs.unserved hv'
    exact ⟨h.unfenced hv' k2 k1, h.still hv' k2⟩

end Sys2Proof.Machine
end

section
/-! SUPPORT. The turn of a command: chains of the map's updates under the command's licence, beside the changes of the
fields that no shared operation writes. What each turn upholds, keeps in range, and leaves as it was. -/

namespace Sys2Proof.Machine

/-! ### Turns -/

/-- The licence of a command. -/
def licenceOf : Instr → Licence
  | .route _ _ _ _ => { routing := true, segments := true, removes := true, routes := true, grants := true }
  | .parkedRouteReadmit => { routing := true, segments := true, removes := true, routes := true, grants := true }
  | .done _ _ => { segments := true, removes := true, routes := true, grants := true }
  | .report _ _ _ _ =>
    { orders := true, fences := true, moves := true, segments := true, removes := true, grants := true }
  | .orderTimerExpiry _ => { fences := true, moves := true, segments := true, removes := true, grants := true }
  | .startEvent =>
    { orders := true, moves := true, segments := true, removes := true, starts := true, grants := true }
  | .recordRead _ => { orders := true, moves := true, segments := true, removes := true, grants := true }
  | .frontLinkReset => { removes := true, routes := true, grants := true }
  | .flashLinkReset => { fences := true, moves := true, segments := true, removes := true, grants := true }
  | .diskLinkReset => { moves := true, segments := true, removes := true, grants := true }
  | .claim _ _ => { grants := true }
  | .release _ _ => { grants := true }
  | _ => {}

/-- A change, by command `c`, of the fields that no shared operation writes, and of the links. -/
structure State.Rebases (c : Instr) (s t : State) : Prop where
  records : t.records = s.records := by rfl
  watch : t.watch = s.watch := by rfl
  touch : t.touch = s.touch := by rfl
  free : t.free = s.free := by rfl
  clean : t.clean = s.clean := by rfl
  fences : t.fences = s.fences := by rfl
  contexts : t.contexts = s.contexts := by rfl
  dirtyList : t.dirtyList = s.dirtyList := by rfl
  claims : t.claims = s.claims := by rfl
  routes : t.routes = s.routes := by rfl
  lastKind : t.lastKind = s.lastKind := by rfl
  tickets : t.tickets = s.tickets := by rfl
  promo : t.promo = s.promo := by rfl
  service : t.service = s.service ∨ (c = .adoptEnd ∧ s.service = .adopting ∧ t.service = .serving) := by
    exact .inl rfl
  sizes : isSet c = false → t.sizes = s.sizes := by exact fun _ => rfl
  slots : t.slots = s.slots := by rfl
  sized : s.sizes = none ↔ t.sizes = none := by exact Iff.rfl
  sizesInRange : (∀ z, s.sizes = some z → z.InRange) → ∀ z, t.sizes = some z → z.InRange := by exact id
  settings : isSet c = false → t.settings = s.settings := by exact fun _ => rfl
  settingsInRange : s.settings.InRange → t.settings.InRange := by exact id
  windows : (∀ n base mask policy enable, c ≠ .setWindow n base mask policy enable) → t.windows = s.windows := by
    exact fun _ => rfl
  windowsInRange : (∀ w ∈ s.windows.toList, w.InRange) → ∀ w ∈ t.windows.toList, w.InRange := by exact id
  spindle : c ≠ .diskLinkReset → (∀ x, c ≠ .spindle x) → t.spindle = s.spindle := by exact fun _ _ => rfl
  bgWindow : c ≠ .diskLinkReset → (∀ x, c ≠ .window x) → t.bgWindow = s.bgWindow := by exact fun _ _ => rfl
  epoch : c ≠ .epochTimerExpiry → t.epoch = s.epoch := by exact fun _ => rfl
  epochInRange : s.epoch < 65536 → t.epoch < 65536 := by exact id
  epochTimer : c ≠ .epochTimerExpiry → c ≠ .adoptEnd → t.epochTimer = s.epochTimer := by exact fun _ _ => rfl
  cursor : c ≠ .epochTimerExpiry → t.cursor = s.cursor := by exact fun _ => rfl
  cursorInRange : s.cursor < s.slots + 4096 → t.cursor < s.slots + 4096 := by exact id
  streams : isRouting c = false → t.streams = s.streams ∧ t.streamUse = s.streamUse := by exact fun _ => ⟨rfl, rfl⟩
  parked : isRouting c = false → c ≠ .frontLinkReset → t.parked = s.parked := by exact fun _ _ => rfl
  parkedLength : s.parked.length ≤ 8 → t.parked.length ≤ 8 := by exact id
  parkedUnserved : s.service ≠ .serving → s.parked = [] → t.parked = [] := by exact fun _ => id
  fifo : (∀ p, (s.link p).fifo.length ≤ 4) → ∀ p, (t.link p).fifo.length ≤ 4 := by exact id
  out : (∀ p, (s.link p).out.length ≤ 16) → ∀ p, (t.link p).out.length ≤ 16 := by exact id
  stats : s.stats.Bounded → t.stats.Bounded := by exact id

/-- The turn of a command, from one state to another. -/
inductive State.Turns (c : Instr) : State → State → Prop
  | base {s t : State} : s.Rebases c t → State.Turns c s t
  | chain {s t : State} : State.Becomes (licenceOf c) s t → State.Turns c s t
  | trans {s t u : State} : State.Turns c s t → State.Turns c t u → State.Turns c s u

/-- Only routed commands route. -/
theorem licenceOf_routing (c : Instr) : (licenceOf c).routing = isRouting c := by cases c <;> rfl

/-! ### What a turn upholds -/

/-- The laws of records, lists, moves and slots, upheld from one state to another. -/
structure State.UpholdsMap (s t : State) : Prop where
  settings : s.settings.InRange → t.settings.InRange
  records : s.settings.InRange → s.RecordsLawful → t.RecordsLawful
  lists : s.ListsFiled → t.ListsFiled
  moves : s.ListsFiled → s.MovesMatched → t.MovesMatched
  slots : s.SlotsAccounted → t.SlotsAccounted

/-- These laws, and those of heat and order. -/
structure State.Upholds (s t : State) : Prop extends State.UpholdsMap s t where
  heat : s.HeatOnce → t.HeatOnce
  order : s.SlotsAccounted → s.HeatOnce → s.Ascending → t.Ascending

theorem State.UpholdsMap.trans {s t u : State} (h : s.UpholdsMap t) (k : t.UpholdsMap u) : s.UpholdsMap u where
  settings x := k.settings (h.settings x)
  records x y := k.records (h.settings x) (h.records x y)
  lists x := k.lists (h.lists x)
  moves x y := k.moves (h.lists x) (h.moves x y)
  slots x := k.slots (h.slots x)

theorem State.Upholds.refl (s : State) : s.Upholds s where
  settings := id
  records _ := id
  lists := id
  moves _ := id
  heat := id
  slots := id
  order _ _ := id

theorem State.Upholds.trans {s t u : State} (h : s.Upholds t) (k : t.Upholds u) : s.Upholds u where
  toUpholdsMap := h.toUpholdsMap.trans k.toUpholdsMap
  heat x := k.heat (h.heat x)
  order x y z := k.order (h.slots x) (h.heat y) (h.order x y z)

theorem State.SlotsAccounted.slotCount_le {s : State} (h : s.SlotsAccounted) (n : Nat) : s.slotCount n ≤ 1 :=
  (State.balanced_iff.2 h.balance).slotCount_le n

/-- Chains of updates uphold the laws of records, lists, moves and slots. -/
theorem State.Becomes.upholdsMap {L : Licence} {s t : State} (h : State.Becomes L s t) : s.UpholdsMap t where
  settings := by rw [h.keeps.settings]; exact id
  records x y := h.recordsLawful x y
  lists x := h.listsFiled x
  moves x y := h.movesMatched x y
  slots x := h.slotsAccounted x

/-- Chains of updates uphold the laws of the map, routed ones in service. -/
theorem State.Becomes.upholds {L : Licence} {s t : State} (h : State.Becomes L s t)
    (hL : L.routing = false ∨ s.service = .serving) : s.Upholds t where
  toUpholdsMap := h.upholdsMap
  heat x := h.heatOnce hL x
  order x y z := h.ascending y.heatApart x.extents x.slotCount_le z

section
variable {c : Instr} {s t : State}

theorem State.Rebases.residentOf (h : s.Rebases c t) (e : Nat) : t.residentOf e = s.residentOf e :=
  State.residentOf_congr h.records e

/-- The laws of the map say nothing that a change of the other fields can break. -/
theorem State.Rebases.upholds (h : s.Rebases c t) : s.Upholds t where
  settings := h.settingsInRange
  records _ y := by
    refine ⟨h.records ▸ y.records, h.watch ▸ y.watch, h.epochInRange y.epoch, h.records ▸ y.extents, fun e he r hr => ?_⟩
    rw [h.residentOf] at hr
    exact y.dirtyList e (h.dirtyList ▸ he) r hr
  lists x := by
    refine ⟨h.records ▸ x.extents, h.dirtyList ▸ x.dirtyOnce, ?_, h.clean ▸ x.cleanOnce, ?_⟩
    · rw [h.dirtyList, h.records]; exact x.dirty
    · rw [h.clean, h.records]; exact x.clean
  moves _ y := by
    refine ⟨h.records ▸ y.lost, ?_, ?_, h.contexts ▸ y.apart⟩
    · simp only [h.contexts, h.residentOf]; exact y.fills
    · simp only [h.contexts, h.residentOf]; exact y.flushes
  heat x := by
    refine ⟨h.watch ▸ x.once, by rw [h.watch, h.records]; exact x.apart, by rw [h.watch, h.touch]; exact x.touch, ?_⟩
    intro hv
    have hv' : s.service ≠ .serving := by
      rcases h.service with k | ⟨-, -, k⟩
      · exact k ▸ hv
      · exact absurd k hv
    obtain ⟨k1, k2, k3, k4⟩ := x.unserved hv'
    exact ⟨h.watch ▸ k1, h.parkedUnserved hv' k2, by rw [h.contexts]; exact k3, h.records ▸ k4⟩
  slots x := by
    refine ⟨by rw [h.free, h.fences, h.records, h.slots]; exact x.balance, h.records ▸ x.extents, fun hv => ?_,
      fun hv => ?_⟩
    · rcases h.service with k | ⟨-, -, k⟩
      · exact h.sized.1 (x.cold (k ▸ hv))
      · rw [k] at hv; cases hv
    · rcases h.service with k | ⟨-, -, k⟩
      · rw [h.fences, h.contexts]; exact x.unserved (k ▸ hv)
      · exact absurd k hv
  order _ _ z := by
    refine ⟨h.free ▸ z.free, h.records ▸ z.records, h.watch ▸ z.watch, h.watch ▸ z.places⟩

/-- The service state after a turn. -/
theorem State.Turns.service (h : s.Turns c t) (hc : c ≠ .adoptEnd) : t.service = s.service := by
  induction h with
  | base h => exact h.service.resolve_right fun k => hc k.1
  | chain h => exact h.keeps.service
  | trans _ _ ih ih' => exact ih'.trans ih

/-- A turn upholds the laws of records, lists, moves and slots. -/
theorem State.Turns.upholdsMap (h : s.Turns c t) : s.UpholdsMap t := by
  induction h with
  | base h => exact h.upholds.toUpholdsMap
  | chain h => exact h.upholdsMap
  | trans _ _ ih ih' => exact ih.trans ih'

/-- A turn upholds the laws of the map, that of a route in service. -/
theorem State.Turns.upholds (h : s.Turns c t) (hc : isRouting c = false ∨ s.service = .serving) : s.Upholds t := by
  induction h with
  | base h => exact h.upholds
  | chain h => exact h.upholds (by rw [licenceOf_routing]; exact hc)
  | trans h _ ih ih' =>
    refine (ih hc).trans (ih' ?_)
    rcases hc with hc | hc
    · exact .inl hc
    · by_cases hr : isRouting c = false
      · exact .inl hr
      · exact .inr ((h.service fun k => hr (k ▸ rfl)).trans hc)

/-! ### What a turn keeps in range -/

/-- The ranges and the capacities, upheld from one state to another. -/
structure State.Confines (s t : State) : Prop where
  settings : s.SettingsInRange → t.SettingsInRange
  capacity : s.WithinCapacity → s.stats.Bounded → t.WithinCapacity ∧ t.stats.Bounded

theorem State.Confines.refl (s : State) : s.Confines s := ⟨id, fun x y => ⟨x, y⟩⟩

theorem State.Confines.trans {s t u : State} (h : s.Confines t) (k : t.Confines u) : s.Confines u where
  settings x := k.settings (h.settings x)
  capacity x y := k.capacity (h.capacity x y).1 (h.capacity x y).2

/-- What the shared operations keep, with the Claim Table lawful, confines. -/
theorem State.Keeps.confines (h : s.Keeps t) (hc : s.ClaimsLawful → t.ClaimsLawful) : s.Confines t where
  settings x := by
    refine ⟨by rw [h.settings]; exact x.settings, by rw [h.sizes]; exact x.sizes, ?_, by rw [h.windows]; exact x.windows⟩
    rw [h.service, h.sizes]
    exact x.sized
  capacity x y := by
    refine ⟨⟨fun p => (h.link p).fifo ▸ x.fifo p, fun p => (h.link p).room (x.out p), by rw [h.parked]; exact x.parked,
      h.promo x.promo, ?_, hc x.claims⟩, h.stats y⟩
    rw [h.cursor, State.slots, h.sizes]
    exact x.cursor

theorem State.Becomes.confines {L : Licence} (h : State.Becomes L s t) : s.Confines t :=
  h.keeps.confines h.claimsLawful

theorem State.Rebases.confines (h : s.Rebases c t) : s.Confines t where
  settings x := by
    refine ⟨h.settingsInRange x.settings, h.sizesInRange x.sizes, fun hv => ?_, h.windowsInRange x.windows⟩
    refine fun k => x.sized ?_ (h.sized.2 k)
    rcases h.service with e | ⟨-, e, -⟩
    · exact e ▸ hv
    · simp [e]
  capacity x y :=
    ⟨⟨h.fifo x.fifo, h.out x.out, h.parkedLength x.parked, h.promo ▸ x.promo,
      by rw [h.slots]; exact h.cursorInRange x.cursor, by rw [h.claims]; exact x.claims⟩, h.stats y⟩

theorem State.Turns.confines (h : s.Turns c t) : s.Confines t := by
  induction h with
  | base h => exact h.confines
  | chain h => exact h.confines
  | trans _ _ ih ih' => exact ih.trans ih'

/-! ### What a turn leaves as it was -/

/-- Without a change of segments, of moves or of records, the segments and the free pool stand. -/
theorem State.Becomes.segments_free {L : Licence} (h : State.Becomes L s t) (h1 : L.segments = false)
    (h2 : L.removes = false) (h3 : L.routing = false) (h4 : L.moves = false) (h5 : L.fences = false) :
    (∀ e, t.segmentsOf e = s.segmentsOf e) ∧ t.free = s.free := by
  induction h with
  | refl s => exact ⟨fun _ => rfl, rfl⟩
  | trans _ _ ih ih' => exact ⟨fun e => (ih'.1 e).trans (ih.1 e), ih'.2.trans ih.2⟩
  | light same _ =>
    have ht := State.tables_of_solid same
    exact ⟨State.segmentsOf_congr (State.tables_records ht), State.tables_free ht⟩
  | watch s e k _ _ _ licence => simp [h3] at licence
  | replace s a old new ctx hr slot _ _ segments =>
    obtain ⟨k1, k2, k3, k4⟩ := segments h1
    exact ⟨fun e => State.segmentsOf_store_of_same a hr slot k1 k2 k3 k4 e, rfl⟩
  | remove s fate r k ctx _ _ _ licence => simp [h2] at licence
  | enter s x ctx _ _ _ _ licence => simp [h3, h4] at licence
  | pass s r x k _ _ _ _ _ _ _ licence => simp [h3] at licence
  | flag s f flags =>
    exact ⟨State.segmentsOf_map f rfl fun r => by rw [(flags r).eq]; exact ⟨rfl, rfl, rfl, rfl, rfl, rfl⟩, rfl⟩
  | lift s f _ licence => simp [h5] at licence
  | conclude same => exact ⟨State.segmentsOf_congr (State.tables_records same), State.tables_free same⟩
  | _ => exact ⟨fun _ => rfl, rfl⟩

/-- What a command's turn leaves as it was. -/
structure State.Leaves (c : Instr) (s t : State) : Prop where
  service : c ≠ .adoptEnd → t.service = s.service
  settings : isSet c = false → t.settings = s.settings
  windows : (∀ n base mask policy enable, c ≠ .setWindow n base mask policy enable) → t.windows = s.windows
  sizes : isSet c = false → t.sizes = s.sizes
  spindle : c ≠ .diskLinkReset → (∀ x, c ≠ .spindle x) → t.spindle = s.spindle
  bgWindow : c ≠ .diskLinkReset → (∀ x, c ≠ .window x) → t.bgWindow = s.bgWindow
  epoch : c ≠ .epochTimerExpiry → t.epoch = s.epoch
  epochTimer : c ≠ .epochTimerExpiry → c ≠ .adoptEnd → t.epochTimer = s.epochTimer
  cursor : c ≠ .epochTimerExpiry → t.cursor = s.cursor
  streams : isRouting c = false → t.streams = s.streams ∧ t.streamUse = s.streamUse
  parked : isRouting c = false → c ≠ .frontLinkReset → t.parked = s.parked
  routes : (licenceOf c).routes = false → t.routes = s.routes
  lastKind : (licenceOf c).starts = false → t.lastKind = s.lastKind
  tickets : (licenceOf c).orders = false → t.tickets = s.tickets
  fences : (licenceOf c).fences = false → t.fences = s.fences
  map : actsOnMap c = false →
    t.contexts = s.contexts ∧ (∀ e, t.segmentsOf e = s.segmentsOf e) ∧ t.free = s.free
  claims : (licenceOf c).grants = false → t.claims = s.claims

theorem State.Leaves.trans {u : State} (h : State.Leaves c s t) (k : State.Leaves c t u) : State.Leaves c s u where
  service x := (k.service x).trans (h.service x)
  settings x := (k.settings x).trans (h.settings x)
  windows x := (k.windows x).trans (h.windows x)
  sizes x := (k.sizes x).trans (h.sizes x)
  spindle x y := (k.spindle x y).trans (h.spindle x y)
  bgWindow x y := (k.bgWindow x y).trans (h.bgWindow x y)
  epoch x := (k.epoch x).trans (h.epoch x)
  epochTimer x y := (k.epochTimer x y).trans (h.epochTimer x y)
  cursor x := (k.cursor x).trans (h.cursor x)
  streams x := ⟨(k.streams x).1.trans (h.streams x).1, (k.streams x).2.trans (h.streams x).2⟩
  parked x y := (k.parked x y).trans (h.parked x y)
  routes x := (k.routes x).trans (h.routes x)
  lastKind x := (k.lastKind x).trans (h.lastKind x)
  tickets x := (k.tickets x).trans (h.tickets x)
  fences x := (k.fences x).trans (h.fences x)
  map x := by
    obtain ⟨h1, h2, h3⟩ := h.map x
    obtain ⟨k1, k2, k3⟩ := k.map x
    exact ⟨k1.trans h1, fun e => (k2 e).trans (h2 e), k3.trans h3⟩
  claims x := (k.claims x).trans (h.claims x)

/-- The commands that do not act on the map have no licence to. -/
theorem licenceOf_of_not_actsOnMap {c : Instr} (h : actsOnMap c = false) :
    (licenceOf c).segments = false ∧ (licenceOf c).removes = false ∧ (licenceOf c).routing = false ∧
      (licenceOf c).moves = false ∧ (licenceOf c).fences = false := by
  cases c <;> first | exact ⟨rfl, rfl, rfl, rfl, rfl⟩ | exact absurd h (by simp [actsOnMap])

theorem State.Becomes.leaves (h : State.Becomes (licenceOf c) s t) : State.Leaves c s t where
  service _ := h.keeps.service
  settings _ := h.keeps.settings
  windows _ := h.keeps.windows
  sizes _ := h.keeps.sizes
  spindle _ _ := h.keeps.spindle
  bgWindow _ _ := h.keeps.bgWindow
  epoch _ := h.keeps.epoch
  epochTimer _ _ := h.keeps.epochTimer
  cursor _ := h.keeps.cursor
  streams _ := ⟨h.keeps.streams, h.keeps.streamUse⟩
  parked _ _ := h.keeps.parked
  routes := h.routes_eq
  lastKind := h.lastKind_eq
  tickets := h.tickets_eq
  fences := h.fences_eq
  map x := by
    obtain ⟨h1, h2, h3, h4, h5⟩ := licenceOf_of_not_actsOnMap x
    exact ⟨h.contexts_eq h4 h3, h.segments_free h1 h2 h3 h4 h5⟩
  claims := h.claims_eq

theorem State.Rebases.leaves (h : s.Rebases c t) : State.Leaves c s t where
  service x := h.service.resolve_right fun k => x k.1
  settings := h.settings
  windows := h.windows
  sizes := h.sizes
  spindle := h.spindle
  bgWindow := h.bgWindow
  epoch := h.epoch
  epochTimer := h.epochTimer
  cursor := h.cursor
  streams := h.streams
  parked := h.parked
  routes _ := h.routes
  lastKind _ := h.lastKind
  tickets _ := h.tickets
  fences _ := h.fences
  map _ := ⟨h.contexts, State.segmentsOf_congr h.records, h.free⟩
  claims _ := h.claims

theorem State.Turns.leaves (h : s.Turns c t) : State.Leaves c s t := by
  induction h with
  | base h => exact h.leaves
  | chain h => exact h.leaves
  | trans _ _ ih ih' => exact ih.trans ih'

end

end Sys2Proof.Machine
end

section
/-! SUPPORT. Each command's turn: one lemma per command, over what taking its request does. -/

namespace Sys2Proof.Machine

/-- The context of a start event is IDLE (R141). -/
theorem State.startContext_idle {s : State} {i : Fin 4} (h : s.startContext = some i) : s.contexts[i] = .idle := by
  unfold State.startContext at h
  split at h
  · simpa using List.find?_some h
  · cases h

namespace State.Turns

variable {c : Instr} {s t : State}

theorem refl (s : State) : s.Turns c s := .chain (.refl s)

/-! ### Links and answers -/

theorem clamp_bounds {lo hi v : Nat} (h : lo ≤ hi) : lo ≤ clamp lo hi v ∧ clamp lo hi v ≤ hi := by
  unfold clamp
  omega

/-- A link with no longer a FIFO or queue than before, or a FIFO within its capacity. -/
theorem setLink (p : Port) (l : Link) (s : State) (fifo : (s.link p).fifo.length ≤ 4 → l.fifo.length ≤ 4)
    (out : (s.link p).out.length ≤ 16 → l.out.length ≤ 16) : s.Turns c (s.setLink p l) := by
  have hf (h : ∀ q, (s.link q).fifo.length ≤ 4) (q : Port) : ((s.setLink p l).link q).fifo.length ≤ 4 := by
    by_cases hq : q = p
    · subst hq; rw [State.link_setLink]; exact fifo (h q)
    · rw [State.link_setLink_of_ne s p q l hq]; exact h q
  have ho (h : ∀ q, (s.link q).out.length ≤ 16) (q : Port) : ((s.setLink p l).link q).out.length ≤ 16 := by
    by_cases hq : q = p
    · subst hq; rw [State.link_setLink]; exact out (h q)
    · rw [State.link_setLink_of_ne s p q l hq]; exact h q
  cases p <;> exact .base { fifo := hf, out := ho }

theorem popFifo (p : Port) (s : State) : s.Turns c (s.popFifo p) :=
  setLink p _ s (fun h => by simp only [List.length_tail]; omega) id

theorem clearLink (p : Port) (s : State) : s.Turns c (s.clearLink p) :=
  setLink p _ s (fun _ => Nat.zero_le _) (fun _ => Nat.zero_le _)

theorem advance (p : Port) (s : State) : s.Turns c (s.advance p) := .base {}

theorem place (p : Port) (r : Outbound) (s : State) : s.Turns c (s.place p r) := .chain (.place p r s)

theorem answer (p : Port) (k : Nat) (code : Code) (ws vs : List Word) (s : State) :
    s.Turns c (s.answer p k code ws vs) := place p _ s

/-- A request taken: it leaves its FIFO, its block acts, the pointer moves on; or it waits. -/
theorem ofTake {p : Port} {d : Instr} {act : List Word → State → State}
    (h : takeRequest p d act s = .next t)
    (hact : ∀ ws, s.offered p d = some ws → (s.popFifo p).Turns c (act ws (s.popFifo p))) : s.Turns c t := by
  cases ho : s.offered p d with
  | none =>
    rw [takeRequest_waits act ho] at h
    cases h
    exact refl s
  | some ws =>
    rw [takeRequest_offered act ho] at h
    cases h
    exact ((popFifo p s).trans (hact ws ho)).trans (advance p _)

/-! ### Inbound frames, malformed entries and reads -/

theorem inboundFrame {p : Port} {l : List Half} (h : exec (.inboundFrame p l) s = .next t) :
    s.Turns (.inboundFrame p l) t := by
  cases h
  unfold State.receive
  split
  · rename_i hr
    refine setLink p _ s (fun _ => ?_) id
    have : (s.link p).fifo.length < Config.fifoDepth := of_decide_eq_true hr
    unfold Config.fifoDepth at this
    simp only [List.length_append, List.length_singleton]
    omega
  · exact refl s

theorem recordRead {p : Port} (h : exec (.recordRead p) s = .next t) : s.Turns (.recordRead p) t := by
  cases h
  have hr : s.Turns (.recordRead p) (s.readOut p) :=
    setLink p _ s id (fun h => by simp only [List.length_tail]; omega)
  unfold State.recordRead
  split
  · exact hr
  · exact hr.trans (.chain (.placeOwed ⟨⟨rfl, rfl, rfl⟩, rfl⟩ rfl p _))

theorem malformedEntry {p : Port} (h : exec (.malformedEntry p) s = .next t) : s.Turns (.malformedEntry p) t := by
  simp only [exec, execMalformedEntry] at h
  split at h
  · cases h
    exact ((popFifo p s).trans (place p _ _)).trans (advance p _)
  · cases h
    exact refl s

/-! ### Bring-up -/

theorem adoptEnd (h : exec .adoptEnd s = .next t) : s.Turns .adoptEnd t := by
  refine ofTake h fun ws _ => ?_
  generalize s.popFifo .flash = u
  unfold State.takeAdoptEnd
  split
  · exact answer _ _ _ _ _ u
  · rename_i hv
    have hv' : u.service = .adopting := by simpa using hv
    have h1 : u.Turns .adoptEnd { u with service := .serving } := .base { service := .inr ⟨rfl, hv', rfl⟩ }
    refine (h1.trans (answer .flash 0x0D .ok ws [word u.records.length] _)).trans ?_
    generalize (State.answer .flash 0x0D .ok ws [word u.records.length] { u with service := .serving }) = v
    unfold State.beginService
    have h2 : v.Turns .adoptEnd { v with epochTimer := some v.settings.epochLen } :=
      .base { epochTimer := fun _ k => absurd rfl k }
    refine h2.trans (.chain ((State.Becomes.compareUrgent _).trans ?_))
    dsimp only
    refine .trans ?_ (.demandAll _)
    split
    · exact .trans (.ofEnd .of) (.armAdvice _)
    · exact .refl _

/-! ### Claims -/

theorem grantNext (e : Nat) (s : State) (hL : (licenceOf c).grants = true) : s.Turns c (s.grantNext e) := by
  unfold State.grantNext
  split
  · exact refl s
  · exact .chain (.grantEntry _ s hL)

theorem setClaim (i : Fin 8) (x : Option ClaimEntry) (s : State) (hL : (licenceOf c).grants = true)
    (hx : s.ClaimsLawful → ∀ d, x = some d → d.standing.port ∉ d.waiters ∧ d.waiters.Nodup) :
    s.Turns c (s.setClaim i x) := by
  refine .chain (.conclude rfl (State.setClaim_keeps i x s) (fun h j d hd => ?_) fun k => by simp [hL] at k)
  rw [show (s.setClaim i x).claims[j] = _ from set_getElem_fin s.claims i j x] at hd
  split at hd
  · exact hx h d hd
  · exact h j d hd

theorem claimFor (p : Port) (e : Nat) (s : State) (hL : (licenceOf c).grants = true) :
    s.Turns c (s.claimFor p e).2 := by
  unfold State.claimFor
  split
  · rename_i i _
    split
    · exact refl s
    · rename_i d hd
      split
      · exact refl s
      · rename_i hn
        refine setClaim i _ s hL fun hl x hx => ?_
        obtain ⟨h1, h2⟩ := hl i d hd
        simp only [Option.some.injEq] at hx
        subst hx
        simp only [ClaimEntry.names, Bool.or_eq_true, beq_iff_eq, List.contains_iff_mem, not_or] at hn
        refine ⟨?_, ?_⟩
        · simp only [List.mem_append, List.mem_singleton, not_or]
          exact ⟨h1, hn.1⟩
        · rw [List.nodup_append]
          refine ⟨h2, by simp, fun a ha b hb => ?_⟩
          rw [List.mem_singleton.1 hb]
          exact fun k => hn.2 (k ▸ ha)
  · split
    · exact refl s
    · split
      · exact setClaim _ _ s hL fun _ x hx => by cases hx; exact ⟨by simp, by simp⟩
      · exact setClaim _ _ s hL fun _ x hx => by cases hx; exact ⟨by simp, by simp⟩

theorem releaseFor (p : Port) (e : Nat) (s : State) (hL : (licenceOf c).grants = true) :
    s.Turns c (s.releaseFor p e).2 := by
  unfold State.releaseFor
  split
  · exact refl s
  · split
    · exact refl s
    · rename_i d hd
      split
      · exact setClaim _ _ s hL fun hl x hx => State.Becomes.leave_lawful p (hl _ d hd) hx
      · exact refl s

theorem claim {p : Port} {e : Nat} (h : exec (.claim p e) s = .next t) : s.Turns (.claim p e) t := by
  refine ofTake h fun ws _ => ?_
  generalize s.popFifo p = u
  unfold State.takeClaim
  split
  · exact answer _ _ _ _ _ u
  · split
    · exact answer _ _ _ _ _ u
    · exact (claimFor p e u rfl).trans (answer _ _ _ _ _ _)

theorem release {p : Port} {e : Nat} (h : exec (.release p e) s = .next t) : s.Turns (.release p e) t := by
  refine ofTake h fun ws _ => ?_
  generalize s.popFifo p = u
  unfold State.takeRelease
  split
  · exact answer _ _ _ _ _ u
  · split
    · exact answer _ _ _ _ _ u
    · have h1 := (releaseFor p e u (c := .release p e) rfl).trans (answer p 0x04 (u.releaseFor p e).1 ws [] _)
      dsimp only
      split
      · exact h1.trans (grantNext e _ rfl)
      · exact h1

/-! ### Reports and timeouts -/

theorem fencePart (p : Port) (ticket : Nat) (s : State) (hF : (licenceOf c).fences = true) :
    s.Turns c (s.fencePart p ticket) := by
  unfold State.fencePart
  split
  · exact .chain (.liftFenceOf hF ticket s)
  · exact refl s

theorem reportArms (p : Port) (s : State) : s.Turns c (s.reportArms p) := by
  unfold State.reportArms
  split
  · exact .chain (.armAdvice s)
  · exact refl s

theorem answerReport (p : Port) (code : Code) (ticket : Nat) (ws : List Word) (s : State) :
    s.Turns c (s.answerReport p code ticket ws) := place p _ s

theorem report {p : Port} {ticket context status : Nat} (h : exec (.report p ticket context status) s = .next t) :
    s.Turns (.report p ticket context status) t := by
  refine ofTake h fun ws _ => ?_
  generalize s.popFifo p = u
  unfold State.takeReport
  split
  · exact answerReport _ _ _ _ u
  · split
    · split
      · dsimp only
        split
        · exact ((((answerReport _ _ _ _ u).trans (fencePart _ _ _ rfl)).trans (reportArms _ _)).trans
            (.chain (.actOnReport ⟨⟨rfl, rfl, rfl⟩, rfl⟩ _ _ _))).trans (.chain (.finish _ rfl))
        · exact (answerReport _ _ _ _ u).trans (fencePart _ _ _ rfl)
      · exact answerReport _ _ _ _ u
    · exact answerReport _ _ _ _ u

theorem orderTimerExpiry {i : Fin 4} (h : exec (.orderTimerExpiry i) s = .next t) : s.Turns (.orderTimerExpiry i) t := by
  simp only [exec, execOrderTimerExpiry] at h
  split at h
  · cases h
    exact refl s
  · cases h
    exact .chain (.trans (.actOnTimeout ⟨rfl, rfl, rfl⟩ rfl i s) (.finish _ rfl))

/-! ### Settings -/

theorem retestFill (s : State) : s.Turns c s.retestFill := by
  unfold State.retestFill
  split
  · exact .chain (.demandFor _ s)
  · exact refl s

theorem retestUrgent (s : State) : s.Turns c s.retestUrgent := by
  unfold State.retestUrgent
  split
  · exact .chain (.trans (.compareUrgent s) (.demandFor _ _))
  · exact refl s

theorem answerSet (code : Code) (n item : Nat) (vs : List Word) (s : State) : s.Turns c (s.answerSet code n item vs) :=
  place .front _ s

theorem withSettings (g : Settings) (s : State) (hc : isSet c = true) (hg : s.settings.InRange → g.InRange) :
    s.Turns c (s.withSettings g) :=
  .base { settings := fun k => by simp [hc] at k, settingsInRange := hg }

theorem withSizes (z z' : Sizes) (s : State) (hc : isSet c = true) (hz : s.sizes = some z) (hs : z'.slots = z.slots)
    (hr : z.InRange → z'.InRange) : s.Turns c (s.withSizes z') :=
  .base
    { sizes := fun k => by simp [hc] at k
      slots := by simp [State.slots, State.withSizes, hz, hs]
      sized := by simp [State.withSizes, hz]
      sizesInRange := fun k w hw => by
        cases hw
        exact hr (k z hz) }

/-- A SET of one number outside S: the settings change, and the answer gives the value. -/
theorem ofSet {d : Instr} {item v : Nat} {g : Settings → Settings} (hc : isSet c = true)
    (hg : ∀ x : Settings, x.InRange → (g x).InRange)
    (h : takeRequest .front d (fun ws u => (u.withSettings (g u.settings)).answerValue item v ws) s = .next t) :
    s.Turns c t :=
  ofTake h fun _ _ => (withSettings _ _ hc (hg _)).trans (answerSet _ _ _ _ _)

theorem setEpochLen {v : Nat} (h : exec (.setEpochLen v) s = .next t) : s.Turns (.setEpochLen v) t :=
  ofSet rfl (g := fun x => { x with epochLen := clamp 0 1023 v })
    (fun x hx => { hx with epochLen := (clamp_bounds (by omega)).2 }) h

theorem setDecay {v : Nat} (h : exec (.setDecay v) s = .next t) : s.Turns (.setDecay v) t :=
  ofSet rfl (g := fun x => { x with decay := clamp 1 8 v }) (fun x hx => { hx with decay := clamp_bounds (by omega) }) h

theorem setBands {t1 t2 t3 : Nat} (h : exec (.setBands t1 t2 t3) s = .next t) : s.Turns (.setBands t1 t2 t3) t := by
  refine ofTake h fun ws _ => ?_
  generalize s.popFifo .front = u
  unfold State.takeBands
  dsimp only
  split
  · rename_i hb
    refine (withSettings { u.settings with t1 := clamp 1 65535 t1, t2 := clamp 1 65535 t2, t3 := clamp 1 65535 t3 } u rfl
      fun hx => { hx with bands := ?_ }).trans (answerSet _ _ _ _ _)
    exact ⟨(clamp_bounds (by omega)).1, hb.1, hb.2, (clamp_bounds (by omega)).2⟩
  · exact answerSet _ _ _ _ u

theorem setSettle {v : Nat} (h : exec (.setSettle v) s = .next t) : s.Turns (.setSettle v) t :=
  ofSet rfl (g := fun x => { x with settle := clamp 1 15 v })
    (fun x hx => { hx with settle := clamp_bounds (by omega) }) h

theorem ofRank_ne_b0 {n : Nat} (h : 1 ≤ n ∧ n ≤ 3) : Band.ofRank n ≠ .b0 := by
  obtain rfl | rfl | rfl : n = 1 ∨ n = 2 ∨ n = 3 := by omega
  all_goals decide

theorem setPromoteBand {v : Nat} (h : exec (.setPromoteBand v) s = .next t) : s.Turns (.setPromoteBand v) t :=
  ofSet rfl (g := fun x => { x with promoteBand := Band.ofRank (clamp 1 3 v) })
    (fun x hx => { hx with promoteBand := ofRank_ne_b0 (clamp_bounds (by omega)) }) h

theorem setWRread {v : Nat} (h : exec (.setWRread v) s = .next t) : s.Turns (.setWRread v) t :=
  ofSet rfl (g := fun x => { x with wRread := clamp 0 255 v })
    (fun x hx => { hx with weights := ⟨(clamp_bounds (by omega)).2, hx.weights.2⟩ }) h

theorem setWRwrite {v : Nat} (h : exec (.setWRwrite v) s = .next t) : s.Turns (.setWRwrite v) t :=
  ofSet rfl (g := fun x => { x with wRwrite := clamp 0 255 v })
    (fun x hx => { hx with weights := ⟨hx.weights.1, (clamp_bounds (by omega)).2, hx.weights.2.2⟩ }) h

theorem setWSread {v : Nat} (h : exec (.setWSread v) s = .next t) : s.Turns (.setWSread v) t :=
  ofSet rfl (g := fun x => { x with wSread := clamp 0 255 v })
    (fun x hx =>
      { hx with weights := ⟨hx.weights.1, hx.weights.2.1, (clamp_bounds (by omega)).2, hx.weights.2.2.2⟩ }) h

theorem setWSwrite {v : Nat} (h : exec (.setWSwrite v) s = .next t) : s.Turns (.setWSwrite v) t :=
  ofSet rfl (g := fun x => { x with wSwrite := clamp 0 255 v })
    (fun x hx =>
      { hx with weights := ⟨hx.weights.1, hx.weights.2.1, hx.weights.2.2.1, (clamp_bounds (by omega)).2⟩ }) h

theorem setWakeBonus {v : Nat} (h : exec (.setWakeBonus v) s = .next t) : s.Turns (.setWakeBonus v) t :=
  ofSet rfl (g := fun x => { x with wakeBonus := clamp 0 255 v })
    (fun x hx => { hx with wakeBonus := (clamp_bounds (by omega)).2 }) h

theorem setSeqRun {v : Nat} (h : exec (.setSeqRun v) s = .next t) : s.Turns (.setSeqRun v) t :=
  ofSet rfl (g := fun x => { x with seqRun := clamp 64 65535 v })
    (fun x hx => { hx with seqRun := clamp_bounds (by omega) }) h

theorem setOrderTimeout {v : Nat} (h : exec (.setOrderTimeout v) s = .next t) : s.Turns (.setOrderTimeout v) t :=
  ofSet rfl (g := fun x => { x with orderTimeout := clamp 1 255 v })
    (fun x hx => { hx with orderTimeout := clamp_bounds (by omega) }) h

theorem setWindow {n base mask policy : Nat} {enable : Bool}
    (h : exec (.setWindow n base mask policy enable) s = .next t) :
    s.Turns (.setWindow n base mask policy enable) t := by
  refine ofTake h fun ws _ => ?_
  generalize s.popFifo .front = u
  unfold State.takeWindow
  split
  · exact answerSet _ _ _ _ u
  · dsimp only
    split
    · rename_i hn
      refine .trans (.base { windows := fun k => absurd rfl (k _ _ _ _ _), windowsInRange := fun hw w hm => ?_ })
        (answerSet _ _ _ _ _)
      rw [Vector.toList_set] at hm
      rcases List.mem_or_eq_of_mem_set hm with hm | rfl
      · exact hw w hm
      · exact ⟨by show base % 2 ^ 24 ≤ _; omega, by show mask % 2 ^ 24 ≤ _; omega⟩
    · exact answerSet _ _ _ _ u

/-- A SET of a setting that depends on S. -/
theorem ofSizes {d : Instr} {item : Nat} {f : Sizes → Sizes} {g : List Word → Sizes → State → State}
    (hc : isSet c = true) (hs : ∀ z, (f z).slots = z.slots) (hr : ∀ z : Sizes, z.InRange → (f z).InRange)
    (hg : ∀ ws z u, State.Turns c u (g ws z u))
    (h : takeRequest .front d (fun ws u =>
      match u.sizes with
      | none => u.refuseSet .wrongState 0 item ws
      | some z => g ws z (u.withSizes (f z))) s = .next t) : s.Turns c t := by
  refine ofTake h fun ws _ => ?_
  generalize s.popFifo .front = u
  split
  · exact answerSet _ _ _ _ u
  · rename_i z hz
    exact (withSizes z (f z) u hc hz (hs z) (hr z)).trans (hg ws z _)

theorem setPinLimit {v : Nat} (h : exec (.setPinLimit v) s = .next t) : s.Turns (.setPinLimit v) t :=
  ofSizes rfl (item := 0x0D) (f := fun z => { z with pinLimit := clamp 0 z.slots v })
    (g := fun ws z u => u.answerValue 0x0D (clamp 0 z.slots v) ws) (fun _ => rfl)
    (fun z hz => { hz with pinLimit := (clamp_bounds (Nat.zero_le _)).2 }) (fun _ _ u => answerSet _ _ _ _ u) h

theorem setAbsorbReserve {v : Nat} (h : exec (.setAbsorbReserve v) s = .next t) : s.Turns (.setAbsorbReserve v) t :=
  ofSizes rfl (item := 0x0E) (f := fun z => { z with absorbReserve := clamp 0 (z.slots / 2) v })
    (g := fun ws z u => u.answerValue 0x0E (clamp 0 (z.slots / 2) v) ws) (fun _ => rfl)
    (fun z hz => { hz with absorbReserve := (clamp_bounds (Nat.zero_le _)).2 }) (fun _ _ u => answerSet _ _ _ _ u) h

theorem withHigh_inRange {z : Sizes} (v : Nat) (h : z.InRange) : (z.withHigh v).InRange := by
  have h1 : 1 ≤ clamp 1 z.slots v ∧ clamp 1 z.slots v ≤ z.slots := clamp_bounds (by have := h.slots.1; omega)
  refine ⟨h.slots, h.pinLimit, h.absorbReserve, h1, ?_⟩
  show min z.dirtyLow (clamp 1 z.slots v - 1) < clamp 1 z.slots v
  omega

theorem withLow_inRange {z : Sizes} (v : Nat) (h : z.InRange) : (z.withLow v).InRange := by
  have h1 : clamp 0 (z.dirtyHigh - 1) v ≤ z.dirtyHigh - 1 := (clamp_bounds (Nat.zero_le _)).2
  have h2 := h.dirtyHigh.1
  refine ⟨h.slots, h.pinLimit, h.absorbReserve, h.dirtyHigh, ?_⟩
  show clamp 0 (z.dirtyHigh - 1) v < z.dirtyHigh
  omega

theorem setDirtyHigh {v : Nat} (h : exec (.setDirtyHigh v) s = .next t) : s.Turns (.setDirtyHigh v) t :=
  ofSizes rfl (item := 0x0F) (f := fun z => z.withHigh v)
    (g := fun ws z u => (u.answerSet .ok 0 0x0F
      (word (z.withHigh v).dirtyHigh :: word (z.withHigh v).dirtyLow :: ws.drop 3)).retestUrgent) (fun _ => rfl)
    (fun _ hz => withHigh_inRange v hz) (fun _ _ u => (answerSet _ _ _ _ u).trans (retestUrgent _)) h

theorem setDirtyLow {v : Nat} (h : exec (.setDirtyLow v) s = .next t) : s.Turns (.setDirtyLow v) t :=
  ofSizes rfl (item := 0x10) (f := fun z => z.withLow v)
    (g := fun ws z u => (u.answerValue 0x10 (z.withLow v).dirtyLow ws).retestUrgent) (fun _ => rfl)
    (fun _ hz => withLow_inRange v hz) (fun _ _ u => (answerSet _ _ _ _ u).trans (retestUrgent _)) h

theorem setAdviceDelay {v : Nat} (h : exec (.setAdviceDelay v) s = .next t) : s.Turns (.setAdviceDelay v) t := by
  simp only [exec, execSetAdviceDelay] at h
  refine ofTake h fun ws _ => ?_
  generalize s.popFifo .front = u
  have h1 : u.Turns (.setAdviceDelay v) (u.withSettings { u.settings with adviceDelay := clamp 0 255 v }) :=
    withSettings _ u rfl fun hx => { hx with adviceDelay := (clamp_bounds (by omega)).2 }
  refine (h1.trans ?_).trans (answerSet _ _ _ _ _)
  generalize u.withSettings { u.settings with adviceDelay := clamp 0 255 v } = w
  unfold State.retimeAdvice
  split
  · exact .chain (.ofLight .of)
  · split
    · exact .chain (.armAdvice w)
    · exact refl w

theorem setFillWake {v : Nat} (h : exec (.setFillWake v) s = .next t) : s.Turns (.setFillWake v) t := by
  simp only [exec, execSetFillWake] at h
  refine ofTake h fun ws _ => ?_
  generalize s.popFifo .front = u
  have h1 : u.Turns (.setFillWake v) (u.withSettings { u.settings with fillWake := clamp 0 64 v }) :=
    withSettings _ u rfl fun hx => { hx with fillWake := (clamp_bounds (by omega)).2 }
  exact (h1.trans (answerSet _ _ _ _ _)).trans (retestFill _)

theorem setProfile {v : Nat} (h : exec (.setProfile v) s = .next t) : s.Turns (.setProfile v) t := by
  simp only [exec, execSetProfile] at h
  refine ofTake h fun ws _ => ?_
  generalize s.popFifo .front = u
  split
  · exact answerSet _ _ _ _ u
  · rename_i p _
    have h1 : u.Turns (.setProfile v) (u.withSettings { u.settings with profile := p }) :=
      withSettings _ u rfl fun hx => { hx with }
    exact (h1.trans (answerSet _ _ _ _ _)).trans (retestFill _)

/-! ### Queries -/

theorem query {e : Nat} (h : exec (.query e) s = .next t) : s.Turns (.query e) t := by
  refine ofTake h fun ws _ => ?_
  generalize s.popFifo .front = u
  unfold State.takeQuery
  split
  · exact answer _ _ _ _ _ u
  · have h1 : u.Turns (.query e) (if u.isServing then u.examine 0 e else u) := by
      split
      · exact .chain (.examine 0 e u)
      · exact refl u
    exact (h1.trans (answer _ _ _ _ _ _)).trans (retestFill _)

theorem querySummary (h : exec .querySummary s = .next t) : s.Turns .querySummary t :=
  ofTake h fun _ _ => answer _ _ _ _ _ _

theorem zero_bounded : Stats.zero.Bounded := by
  constructor <;> exact Nat.zero_le _

theorem stats {clear : Bool} (h : exec (.stats clear) s = .next t) : s.Turns (.stats clear) t := by
  simp only [exec, execStats] at h
  refine ofTake h fun ws _ => ?_
  generalize s.popFifo .front = u
  split
  · exact (answer _ _ _ _ _ u).trans (.base { stats := fun _ => zero_bounded })
  · exact answer _ _ _ _ _ u

/-! ### Resets -/

theorem frontLinkReset (h : exec .frontLinkReset s = .next t) : s.Turns .frontLinkReset t := by
  cases h
  unfold State.frontReset
  have h1 := clearLink (c := .frontLinkReset) .front s
  rw [show s.records = (s.clearLink .front).records from rfl]
  generalize s.clearLink .front = u at h1 ⊢
  have h2 : u.Turns .frontLinkReset { u with parked := [] } :=
    .base { parked := fun _ k => absurd rfl k, parkedLength := fun _ => Nat.zero_le _, parkedUnserved := fun _ _ => rfl }
  have h3 : State.Becomes (licenceOf .frontLinkReset) { u with parked := [] }
      { u with parked := [], routes := [], drain := false, drainedOwed := none,
               records := u.records.map Resident.forgetFront } :=
    ((State.Becomes.reroute _ [] rfl).trans (.ofEnd (t := { u with
      parked := [], routes := [], drain := false, drainedOwed := none }) .of)).trans
      (.flag { u with parked := [], routes := [], drain := false, drainedOwed := none } _ fun r => .forgetFront r)
  have h4 := h3.trans (.leaveAllClaims .front _ rfl)
  refine (h1.trans h2).trans (.chain (.trans ?_ (.finish _ rfl)))
  exact h4.trans (.retireEmpties _ _ rfl)

theorem flashLinkReset (h : exec .flashLinkReset s = .next t) (hv : s.service ≠ .adopting) :
    s.Turns .flashLinkReset t := by
  cases h
  have h1 := clearLink (c := .flashLinkReset) .flash s
  unfold State.flashReset
  split
  · unfold State.flashResetServing
    have hc : (s.clearLink .flash).contexts = s.contexts := rfl
    rw [← hc]
    generalize s.clearLink .flash = u at h1 ⊢
    have h2 : State.Becomes (licenceOf .flashLinkReset) u
        { u with flashOwed := [], contexts := u.contexts.map Context.dropMark } :=
      (State.Becomes.withFlashOwed [] u).trans (.dropMarks ⟨rfl, rfl, rfl⟩ _)
    exact h1.trans (.chain ((((h2.trans (.abortMovesOf ⟨rfl, rfl, rfl⟩ .flash .freedSilently (.inr rfl) _)).trans
      (.liftFences rfl _)).trans (.leaveAllClaims .flash _ rfl)).trans (.finish _ rfl)))
  · exact absurd ‹_› hv
  · exact h1

theorem diskLinkReset (h : exec .diskLinkReset s = .next t) : s.Turns .diskLinkReset t := by
  cases h
  have h1 := clearLink (c := .diskLinkReset) .disk s
  have h2 (u : State) : u.Turns .diskLinkReset { u with spindle := .down, bgWindow := .opened } :=
    .base { spindle := fun k => absurd rfl k, bgWindow := fun k => absurd rfl k }
  unfold State.diskReset
  split
  · unfold State.diskResetServing
    generalize s.clearLink .disk = u at h1 ⊢
    have h3 := (State.Becomes.withDiskOwed (L := licenceOf .diskLinkReset) [] u).trans
      (.abortMovesOf ⟨rfl, rfl, rfl⟩ .disk .freed (.inl rfl) _)
    refine (h1.trans (.chain h3)).trans ?_
    generalize State.abortMovesOf .disk .freed { u with diskOwed := [] } = v
    refine (h2 v).trans (.chain (.trans ?_ (.finish _ rfl)))
    refine .trans (.trans (.ofLight (t := { v with spindle := .down, bgWindow := .opened, adviceTimer := none }) .of)
      (.ofEnd (t := { v with
        spindle := .down, bgWindow := .opened, adviceTimer := none, adviceSent := false }) .of)) ?_
    exact (State.Becomes.leaveAllClaims .disk _ rfl).trans (.ofEnd .of)
  · exact h1.trans (h2 _)
  · exact h1.trans (h2 _)

/-! ### Routes -/

theorem classified (q : Parked) (s : State) (hc : isRouting c = true) : s.Turns c (s.classified q) := by
  rw [State.classified_eq]
  exact .base { streams := fun k => by simp [hc] at k }

theorem routed (q : Parked) (s : State) (hc : isRouting c = true) (hL : (licenceOf c).Routes) :
    s.Turns c (s.routed q) :=
  (classified q s hc).trans (.chain (.routed hL q s))

theorem route {tag kind lba count : Nat} (h : exec (.route tag kind lba count) s = .next t) :
    s.Turns (.route tag kind lba count) t := by
  refine ofTake h fun ws _ => ?_
  generalize s.popFifo .front = u
  unfold State.takeRoute
  split
  · exact place _ _ u
  · rename_i hv
    split
    · exact place _ _ u
    · split
      · exact place _ _ u
      · split
        · split
          · rename_i hp
            refine .base { parked := fun k => by simp [isRouting] at k, parkedLength := fun _ => ?_,
                           parkedUnserved := fun k => ?_ }
            · simp only [List.length_append, List.length_singleton]
              exact hp
            · exact absurd (by simpa [State.isServing] using hv) k
          · exact place _ _ u
        · exact routed _ u rfl ⟨rfl, rfl, rfl, rfl, rfl⟩

theorem parkedRouteReadmit (h : exec .parkedRouteReadmit s = .next t) : s.Turns .parkedRouteReadmit t := by
  simp only [exec, execParkedRouteReadmit] at h
  split at h
  · rename_i q _
    cases h
    have h1 : s.Turns .parkedRouteReadmit { s with parked := s.parked.erase q } :=
      .base { parked := fun k => by simp [isRouting] at k
              parkedLength := fun k => (List.length_erase_le).trans k
              parkedUnserved := fun _ k => by show s.parked.erase q = []; rw [k]; rfl }
    exact (h1.trans (routed _ _ rfl ⟨rfl, rfl, rfl, rfl, rfl⟩)).trans (advance _ _)
  · cases h
    exact refl s

theorem done {tag outcome : Nat} (h : exec (.done tag outcome) s = .next t) : s.Turns (.done tag outcome) t :=
  ofTake h fun _ _ => .chain (.takeDone ⟨rfl, rfl, rfl, rfl⟩ tag outcome _)

/-! ### The scheduler -/

theorem flushAll (h : exec .flushAll s = .next t) : s.Turns .flushAll t := by
  refine ofTake h fun ws _ => ?_
  generalize s.popFifo .front = u
  unfold State.takeFlushAll
  split
  · exact answer _ _ _ _ _ u
  · split
    · exact answer _ _ _ _ _ u
    · refine (State.Turns.chain (.markDirty u)).trans ((answer .front 0x05 .ok ws [word u.dirtyResidents] _).trans ?_)
      exact .chain (((State.Becomes.ofEnd .of).trans (.endDrain _)).trans (.demandFor _ _))

theorem retryStuck (h : exec .retryStuck s = .next t) : s.Turns .retryStuck t := by
  refine ofTake h fun ws _ => ?_
  generalize s.popFifo .front = u
  unfold State.takeRetryStuck
  split
  · exact answer _ _ _ _ _ u
  · exact (State.Turns.chain (.flag u _ fun r => .retried r)).trans (answer _ _ _ _ _ _)

theorem turnSpindle (old : Spindle) (s : State) : s.Turns c (s.turnSpindle old) := by
  have hd : s.Turns c s.dropDemands := .chain (.ofLight .of)
  unfold State.turnSpindle
  split
  · split
    · exact hd
    · exact hd.trans (.chain (.trans (.ofEnd .of) (.armAdvice _)))
  · split
    · exact .chain (.trans (.ofLight (t := { s with adviceTimer := none, diskOwed := without .advice s.diskOwed }) .of)
        (.ofEnd .of))
    · exact refl s

theorem spindle {x : Nat} (h : exec (.spindle x) s = .next t) : s.Turns (.spindle x) t := by
  refine ofTake h fun ws _ => ?_
  generalize s.popFifo .disk = u
  unfold State.takeSpindle
  split
  · exact answer _ _ _ _ _ u
  · rename_i y _
    have h1 : u.Turns (.spindle x) { u with spindle := y } := .base { spindle := fun _ k => absurd rfl (k x) }
    have h2 := h1.trans (answer .disk 0x10 .ok ws [word y.value] _)
    dsimp only
    split
    · refine h2.trans ?_
      unfold State.followSpindle
      refine (turnSpindle u.spindle _).trans ?_
      refine .trans ?_ (.chain (.demandAll _))
      split
      · exact .chain (.ofEnd .of)
      · exact refl _
    · exact h2

theorem window {x : Nat} (h : exec (.window x) s = .next t) : s.Turns (.window x) t := by
  refine ofTake h fun ws _ => ?_
  generalize s.popFifo .disk = u
  unfold State.takeBgWindow
  split
  · exact answer _ _ _ _ _ u
  · exact .trans (.base { bgWindow := fun _ k => absurd rfl (k x) }) (answer _ _ _ _ _ _)

theorem adviceTimerExpiry (h : exec .adviceTimerExpiry s = .next t) : s.Turns .adviceTimerExpiry t := by
  simp only [exec, execAdviceTimerExpiry] at h
  split at h
  · cases h
    exact refl s
  · cases h
    have h1 : State.Becomes (licenceOf .adviceTimerExpiry) s { s with adviceTimer := none } := .ofLight .of
    unfold State.adviceExpiry
    split
    · exact .chain ((h1.trans (.ofEnd .of)).trans (.produceAdvice _))
    · exact .chain (h1.trans (.armAdvice _))

theorem startEvent (h : exec .startEvent s = .next t) : s.Turns .startEvent t := by
  simp only [exec, execStartEvent] at h
  split at h
  · cases h
    exact refl s
  · rename_i i hi
    cases h
    refine .chain (.trans (.startMove ⟨⟨rfl, rfl, rfl⟩, rfl⟩ rfl i s ?_) (.finish _ rfl))
    exact State.startContext_idle hi

end State.Turns

end Sys2Proof.Machine
end

section
/-! SUPPORT. The commands that rebuild a part of the state: the resets to nothing, GEOMETRY, ADOPT, UNFENCE, and the age
sweep. -/

namespace Sys2Proof.Machine

/-! ### States with nothing on the map -/

/-- Nothing is on the map. -/
structure State.Bare (s : State) : Prop where
  records : s.records = []
  watch : s.watch = []
  touch : s.touch = []
  free : s.free = []
  fences : s.fences = []
  dirtyList : s.dirtyList = []
  parked : s.parked = []
  sizes : s.sizes = none
  clean : ∀ b, s.clean.get b = []
  contexts : s.Still
  epoch : s.epoch < 65536

section
variable {t : State} (h : t.Bare)
include h

theorem State.Bare.recordsLawful : t.RecordsLawful :=
  ⟨by simp [h.records], by simp [h.watch], h.epoch, by simp [h.records], by simp [h.dirtyList]⟩

theorem State.Bare.listsFiled : t.ListsFiled :=
  ⟨by simp [h.records], by simp [h.dirtyList], by simp [h.dirtyList, h.records], by simp [h.clean],
    by simp [h.clean, h.records]⟩

theorem State.Bare.movesMatched : t.MovesMatched := by
  refine ⟨by simp [h.records], fun c m hc => ?_, fun c m hc => ?_, fun c d _ e hc => ?_⟩
  · rw [h.contexts c] at hc; cases hc
  · rw [h.contexts c] at hc; cases hc
  · rw [h.contexts c] at hc; cases hc

theorem State.Bare.heatOnce : t.HeatOnce :=
  ⟨by simp [h.watch], by simp [h.watch], by simp [h.watch, h.touch],
    fun _ => ⟨h.watch, h.parked, h.contexts, by simp [h.records]⟩⟩

theorem State.Bare.slotsAccounted : t.SlotsAccounted :=
  ⟨by simp [h.free, h.fences, h.records, State.slots, h.sizes], by simp [h.records], fun _ => h.sizes,
    fun _ => ⟨h.fences, h.contexts⟩⟩

theorem State.Bare.ascending : t.Ascending :=
  ⟨by simp [h.free], by simp [h.records], by simp [h.watch], by simp [h.watch]⟩

/-- A reset to nothing upholds the laws of the map. -/
theorem State.Bare.upholds {s : State} (hg : s.settings.InRange → t.settings.InRange) : s.Upholds t where
  settings := hg
  records _ _ := h.recordsLawful
  lists _ := h.listsFiled
  moves _ _ := h.movesMatched
  heat _ := h.heatOnce
  slots _ := h.slotsAccounted
  order _ _ _ := h.ascending

end

theorem Vector.replicate_idle (c : Fin 4) : (Vector.replicate 4 Context.idle)[c] = .idle := by simp

theorem State.poweredOn_bare (s : State) : s.poweredOn.Bare :=
  ⟨rfl, rfl, rfl, rfl, rfl, rfl, rfl, rfl, fun b => by cases b <;> rfl, Vector.replicate_idle, Nat.zero_lt_succ _⟩

theorem State.flashResetAdopting_bare (s : State) : s.flashResetAdopting.Bare :=
  ⟨rfl, rfl, rfl, rfl, rfl, rfl, rfl, rfl, fun b => by cases b <;> rfl, Vector.replicate_idle, Nat.zero_lt_succ _⟩

theorem Settings.defaults_inRange : Settings.defaults.InRange := by
  constructor <;> decide

theorem PolicyWindow.off_inRange : PolicyWindow.off.InRange := by
  constructor <;> decide

theorem State.poweredOn_upholds (s : State) : s.Upholds s.poweredOn :=
  s.poweredOn_bare.upholds fun _ => Settings.defaults_inRange

theorem State.claimsLawful_of_free {s : State} (h : s.claims = Vector.replicate 8 none) : s.ClaimsLawful := by
  intro i c hc
  rw [h] at hc
  simp at hc

theorem State.poweredOn_confines (s : State) : s.Confines s.poweredOn where
  settings _ := by
    refine ⟨Settings.defaults_inRange, nofun, fun hv => absurd rfl hv, fun w hw => ?_⟩
    have : w = .off := by
      have : w ∈ (Vector.replicate 8 PolicyWindow.off).toList := hw
      simpa using this
    exact this ▸ PolicyWindow.off_inRange
  capacity _ _ := by
    refine ⟨⟨fun p => ?_, fun p => ?_, Nat.zero_le _, Nat.zero_le _, ?_, State.claimsLawful_of_free rfl⟩,
      State.Turns.zero_bounded⟩
    · cases p <;> exact Nat.zero_le _
    · cases p <;> exact Nat.zero_le _
    · show 0 < s.poweredOn.slots + 4096
      omega

theorem State.flashResetAdopting_upholds (s : State) : s.Upholds s.flashResetAdopting :=
  s.flashResetAdopting_bare.upholds id

theorem State.flashResetAdopting_confines (s : State) : s.Confines s.flashResetAdopting where
  settings x := ⟨x.settings, nofun, fun hv => absurd rfl hv, x.windows⟩
  capacity x y := by
    refine ⟨⟨fun p => ?_, fun p => ?_, Nat.zero_le _, Nat.zero_le _, ?_, State.claimsLawful_of_free rfl⟩, y⟩
    · cases p with
      | front => exact x.fifo .front
      | flash => exact Nat.zero_le _
      | disk => exact x.fifo .disk
    · cases p with
      | front => exact x.out .front
      | flash => exact Nat.zero_le _
      | disk => exact x.out .disk
    · show 0 < s.flashResetAdopting.slots + 4096
      omega

/-! ### GEOMETRY -/

/-- The state after GEOMETRY has set S, before its answer (R160). -/
def State.sizedTo (n : Nat) (s : State) : State :=
  { s with sizes := some (Sizes.ofSlots n), free := List.range n, cursor := 0, service := .adopting }

theorem Sizes.ofSlots_inRange {n : Nat} (h1 : 256 ≤ n) (h2 : n ≤ 65536) : (Sizes.ofSlots n).InRange := by
  refine ⟨⟨h1, h2⟩, ?_, ?_, ?_, ?_⟩ <;> simp only [Sizes.ofSlots] <;> omega

theorem State.sizedTo_upholds {s : State} (n : Nat) (hv : s.service = .cold) : s.Upholds (s.sizedTo n) where
  settings := id
  records _ x := ⟨x.records, x.watch, x.epoch, x.extents, x.dirtyList⟩
  lists x := x.of_same rfl rfl rfl
  moves _ x := x.of_same rfl rfl
  heat x := ⟨x.once, x.apart, x.touch, fun _ => x.unserved (by simp [hv])⟩
  slots x := by
    have hb := x.balance
    have h0 : s.slots = 0 := by simp [State.slots, x.cold hv]
    rw [h0, List.range_zero, List.perm_nil, List.append_eq_nil_iff, List.append_eq_nil_iff] at hb
    obtain ⟨⟨-, hf⟩, hr⟩ := hb
    refine ⟨?_, x.extents, nofun, fun _ => x.unserved (by simp [hv])⟩
    show (List.range n ++ s.fences.map (·.slot) ++ s.records.map (·.slot)).Perm (List.range n)
    simp [hf, hr]
  order _ _ z := ⟨List.pairwise_lt_range, z.records, z.watch, z.places⟩

theorem State.sizedTo_confines {s : State} {n : Nat} (h1 : 256 ≤ n) (h2 : n ≤ 65536) : s.Confines (s.sizedTo n) where
  settings x := ⟨x.settings, fun z hz => Option.some.inj hz ▸ Sizes.ofSlots_inRange h1 h2, fun _ => nofun, x.windows⟩
  capacity x y := ⟨⟨x.fifo, x.out, x.parked, x.promo, by show 0 < _ + 4096; omega, x.claims⟩, y⟩

/-- What taking a GEOMETRY does: an answer, or S and then an answer. -/
theorem State.takeGeometry_cases (slots : Nat) (ws : List Word) (s : State) :
    (∃ code vs, s.takeGeometry slots ws = s.answer .flash 0x0B code ws vs) ∨
    (s.service = .cold ∧ ∃ n vs, 256 ≤ n ∧ n ≤ 65536 ∧
      s.takeGeometry slots ws = (s.sizedTo n).answer .flash 0x0B .ok ws vs) := by
  unfold State.takeGeometry
  split
  · exact .inl ⟨_, _, rfl⟩
  · rename_i hv
    split
    · exact .inl ⟨_, _, rfl⟩
    · rename_i hm
      refine .inr ⟨by simpa using hv, min slots Config.maxSlots, _, ?_, Nat.min_le_right _ _, rfl⟩
      unfold Config.minSlots at hm
      unfold Config.maxSlots
      omega

/-! ### ADOPT -/

/-- What an accepted ADOPT is: its record enters in a slot below S that no record is in (R162, R163). -/
structure State.Adopts (s : State) (x : Resident) : Prop where
  adopting : s.service = .adopting
  slot : x.slot < s.slots
  unoccupied : ∀ r ∈ s.records, r.slot ≠ x.slot
  absent : s.residentOf x.extent = none
  apart : x.LostApart
  filled : x.isEmpty = false
  lawful : s.settings.InRange → s.epoch < 65536 → x.Lawful

theorem State.takeAdopt_cases (e n : Nat) (v d l : SegSet) (ws : List Word) (s : State) :
    (∃ code, s.takeAdopt e n v d l ws = s.answer .flash 0x0C code ws []) ∨
    ∃ x, s.Adopts x ∧ s.takeAdopt e n v d l ws = ((s.takeSlot x.slot).enter x).answer .flash 0x0C .ok ws [] := by
  unfold State.takeAdopt
  split
  · exact .inl ⟨_, rfl⟩
  · rename_i hv
    split
    · exact .inl ⟨_, rfl⟩
    · rename_i ha
      split
      · exact .inl ⟨_, rfl⟩
      · rename_i hr
        have ha : s.adoptable e n v d l = true := by simpa using ha
        simp only [State.adoptable, Bool.and_eq_true, decide_eq_true_eq, beq_iff_eq, Bool.not_eq_true'] at ha
        obtain ⟨⟨⟨⟨-, hn⟩, hd⟩, hl⟩, hne⟩ := ha
        simp only [Bool.or_eq_true, not_or, Option.isSome_iff_ne_none, ne_eq, not_not] at hr
        refine .inr ⟨s.adoptedRecord e n v d l, ⟨by simpa using hv, hn, ?_, hr.1, hl, ?_, fun hg he => ?_⟩, rfl⟩
        · intro r hm
          have : r.slot ≠ n := by simpa using List.find?_eq_none.1 hr.2 r hm
          exact this
        · rw [Resident.isEmpty, Bool.and_eq_false_iff]
          simpa only [State.adoptedRecord, Bool.and_eq_false_iff] using hne
        · refine ⟨hd, fun _ => ⟨rfl, rfl, rfl⟩, Nat.zero_le _, nofun, ⟨?_, Nat.zero_le _, he⟩⟩
          have := hg.bands
          show s.settings.t1 ≤ 65535
          omega

theorem State.Adopts.upholds {s : State} {x : Resident} (h : s.Adopts x) :
    s.Upholds ((s.takeSlot x.slot).enter x) where
  settings := id
  records hg y := by
    have h1 : (s.takeSlot x.slot).RecordsLawful := ⟨y.records, y.watch, y.epoch, y.extents, y.dirtyList⟩
    exact h1.enter h.absent (h.lawful hg y.epoch)
  lists y := by
    have h1 : (s.takeSlot x.slot).ListsFiled := y.of_same rfl rfl rfl
    exact h1.enter h.absent
  moves _ y := y.enter h.absent h.apart (y.leave_of_absent h.absent).fit rfl rfl
  heat y := by
    have hv : s.service ≠ .serving := by simp [h.adopting]
    obtain ⟨k1, k2, k3, k4⟩ := y.unserved hv
    refine ⟨y.once, fun w hw => ?_, y.touch, fun _ => ⟨k1, k2, k3, fun r hr => ?_⟩⟩
    · rw [show ((s.takeSlot x.slot).enter x).watch = s.watch from rfl, k1] at hw
      cases hw
    · rcases (mem_insertBy _ x r s.records).1 hr with rfl | hr
      · exact h.filled
      · exact k4 r hr
  slots y := by
    have hv : s.service ≠ .serving := by simp [h.adopting]
    have hb := State.balanced_iff.2 y.balance
    have hfree : x.slot ∈ s.free :=
      hb.mem_free h.slot (by rw [(y.unserved hv).1]; exact nofun) h.unoccupied
    refine ⟨State.balanced_iff.1 fun n => ?_, ?_, y.cold, y.unserved⟩
    · rw [State.slotCount_enter, ← State.slotCount_takeSlot hb.free_nodup hfree]
      exact hb n
    · refine ((insertBy_perm (·.slot) x s.records).map (·.extent)).nodup_iff.2 (List.nodup_cons.2 ⟨?_, y.extents⟩)
      simpa using fun r hr => State.residentOf_eq_none.1 h.absent r hr
  order _ _ z := ⟨z.free.filter _, insertBy_pairwise (·.slot) x s.records z.records h.unoccupied, z.watch, z.places⟩

theorem State.Adopts.confines {s : State} (x : Resident) : s.Confines ((s.takeSlot x.slot).enter x) :=
  ((State.takeSlot_keeps _ s).trans (State.enter_keeps x _)).confines id

/-! ### UNFENCE -/

theorem filter_ne_slot {l : List Fence} {n : Nat} (h : (l.map (·.slot)).count n ≤ 1) {f : Fence} (hf : f ∈ l)
    (hn : f.slot = n) : l.filter (fun g => g.slot ≠ n) = l.erase f := by
  induction l with
  | nil => cases hf
  | cons g l ih =>
    rw [List.map_cons, List.count_cons] at h
    by_cases hg : g.slot = n
    · have h0 : (l.map (·.slot)).count n = 0 := by simp only [hg, beq_self_eq_true, if_true] at h; omega
      have hno : ∀ y ∈ l, y.slot ≠ n := by simpa using List.count_eq_zero.1 h0
      have hgf : g = f := by
        rcases List.mem_cons.1 hf with k | k
        · exact k.symm
        · exact absurd hn (hno f k)
      subst hgf
      rw [List.erase_cons_head, List.filter_cons_of_neg (by simp [hg])]
      exact List.filter_eq_self.2 fun y hy => by simpa using hno y hy
    · have hgf : g ≠ f := fun k => hg (k ▸ hn)
      have hf' : f ∈ l := (List.mem_cons.1 hf).resolve_left (Ne.symm hgf)
      rw [List.filter_cons_of_pos (by simpa using hg), List.erase_cons_tail (by simpa using hgf),
        ih (by simpa [hg] using h) hf']

/-- An UNFENCE with the slots in one place lifts one fence. -/
theorem State.unfenceSlot_becomes {L : Licence} {s : State} (n : Nat) (hs : ∀ n, s.slotCount n ≤ 1)
    (hF : L.fences = true) : State.Becomes L s (s.unfenceSlot n) := by
  unfold State.unfenceSlot
  split
  · rename_i ha
    obtain ⟨f, hf, hfn⟩ := List.any_eq_true.1 ha
    have hfn' : f.slot = n := by simpa using hfn
    have hc : (s.fences.map (·.slot)).count n ≤ 1 := by
      have := hs n
      unfold State.slotCount at this
      omega
    rw [filter_ne_slot hc hf hfn']
    exact hfn' ▸ State.Becomes.lift s f hf hF
  · exact .refl s

theorem State.unfenceSlot_eq (n : Nat) (s : State) :
    s.unfenceSlot n = { s with fences := (s.unfenceSlot n).fences, free := (s.unfenceSlot n).free } := by
  unfold State.unfenceSlot
  split <;> rfl

theorem State.unfenceSlot_upholds (n : Nat) (s : State) : s.Upholds (s.unfenceSlot n) where
  settings := by rw [State.unfenceSlot_eq]; exact id
  records _ x := by rw [State.unfenceSlot_eq]; exact ⟨x.records, x.watch, x.epoch, x.extents, x.dirtyList⟩
  lists x := by rw [State.unfenceSlot_eq]; exact x.of_same rfl rfl rfl
  moves _ x := by rw [State.unfenceSlot_eq]; exact x.of_same rfl rfl
  heat x := by rw [State.unfenceSlot_eq]; exact ⟨x.once, x.apart, x.touch, x.unserved⟩
  slots x := (State.unfenceSlot_becomes (L := { fences := true }) n x.slotCount_le rfl).slotsAccounted x
  order x y z := ((State.unfenceSlot_becomes (L := { fences := true }) n x.slotCount_le rfl).upholds (.inl rfl)).order x y z

/-! ### The age sweep -/

theorem State.adjustPromo_eq (e : Nat) (b : Bool) (s : State) :
    s.adjustPromo e b = { s with promo := (s.adjustPromo e b).promo } := by
  unfold State.adjustPromo
  split
  · split
    · rfl
    · split <;> rfl
  · rfl

/-- A state without what a visit of the sweep changes: heat, the lists that follow it, and the cursor. -/
def State.unswept (s : State) : State :=
  { s with records := [], clean := { b0 := [], b1 := [], b2 := [], b3 := [] }, dirtyList := [], watch := [], promo := []
           cursor := 0 }

theorem State.sweepPlace_unswept (p : Nat) (s : State) : (s.sweepPlace p).unswept = s.unswept := by
  unfold State.sweepPlace
  split
  · split
    · rw [State.examineResident, State.adjustPromo_eq]
      rfl
    · rfl
  · split
    · rw [State.examineWatched, State.adjustPromo_eq]
      rfl
    · rfl

theorem State.sweep_unswept (n : Nat) (s : State) : (State.sweep n s).unswept = s.unswept := by
  induction n generalizing s with
  | zero => rfl
  | succ n ih => exact (ih _).trans (State.sweepPlace_unswept s.cursor s)

section
variable {s t : State} (h : t.unswept = s.unswept)
include h

theorem State.unswept_settings : t.settings = s.settings :=
  (congrArg State.settings h : t.unswept.settings = s.unswept.settings)
theorem State.unswept_claims : t.claims = s.claims :=
  (congrArg State.claims h : t.unswept.claims = s.unswept.claims)
theorem State.unswept_sizes : t.sizes = s.sizes :=
  (congrArg State.sizes h : t.unswept.sizes = s.unswept.sizes)
theorem State.unswept_contexts : t.contexts = s.contexts :=
  (congrArg State.contexts h : t.unswept.contexts = s.unswept.contexts)
theorem State.unswept_free : t.free = s.free :=
  (congrArg State.free h : t.unswept.free = s.unswept.free)
theorem State.unswept_fences : t.fences = s.fences :=
  (congrArg State.fences h : t.unswept.fences = s.unswept.fences)
theorem State.unswept_routes : t.routes = s.routes :=
  (congrArg State.routes h : t.unswept.routes = s.unswept.routes)
theorem State.unswept_tickets : t.tickets = s.tickets :=
  (congrArg State.tickets h : t.unswept.tickets = s.unswept.tickets)
theorem State.unswept_service : t.service = s.service :=
  (congrArg State.service h : t.unswept.service = s.unswept.service)
theorem State.unswept_windows : t.windows = s.windows :=
  (congrArg State.windows h : t.unswept.windows = s.unswept.windows)
theorem State.unswept_spindle : t.spindle = s.spindle :=
  (congrArg State.spindle h : t.unswept.spindle = s.unswept.spindle)
theorem State.unswept_bgWindow : t.bgWindow = s.bgWindow :=
  (congrArg State.bgWindow h : t.unswept.bgWindow = s.unswept.bgWindow)
theorem State.unswept_streams : t.streams = s.streams :=
  (congrArg State.streams h : t.unswept.streams = s.unswept.streams)
theorem State.unswept_streamUse : t.streamUse = s.streamUse :=
  (congrArg State.streamUse h : t.unswept.streamUse = s.unswept.streamUse)
theorem State.unswept_parked : t.parked = s.parked :=
  (congrArg State.parked h : t.unswept.parked = s.unswept.parked)
theorem State.unswept_lastKind : t.lastKind = s.lastKind :=
  (congrArg State.lastKind h : t.unswept.lastKind = s.unswept.lastKind)

theorem State.unswept_slots : t.slots = s.slots := by rw [State.slots, State.slots, State.unswept_sizes h]

end

theorem State.residentIn_mem {s : State} {p : Nat} {r : Resident} (h : s.residentIn p = some r) : r ∈ s.records :=
  List.mem_of_find?_eq_some h

/-- A visit of the sweep is a chain of updates, where no two records are of one extent. -/
theorem State.Becomes.sweepPlace {L : Licence} (p : Nat) (s : State) (hn : (s.records.map (·.extent)).Nodup) :
    State.Becomes L s (s.sweepPlace p) := by
  unfold State.sweepPlace
  split
  · split
    · rename_i r hr
      exact examineResident 0 r s (State.residentOf_of_mem hn (State.residentIn_mem hr))
    · exact .refl s
  · split
    · rename_i x hx
      exact examineWatched 0 x s (List.mem_of_find?_eq_some hx)
    · exact .refl s

theorem State.sweepPlace_extents (p : Nat) (s : State) :
    (s.sweepPlace p).records.map (·.extent) = s.records.map (·.extent) := by
  unfold State.sweepPlace
  split
  · split
    · rename_i r _
      rw [State.examineResident, State.adjustPromo_eq]
      exact State.store_extents (catchUpEnd r (s.caughtUpRecord 0 r)) (s.caughtUpRecord 0 r) s
    · rfl
  · split
    · rw [State.examineWatched, State.adjustPromo_eq]
      rfl
    · rfl

/-- The sweep's turn, where no two records are of one extent. -/
theorem State.Turns.sweep (n : Nat) (s : State) (hn : (s.records.map (·.extent)).Nodup) :
    s.Turns .epochTimerExpiry (State.sweep n s) := by
  induction n generalizing s with
  | zero => exact refl s
  | succ n ih =>
    have hk := State.unswept_slots (State.sweepPlace_unswept s.cursor s)
    refine (State.Turns.chain (.sweepPlace s.cursor s hn)).trans ?_
    refine .trans (t := { s.sweepPlace s.cursor with cursor := (s.cursor + 1) % (s.slots + Config.watchPlaces) })
      (.base { cursor := fun k => absurd rfl k, cursorInRange := fun _ => ?_ }) (ih _ ?_)
    · rw [hk]
      exact Nat.mod_lt _ (Nat.lt_of_lt_of_le (by decide : 0 < Config.watchPlaces) (Nat.le_add_left _ _))
    · show ((s.sweepPlace s.cursor).records.map (·.extent)).Nodup
      rw [State.sweepPlace_extents]
      exact hn

theorem State.HeatOnce.examineResident {s : State} (h : s.HeatOnce) (w : Nat) {r : Resident} (hr : r ∈ s.records) :
    (s.examineResident w r).HeatOnce := by
  have key : (s.store (catchUpEnd r (s.caughtUpRecord w r)) (s.caughtUpRecord w r)).HeatOnce := by
    have hx := State.store_extents (catchUpEnd r (s.caughtUpRecord w r)) (s.caughtUpRecord w r) s
    refine ⟨h.once, fun x hx' y hy k => ?_, h.touch, fun hv => ?_⟩
    · obtain ⟨z, hz, hze⟩ := List.mem_map.1 (hx ▸ List.mem_map.2 ⟨y, hy, rfl⟩ : y.extent ∈ s.records.map (·.extent))
      exact h.apart x hx' z hz (k.trans hze.symm)
    · obtain ⟨k1, k2, k3, k4⟩ := h.unserved hv
      refine ⟨k1, k2, k3, fun y hy => ?_⟩
      rcases State.mem_store hy with rfl | ⟨hy, -⟩
      · rw [Resident.settled_isEmpty]
        exact k4 r hr
      · exact k4 y hy
  unfold State.examineResident
  exact key.congr (State.tables_of_solid (State.adjustPromo_solid _ _ _))

theorem State.HeatOnce.sweepPlace {s : State} (h : s.HeatOnce) (p : Nat) : (s.sweepPlace p).HeatOnce := by
  unfold State.sweepPlace
  split
  · split
    · exact h.examineResident 0 (State.residentIn_mem ‹_›)
    · exact h
  · split
    · rename_i x hx
      exact (State.Becomes.examineWatched (L := {}) 0 x s (List.mem_of_find?_eq_some hx)).heatOnce (.inl rfl) h
    · exact h

theorem State.HeatOnce.sweep {s : State} (h : s.HeatOnce) (n : Nat) : (State.sweep n s).HeatOnce := by
  induction n generalizing s with
  | zero => exact h
  | succ n ih =>
    have h1 := h.sweepPlace s.cursor
    exact ih (s := { s.sweepPlace s.cursor with cursor := (s.cursor + 1) % (s.slots + Config.watchPlaces) })
      ⟨h1.once, h1.apart, h1.touch, h1.unserved⟩

theorem State.sweep_confines (n : Nat) (s : State) : s.Confines (State.sweep n s) := by
  induction n generalizing s with
  | zero => exact .refl s
  | succ n ih =>
    have hk := State.sweepPlace_keeps s.cursor s
    refine (hk.confines fun x => ?_).trans ((State.Rebases.confines (c := .epochTimerExpiry) ?_).trans (ih _))
    · unfold State.ClaimsLawful
      rw [State.unswept_claims (State.sweepPlace_unswept s.cursor s)]
      exact x
    · refine { cursor := fun k => absurd rfl k, cursorInRange := fun _ => ?_ }
      rw [State.unswept_slots (State.sweepPlace_unswept s.cursor s)]
      exact Nat.mod_lt _ (Nat.lt_of_lt_of_le (by decide : 0 < Config.watchPlaces) (Nat.le_add_left _ _))

/-- The state as the epoch timer's expiry leaves it before the sweep (R34, R35). -/
theorem State.Turns.nextEpoch (s : State) :
    s.Rebases .epochTimerExpiry
      { s with epoch := (s.epoch + 1) % Config.wrap16, epochTimer := some s.settings.epochLen } :=
  { epoch := fun k => absurd rfl k, epochInRange := fun _ => Nat.mod_lt _ (by decide)
    epochTimer := fun k => absurd rfl k }

/-- The turn of the epoch timer's expiry, where no two records are of one extent. -/
theorem State.Turns.epochExpiry {s : State} (hn : (s.records.map (·.extent)).Nodup) :
    s.Turns .epochTimerExpiry s.epochExpiry := by
  unfold State.epochExpiry
  generalize Config.sweepStride = n
  refine (State.Turns.base (State.Turns.nextEpoch s)).trans (.trans ?_ (.retestFill _))
  exact State.Turns.sweep n { s with
    epoch := (s.epoch + 1) % Config.wrap16, epochTimer := some s.settings.epochLen } hn

theorem State.epochExpiry_upholds (s : State) : s.Upholds s.epochExpiry := by
  have hu (hn : (s.records.map (·.extent)).Nodup) : s.Upholds s.epochExpiry :=
    (State.Turns.epochExpiry hn).upholds (.inl rfl)
  exact
    { settings := by
        unfold State.epochExpiry
        generalize Config.sweepStride = n
        intro hg
        refine ((State.Turns.retestFill (c := .epochTimerExpiry) _).upholds (.inl rfl)).settings ?_
        rw [State.unswept_settings (State.sweep_unswept n _)]
        exact hg
      records := fun x y => (hu y.extents).records x y
      lists := fun x => (hu x.extents).lists x
      moves := fun x y => (hu x.extents).moves x y
      heat := fun x => by
        unfold State.epochExpiry
        generalize Config.sweepStride = n
        exact ((State.Turns.retestFill (c := .epochTimerExpiry) _).upholds (.inl rfl)).heat
          (((State.Turns.nextEpoch s).upholds.heat x).sweep n)
      slots := fun x => (hu x.extents).slots x
      order := fun x y z => (hu x.extents).order x y z }

theorem State.epochExpiry_confines (s : State) : s.Confines s.epochExpiry := by
  unfold State.epochExpiry
  generalize Config.sweepStride = n
  exact (State.Turns.nextEpoch s).confines.trans
    ((State.sweep_confines n _).trans (State.Turns.retestFill (c := .epochTimerExpiry) _).confines)

end Sys2Proof.Machine
end

section
/-! PROOFS. What every step upholds, keeps in range, and leaves as it was. -/

namespace Sys2Proof.Machine

/-- The commands that rebuild a part of the state, whose turns are no chains of updates. -/
def rebuilds : Instr → Bool
  | .powerOn => true
  | .restart => true
  | .geometry _ => true
  | .adopt _ _ _ _ _ => true
  | .unfence _ => true
  | .epochTimerExpiry => true
  | _ => false

/-- Every other command's turn, a flash link reset's outside ADOPTING. -/
theorem exec_turns {c : Instr} {s t : State} (h : exec c s = .next t) (hc : rebuilds c = false)
    (hv : c = .flashLinkReset → s.service ≠ .adopting) : s.Turns c t := by
  cases c with
  | powerOn => cases hc
  | restart => cases hc
  | geometry => cases hc
  | adopt => cases hc
  | unfence => cases hc
  | epochTimerExpiry => cases hc
  | inboundFrame => exact .inboundFrame h
  | recordRead => exact .recordRead h
  | malformedEntry => exact .malformedEntry h
  | route => exact .route h
  | parkedRouteReadmit => exact .parkedRouteReadmit h
  | done => exact .done h
  | claim => exact .claim h
  | release => exact .release h
  | flushAll => exact .flushAll h
  | retryStuck => exact .retryStuck h
  | setEpochLen => exact .setEpochLen h
  | setDecay => exact .setDecay h
  | setBands => exact .setBands h
  | setSettle => exact .setSettle h
  | setPromoteBand => exact .setPromoteBand h
  | setWRread => exact .setWRread h
  | setWRwrite => exact .setWRwrite h
  | setWSread => exact .setWSread h
  | setWSwrite => exact .setWSwrite h
  | setWakeBonus => exact .setWakeBonus h
  | setSeqRun => exact .setSeqRun h
  | setWindow => exact .setWindow h
  | setPinLimit => exact .setPinLimit h
  | setAbsorbReserve => exact .setAbsorbReserve h
  | setDirtyHigh => exact .setDirtyHigh h
  | setDirtyLow => exact .setDirtyLow h
  | setOrderTimeout => exact .setOrderTimeout h
  | setAdviceDelay => exact .setAdviceDelay h
  | setFillWake => exact .setFillWake h
  | setProfile => exact .setProfile h
  | query => exact .query h
  | querySummary => exact .querySummary h
  | stats => exact .stats h
  | adoptEnd => exact .adoptEnd h
  | report => exact .report h
  | spindle => exact .spindle h
  | window => exact .window h
  | frontLinkReset => exact .frontLinkReset h
  | flashLinkReset => exact .flashLinkReset h (hv rfl)
  | diskLinkReset => exact .diskLinkReset h
  | orderTimerExpiry => exact .orderTimerExpiry h
  | adviceTimerExpiry => exact .adviceTimerExpiry h
  | startEvent => exact .startEvent h

/-- A relation that holds of a request's taking, of what its block does and of the pointer's move holds of the
command. -/
theorem takeRequest_relates {R : State → State → Prop} (refl : ∀ s, R s s)
    (trans : ∀ {s t u}, R s t → R t u → R s u) (light : ∀ {s t : State}, s.Turns .querySummary t → R s t)
    {p : Port} {d : Instr} {act : List Word → State → State} {s t : State} (h : takeRequest p d act s = .next t)
    (hact : ∀ ws, R (s.popFifo p) (act ws (s.popFifo p))) : R s t := by
  cases ho : s.offered p d with
  | none =>
    rw [takeRequest_waits act ho] at h
    cases h
    exact refl s
  | some ws =>
    rw [takeRequest_offered act ho] at h
    cases h
    exact trans (trans (light (.popFifo p s)) (hact ws)) (light (.advance p _))

/-- Every relation that turns and the rebuilding commands' changes have, every command has. -/
theorem exec_relates {R : State → State → Prop} (refl : ∀ s, R s s) (trans : ∀ {s t u}, R s t → R t u → R s u)
    (light : ∀ {s t : State}, s.Turns .querySummary t → R s t) (poweredOn : ∀ s : State, R s s.poweredOn)
    (sizedTo : ∀ (s : State) (n : Nat), s.service = .cold → 256 ≤ n → n ≤ 65536 → R s (s.sizedTo n))
    (adopts : ∀ (s : State) (x : Resident), s.Adopts x → R s ((s.takeSlot x.slot).enter x))
    (unfences : ∀ (s : State) (n : Nat), R s (s.unfenceSlot n)) (expires : ∀ s : State, R s s.epochExpiry)
    {c : Instr} {s t : State} (h : exec c s = .next t) (hc : rebuilds c = true) : R s t := by
  have answer (p : Port) (k : Nat) (code : Code) (ws vs : List Word) (u : State) : R u (u.answer p k code ws vs) :=
    light (.answer p k code ws vs u)
  cases c with
  | powerOn => cases h; exact poweredOn s
  | restart =>
    simp only [exec, execRestart] at h
    split at h
    · cases h
      exact trans (poweredOn s) (light (.place _ _ _))
    · cases h
      exact refl s
  | geometry n =>
    refine takeRequest_relates refl trans light h fun ws => ?_
    rcases State.takeGeometry_cases n ws (s.popFifo .flash) with ⟨code, vs, k⟩ | ⟨hv, m, vs, h1, h2, k⟩
    · rw [k]; exact answer _ _ _ _ _ _
    · rw [k]; exact trans (sizedTo _ m hv h1 h2) (answer _ _ _ _ _ _)
  | adopt e n v d l =>
    refine takeRequest_relates refl trans light h fun ws => ?_
    rcases State.takeAdopt_cases e n v d l ws (s.popFifo .flash) with ⟨code, k⟩ | ⟨x, hx, k⟩
    · rw [k]; exact answer _ _ _ _ _ _
    · rw [k]; exact trans (adopts _ x hx) (answer _ _ _ _ _ _)
  | unfence n =>
    refine takeRequest_relates refl trans light h fun ws => ?_
    unfold State.takeUnfence
    split
    · exact answer _ _ _ _ _ _
    · split
      · exact answer _ _ _ _ _ _
      · exact trans (answer _ _ _ _ _ _) (unfences _ n)
  | epochTimerExpiry =>
    simp only [exec, execEpochTimerExpiry] at h
    split at h
    · cases h; exact refl s
    · exact Host.Outcome.next.inj h ▸ expires s
  | _ => cases hc

/-- A flash link reset in ADOPTING. -/
theorem exec_flashLinkReset_adopting {s t : State} (h : exec .flashLinkReset s = .next t)
    (hv : s.service = .adopting) : t = s.flashResetAdopting := by
  cases h
  unfold State.flashReset
  split <;> simp_all

/-- Every command keeps the ranges and the capacities. -/
theorem exec_confines {c : Instr} {s t : State} (h : exec c s = .next t) : s.Confines t := by
  by_cases hc : rebuilds c = true
  · exact exec_relates (R := State.Confines) .refl .trans (fun k => k.confines) State.poweredOn_confines
      (fun _ _ _ => State.sizedTo_confines) (fun _ x _ => State.Adopts.confines x)
      (fun s n => (State.unfenceSlot_keeps n s).confines (by rw [State.unfenceSlot_eq]; exact id))
      State.epochExpiry_confines h hc
  · by_cases hv : c = .flashLinkReset ∧ s.service = .adopting
    · obtain ⟨rfl, hv⟩ := hv
      rw [exec_flashLinkReset_adopting h hv]
      exact s.flashResetAdopting_confines
    · exact (exec_turns h (by simpa using hc) fun k x => hv ⟨k, x⟩).confines

/-- Outside SERVING a ROUTE is refused, and no route is parked for a re-admission. -/
theorem exec_route_unserved {c : Instr} {s t : State} (h : exec c s = .next t) (hr : isRouting c = true)
    (hv : s.service ≠ .serving) (hp : s.parked = []) : s.Turns .querySummary t := by
  cases c with
  | route tag kind lba count =>
    refine .ofTake h fun ws _ => ?_
    have : (s.popFifo .front).isServing = false := by simpa [State.isServing] using hv
    rw [State.takeRoute, this]
    exact .place _ _ _
  | parkedRouteReadmit =>
    simp only [exec, execParkedRouteReadmit, State.readmitted, State.readmissible, hp, List.find?_nil, ite_self] at h
    cases h
    exact .refl s
  | _ => cases hr

/-- Every command upholds the laws of the map. -/
theorem exec_upholds {c : Instr} {s t : State} (h : exec c s = .next t) : s.Upholds t := by
  by_cases hc : rebuilds c = true
  · exact exec_relates (R := State.Upholds) .refl .trans (fun k => k.upholds (.inl rfl)) State.poweredOn_upholds
      (fun _ n hv _ _ => State.sizedTo_upholds n hv) (fun _ _ hx => hx.upholds) (fun s n => s.unfenceSlot_upholds n)
      State.epochExpiry_upholds h hc
  · by_cases hv : c = .flashLinkReset ∧ s.service = .adopting
    · obtain ⟨rfl, hv⟩ := hv
      rw [exec_flashLinkReset_adopting h hv]
      exact s.flashResetAdopting_upholds
    · have hT := exec_turns h (by simpa using hc) fun k x => hv ⟨k, x⟩
      by_cases hr : isRouting c = false ∨ s.service = .serving
      · exact hT.upholds hr
      · simp only [not_or, Bool.not_eq_false] at hr
        have hl (x : s.HeatOnce) : s.Upholds t :=
          (exec_route_unserved h hr.1 hr.2 (x.unserved hr.2).2.1).upholds (.inl rfl)
        exact { hT.upholdsMap with heat := fun x => (hl x).heat x, order := fun x y => (hl y).order x y }

/-! ### Steps -/

/-- A step runs the command at the front of the waiting commands, or idles. -/
theorem step_cases {s t : State} (h : step s = .next t) :
    t = s ∨ ∃ c cs, s.pending = c :: cs ∧ exec c { s with pending := cs } = .next t := by
  unfold step at h
  split at h
  · exact .inl (Host.Outcome.next.inj h).symm
  · exact .inr ⟨_, _, ‹_›, h⟩

theorem State.withPending_turns (cs : List Instr) (s : State) : s.Turns .querySummary { s with pending := cs } :=
  .base {}

theorem step_upholds {s t : State} (h : step s = .next t) : s.Upholds t := by
  rcases step_cases h with rfl | ⟨c, cs, -, hx⟩
  · exact .refl _
  · exact ((s.withPending_turns cs).upholds (.inl rfl)).trans (exec_upholds hx)

theorem step_confines {s t : State} (h : step s = .next t) : s.Confines t := by
  rcases step_cases h with rfl | ⟨c, cs, -, hx⟩
  · exact .refl _
  · exact (s.withPending_turns cs).confines.trans (exec_confines hx)

end Sys2Proof.Machine

open Sys2Proof.Machine in
/-- Settles O55: every command's turn is a chain of updates that keep queues, counters and claims within bounds, beside
changes that keep the settings in range. -/
theorem stepKeepsSettingsQueuesAndCountersInRange : Obligations.StepKeepsSettingsQueuesAndCountersInRange :=
  ⟨fun _ _ hs h => (step_confines h).settings hs, fun _ _ hs hb h => (step_confines h).capacity hs hb⟩

open Sys2Proof.Machine in
/-- Settles O56: each update of the chains that make a command's turn keeps the laws of records, lists, moves and
heat. -/
theorem stepKeepsEveryRecordLawful : Obligations.StepKeepsEveryRecordLawful :=
  ⟨fun _ _ hg hs h => (step_upholds h).records hg.settings hs, fun _ _ hs h => (step_upholds h).lists hs,
    fun _ _ hl hs h => (step_upholds h).moves hl hs, fun _ _ hs h => (step_upholds h).heat hs⟩

open Sys2Proof.Machine in
/-- Settles O57: each update of those chains moves a slot from one place to another, and puts it in by order. -/
theorem stepKeepsEverySlotInOnePlace : Obligations.StepKeepsEverySlotInOnePlace :=
  ⟨fun _ _ hs h => (step_upholds h).slots hs, fun _ _ hs hh ho h => (step_upholds h).order hs hh ho⟩
end

section
/-! PROOFS. What each kind of state is changed by. -/

namespace Sys2Proof.Machine

/-- The commands that change nothing but what `c` may. -/
theorem State.Leaves.mono {s t : State} {d : Instr} (h : State.Leaves .querySummary s t) : State.Leaves d s t where
  service _ := h.service nofun
  settings _ := h.settings rfl
  windows _ := h.windows nofun
  sizes _ := h.sizes rfl
  spindle _ _ := h.spindle nofun nofun
  bgWindow _ _ := h.bgWindow nofun nofun
  epoch _ := h.epoch nofun
  epochTimer _ _ := h.epochTimer nofun nofun
  cursor _ := h.cursor nofun
  streams _ := h.streams rfl
  parked _ _ := h.parked rfl nofun
  routes _ := h.routes rfl
  lastKind _ := h.lastKind rfl
  tickets _ := h.tickets rfl
  fences _ := h.fences rfl
  map _ := h.map rfl
  claims _ := h.claims rfl

/-- What each kind of state is changed by, for one command's turn from `s` to `t`. -/
structure State.ChangesOnly (c : Instr) (s t : State) : Prop where
  service : c ≠ .flashLinkReset → c ≠ .adoptEnd → (∀ n, c ≠ .geometry n) → t.service = s.service
  settings : isSet c = false → t.settings = s.settings
  windows : (∀ n base mask policy enable, c ≠ .setWindow n base mask policy enable) → t.windows = s.windows
  sizes : c ≠ .flashLinkReset → isSet c = false → (∀ n, c ≠ .geometry n) → t.sizes = s.sizes
  spindle : c ≠ .diskLinkReset → (∀ x, c ≠ .spindle x) → t.spindle = s.spindle
  bgWindow : c ≠ .diskLinkReset → (∀ x, c ≠ .window x) → t.bgWindow = s.bgWindow
  epoch : c ≠ .flashLinkReset → c ≠ .epochTimerExpiry →
    t.epoch = s.epoch ∧ (c ≠ .adoptEnd → t.epochTimer = s.epochTimer) ∧
      ((∀ n, c ≠ .geometry n) → t.cursor = s.cursor)
  routing : c ≠ .flashLinkReset → isRouting c = false →
    t.streams = s.streams ∧ t.streamUse = s.streamUse ∧ (c ≠ .frontLinkReset → t.parked = s.parked) ∧
      (c ≠ .frontLinkReset → (∀ tag outcome, c ≠ .done tag outcome) → t.routes = s.routes)
  lastKind : c ≠ .flashLinkReset → c ≠ .startEvent → t.lastKind = s.lastKind
  tickets : c ≠ .startEvent → (∀ p, c ≠ .recordRead p) →
    (∀ p ticket context status, c ≠ .report p ticket context status) → t.tickets = s.tickets
  fences : c ≠ .flashLinkReset → (∀ n, c ≠ .unfence n) → (∀ i, c ≠ .orderTimerExpiry i) →
    (∀ p ticket context status, c ≠ .report p ticket context status) → t.fences = s.fences
  map : actsOnMap c = false →
    t.contexts = s.contexts ∧
    ((∀ e n v d l, c ≠ .adopt e n v d l) →
      ((s.records.map (·.extent)).Nodup → ∀ e, t.segmentsOf e = s.segmentsOf e) ∧
        ((∀ n, c ≠ .geometry n) → (∀ n, c ≠ .unfence n) → t.free = s.free)) ∧
    ((∀ p e, c ≠ .claim p e) → (∀ p e, c ≠ .release p e) → t.claims = s.claims)

section
variable {c : Instr} {s t : State}

/-! ### The licences of the commands that are not named -/

theorem licenceOf_routes (h1 : isRouting c = false) (h2 : c ≠ .frontLinkReset) (h3 : ∀ tag outcome, c ≠ .done tag outcome) :
    (licenceOf c).routes = false := by
  cases c with
  | route => cases h1
  | parkedRouteReadmit => cases h1
  | frontLinkReset => exact absurd rfl h2
  | done tag outcome => exact absurd rfl (h3 tag outcome)
  | _ => rfl

theorem licenceOf_starts (h : c ≠ .startEvent) : (licenceOf c).starts = false := by
  cases c with
  | startEvent => exact absurd rfl h
  | _ => rfl

theorem licenceOf_orders (h1 : c ≠ .startEvent) (h2 : ∀ p, c ≠ .recordRead p)
    (h3 : ∀ p ticket context status, c ≠ .report p ticket context status) : (licenceOf c).orders = false := by
  cases c with
  | startEvent => exact absurd rfl h1
  | recordRead p => exact absurd rfl (h2 p)
  | report p a b d => exact absurd rfl (h3 p a b d)
  | _ => rfl

theorem licenceOf_fences (h1 : c ≠ .flashLinkReset) (h2 : ∀ i, c ≠ .orderTimerExpiry i)
    (h3 : ∀ p ticket context status, c ≠ .report p ticket context status) : (licenceOf c).fences = false := by
  cases c with
  | flashLinkReset => exact absurd rfl h1
  | orderTimerExpiry i => exact absurd rfl (h2 i)
  | report p a b d => exact absurd rfl (h3 p a b d)
  | _ => rfl

theorem licenceOf_grants (h1 : actsOnMap c = false) (h2 : ∀ p e, c ≠ .claim p e) (h3 : ∀ p e, c ≠ .release p e) :
    (licenceOf c).grants = false := by
  cases c with
  | claim p e => exact absurd rfl (h2 p e)
  | release p e => exact absurd rfl (h3 p e)
  | _ => first | rfl | cases h1

/-- What a turn leaves as it was, by the names of the commands. -/
theorem State.Leaves.changesOnly (h : State.Leaves c s t) : State.ChangesOnly c s t where
  service _ x _ := h.service x
  settings := h.settings
  windows := h.windows
  sizes _ x _ := h.sizes x
  spindle := h.spindle
  bgWindow := h.bgWindow
  epoch _ x := ⟨h.epoch x, h.epochTimer x, fun _ => h.cursor x⟩
  routing _ x := ⟨(h.streams x).1, (h.streams x).2, h.parked x, fun y z => h.routes (licenceOf_routes x y z)⟩
  lastKind _ x := h.lastKind (licenceOf_starts x)
  tickets x y z := h.tickets (licenceOf_orders x y z)
  fences x _ y z := h.fences (licenceOf_fences x y z)
  map x := ⟨(h.map x).1, fun _ => ⟨fun _ => (h.map x).2.1, fun _ _ => (h.map x).2.2⟩,
    fun y z => h.claims (licenceOf_grants x y z)⟩

/-! ### The rebuilding commands -/

theorem State.Leaves.trans_changesOnly {u : State} (h : State.Leaves .querySummary s t) (k : State.ChangesOnly c t u)
    (hn : t.records = s.records) : State.ChangesOnly c s u where
  service x y z := (k.service x y z).trans (h.service nofun)
  settings x := (k.settings x).trans (h.settings rfl)
  windows x := (k.windows x).trans (h.windows nofun)
  sizes x y z := (k.sizes x y z).trans (h.sizes rfl)
  spindle x y := (k.spindle x y).trans (h.spindle nofun nofun)
  bgWindow x y := (k.bgWindow x y).trans (h.bgWindow nofun nofun)
  epoch x y := by
    obtain ⟨k1, k2, k3⟩ := k.epoch x y
    exact ⟨k1.trans (h.epoch nofun), fun z => (k2 z).trans (h.epochTimer nofun nofun), fun z => (k3 z).trans (h.cursor nofun)⟩
  routing x y := by
    obtain ⟨k1, k2, k3, k4⟩ := k.routing x y
    exact ⟨k1.trans (h.streams rfl).1, k2.trans (h.streams rfl).2, fun z => (k3 z).trans (h.parked rfl nofun),
      fun z w => (k4 z w).trans (h.routes rfl)⟩
  lastKind x y := (k.lastKind x y).trans (h.lastKind rfl)
  tickets x y z := (k.tickets x y z).trans (h.tickets rfl)
  fences x y z w := (k.fences x y z w).trans (h.fences rfl)
  map x := by
    obtain ⟨h1, h2, h3⟩ := h.map rfl
    obtain ⟨k1, k2, k3⟩ := k.map x
    refine ⟨k1.trans h1, fun y => ⟨fun z e => ((k2 y).1 (hn ▸ z) e).trans (h2 e), fun z w => ((k2 y).2 z w).trans h3⟩,
      fun y z => (k3 y z).trans (h.claims rfl)⟩

theorem State.ChangesOnly.trans_leaves {u : State} (k : State.ChangesOnly c s t) (h : State.Leaves .querySummary t u) :
    State.ChangesOnly c s u where
  service x y z := (h.service nofun).trans (k.service x y z)
  settings x := (h.settings rfl).trans (k.settings x)
  windows x := (h.windows nofun).trans (k.windows x)
  sizes x y z := (h.sizes rfl).trans (k.sizes x y z)
  spindle x y := (h.spindle nofun nofun).trans (k.spindle x y)
  bgWindow x y := (h.bgWindow nofun nofun).trans (k.bgWindow x y)
  epoch x y := by
    obtain ⟨k1, k2, k3⟩ := k.epoch x y
    exact ⟨(h.epoch nofun).trans k1, fun z => (h.epochTimer nofun nofun).trans (k2 z), fun z => (h.cursor nofun).trans (k3 z)⟩
  routing x y := by
    obtain ⟨k1, k2, k3, k4⟩ := k.routing x y
    exact ⟨(h.streams rfl).1.trans k1, (h.streams rfl).2.trans k2, fun z => (h.parked rfl nofun).trans (k3 z),
      fun z w => (h.routes rfl).trans (k4 z w)⟩
  lastKind x y := (h.lastKind rfl).trans (k.lastKind x y)
  tickets x y z := (h.tickets rfl).trans (k.tickets x y z)
  fences x y z w := (h.fences rfl).trans (k.fences x y z w)
  map x := by
    obtain ⟨h1, h2, h3⟩ := h.map rfl
    obtain ⟨k1, k2, k3⟩ := k.map x
    refine ⟨h1.trans k1, fun y => ⟨fun z e => (h2 e).trans ((k2 y).1 z e), fun z w => h3.trans ((k2 y).2 z w)⟩,
      fun y z => (h.claims rfl).trans (k3 y z)⟩

theorem State.ChangesOnly.of_light (h : s.Turns .querySummary t) : State.ChangesOnly c s t := h.leaves.mono.changesOnly

theorem State.ChangesOnly.refl (s : State) : State.ChangesOnly c s s := .of_light (.refl s)

/-- A taken request changes only what its block changes. -/
theorem State.ChangesOnly.ofTake {p : Port} {d : Instr} {act : List Word → State → State}
    (h : takeRequest p d act s = .next t) (hact : ∀ ws u, State.ChangesOnly c u (act ws u)) :
    State.ChangesOnly c s t := by
  cases ho : s.offered p d with
  | none =>
    rw [takeRequest_waits act ho] at h
    cases h
    exact .refl s
  | some ws =>
    rw [takeRequest_offered act ho] at h
    cases h
    exact ((State.Turns.popFifo (c := .querySummary) p s).leaves.trans_changesOnly (hact ws _)
      (State.popFifo_records s p)).trans_leaves (State.Turns.advance p _).leaves

theorem State.ChangesOnly.geometry {n : Nat} (h : exec (.geometry n) s = .next t) :
    State.ChangesOnly (.geometry n) s t := by
  refine .ofTake h fun ws u => ?_
  have hs (m : Nat) : State.ChangesOnly (.geometry n) u (u.sizedTo m) :=
    { service := fun _ _ k => absurd rfl (k n), settings := fun _ => rfl, windows := fun _ => rfl
      sizes := fun _ _ k => absurd rfl (k n), spindle := fun _ _ => rfl, bgWindow := fun _ _ => rfl
      epoch := fun _ _ => ⟨rfl, fun _ => rfl, fun k => absurd rfl (k n)⟩
      routing := fun _ _ => ⟨rfl, rfl, fun _ => rfl, fun _ _ => rfl⟩, lastKind := fun _ _ => rfl
      tickets := fun _ _ _ => rfl, fences := fun _ _ _ _ => rfl
      map := fun _ => ⟨rfl, fun _ => ⟨fun _ => State.segmentsOf_congr rfl, fun k => absurd rfl (k n)⟩, fun _ _ => rfl⟩ }
  rcases State.takeGeometry_cases n ws u with ⟨code, vs, k⟩ | ⟨-, m, vs, -, -, k⟩
  · rw [k]; exact .of_light (.answer _ _ _ _ _ u)
  · rw [k]; exact (hs m).trans_leaves (State.Turns.answer _ _ _ _ _ _).leaves

theorem State.ChangesOnly.adopt {e n : Nat} {v d l : SegSet} (h : exec (.adopt e n v d l) s = .next t) :
    State.ChangesOnly (.adopt e n v d l) s t := by
  refine .ofTake h fun ws u => ?_
  have hs (x : Resident) : State.ChangesOnly (.adopt e n v d l) u ((u.takeSlot x.slot).enter x) :=
    { service := fun _ _ _ => rfl, settings := fun _ => rfl, windows := fun _ => rfl, sizes := fun _ _ _ => rfl
      spindle := fun _ _ => rfl, bgWindow := fun _ _ => rfl, epoch := fun _ _ => ⟨rfl, fun _ => rfl, fun _ => rfl⟩
      routing := fun _ _ => ⟨rfl, rfl, fun _ => rfl, fun _ _ => rfl⟩, lastKind := fun _ _ => rfl
      tickets := fun _ _ _ => rfl, fences := fun _ _ _ _ => rfl
      map := fun _ => ⟨rfl, fun k => absurd rfl (k e n v d l), fun _ _ => rfl⟩ }
  rcases State.takeAdopt_cases e n v d l ws u with ⟨code, k⟩ | ⟨x, -, k⟩
  · rw [k]; exact .of_light (.answer _ _ _ _ _ u)
  · rw [k]; exact (hs x).trans_leaves (State.Turns.answer _ _ _ _ _ _).leaves

theorem State.ChangesOnly.unfence {n : Nat} (h : exec (.unfence n) s = .next t) :
    State.ChangesOnly (.unfence n) s t := by
  refine .ofTake h fun ws u => ?_
  have hs (w : State) : State.ChangesOnly (.unfence n) w (w.unfenceSlot n) := by
    rw [State.unfenceSlot_eq]
    exact
      { service := fun _ _ _ => rfl, settings := fun _ => rfl, windows := fun _ => rfl, sizes := fun _ _ _ => rfl
        spindle := fun _ _ => rfl, bgWindow := fun _ _ => rfl, epoch := fun _ _ => ⟨rfl, fun _ => rfl, fun _ => rfl⟩
        routing := fun _ _ => ⟨rfl, rfl, fun _ => rfl, fun _ _ => rfl⟩, lastKind := fun _ _ => rfl
        tickets := fun _ _ _ => rfl, fences := fun _ k => absurd rfl (k n)
        map := fun _ => ⟨rfl, fun _ => ⟨fun _ => State.segmentsOf_congr rfl, fun _ k => absurd rfl (k n)⟩, fun _ _ => rfl⟩ }
  unfold State.takeUnfence
  split
  · exact .of_light (.answer _ _ _ _ _ u)
  · split
    · exact .of_light (.answer _ _ _ _ _ u)
    · exact (State.Turns.answer (c := .querySummary) .flash 0x0F .ok ws [] u).leaves.trans_changesOnly (hs _)
        (State.tables_records (State.tables_of_solid (State.place_solid _ _ u)))

theorem State.ChangesOnly.sweep (n : Nat) (s : State) : State.ChangesOnly .epochTimerExpiry s (State.sweep n s) := by
  have hu (hn : (s.records.map (·.extent)).Nodup) := ((State.Turns.sweep n s hn).leaves.map rfl).2.1
  have hk := State.sweep_unswept n s
  generalize State.sweep n s = u at hk hu ⊢
  exact
    { service := fun _ _ _ => State.unswept_service hk, settings := fun _ => State.unswept_settings hk
      windows := fun _ => State.unswept_windows hk, sizes := fun _ _ _ => State.unswept_sizes hk
      spindle := fun _ _ => State.unswept_spindle hk, bgWindow := fun _ _ => State.unswept_bgWindow hk
      epoch := fun _ k => absurd rfl k
      routing := fun _ _ => ⟨State.unswept_streams hk, State.unswept_streamUse hk, fun _ => State.unswept_parked hk,
        fun _ _ => State.unswept_routes hk⟩
      lastKind := fun _ _ => State.unswept_lastKind hk, tickets := fun _ _ _ => State.unswept_tickets hk
      fences := fun _ _ _ _ => State.unswept_fences hk
      map := fun _ => ⟨State.unswept_contexts hk, fun _ => ⟨hu, fun _ _ => State.unswept_free hk⟩,
        fun _ _ => State.unswept_claims hk⟩ }

theorem State.ChangesOnly.epochExpiry (s : State) : State.ChangesOnly .epochTimerExpiry s s.epochExpiry := by
  unfold State.epochExpiry
  generalize Config.sweepStride = n
  have h1 : State.ChangesOnly .epochTimerExpiry s (State.sweep n { s with
      epoch := (s.epoch + 1) % Config.wrap16, epochTimer := some s.settings.epochLen }) :=
    { State.ChangesOnly.sweep n { s with
        epoch := (s.epoch + 1) % Config.wrap16, epochTimer := some s.settings.epochLen } with
      epoch := fun _ k => absurd rfl k }
  exact h1.trans_leaves (State.Turns.retestFill _).leaves

theorem State.ChangesOnly.flashResetAdopting (s : State) : State.ChangesOnly .flashLinkReset s s.flashResetAdopting where
  service k := absurd rfl k
  settings _ := rfl
  windows _ := rfl
  sizes k := absurd rfl k
  spindle _ _ := rfl
  bgWindow _ _ := rfl
  epoch k := absurd rfl k
  routing k := absurd rfl k
  lastKind k := absurd rfl k
  tickets _ _ _ := rfl
  fences k := absurd rfl k
  map k := nomatch k

end

/-- Every command, POWER_ON and RESTART apart, changes only what it is named for. -/
theorem exec_changesOnly {c : Instr} {s t : State} (h : exec c s = .next t) (h1 : c ≠ .powerOn) (h2 : c ≠ .restart) :
    State.ChangesOnly c s t := by
  by_cases hc : rebuilds c = true
  · cases c with
    | powerOn => exact absurd rfl h1
    | restart => exact absurd rfl h2
    | geometry n => exact .geometry h
    | adopt e n v d l => exact .adopt h
    | unfence n => exact .unfence h
    | epochTimerExpiry =>
      simp only [exec, execEpochTimerExpiry] at h
      split at h
      · cases h; exact .refl s
      · exact Host.Outcome.next.inj h ▸ .epochExpiry s
    | _ => cases hc
  · by_cases hv : c = .flashLinkReset ∧ s.service = .adopting
    · obtain ⟨rfl, hv⟩ := hv
      rw [exec_flashLinkReset_adopting h hv]
      exact .flashResetAdopting s
    · exact (exec_turns h (by simpa using hc) fun k x => hv ⟨k, x⟩).leaves.changesOnly

end Sys2Proof.Machine

open Sys2Proof.Machine in
/-- Settles O60: a command's turn leaves what neither its licence nor its own change names. -/
theorem onlyTheNamedCommandsChangeEachKindOfState : Obligations.OnlyTheNamedCommandsChangeEachKindOfState := by
  intro s t c h h1 h2
  have k := exec_changesOnly h h1 h2
  exact ⟨k.service, k.settings, k.windows, k.sizes, k.spindle, k.bgWindow, k.epoch, k.routing, k.lastKind, k.tickets,
    k.fences, k.map⟩
end

section
/-! SUPPORT. The end of an event, said once: what grants, the end of a drain, urgent mode and the demands leave. -/

namespace Sys2Proof.Machine

/-! ### What the end of an event does -/

/-- A state without what the end of an event changes, the records' marks apart. -/
def State.quiet (s : State) : State :=
  { s with front := .empty, flash := .empty, disk := .empty, claims := Vector.replicate 8 none
           stats := { s.stats with spinUpDemands := 0 }, urgent := false, drain := false, drainedOwed := none
           demands := { dirtyCeiling := false, drain := false, fill := false }, diskOwed := [] }

/-- A record without its drain mark. -/
def Resident.unmarked (r : Resident) : Resident := { r with drainMark := false }

/-- `t` comes of `s` by what an event ends with: marks clear only together, with no record unflushed (R151); owed
demands go and join the tail, and what else is owed stands (R146, R176). -/
structure State.Ends (s t : State) : Prop where
  quiet : t.quiet = { s.quiet with records := t.records }
  keeps : s.Keeps t
  records : t.records = s.records ∨
    (t.records = s.records.map Resident.unmarked ∧ ∀ r ∈ s.records, r.unflushed = false)
  diskOwed : ∃ p l, t.diskOwed = s.diskOwed.filter p ++ l ∧ (∀ o, o.isDemand = false → p o = true) ∧
    ∀ o ∈ l, o.isDemand = true

namespace State.Ends

variable {s t u : State}

theorem refl (s : State) : s.Ends s :=
  ⟨rfl, .refl s, .inl rfl, fun _ => true, [], by simp, fun _ _ => rfl, nofun⟩

theorem trans (h : s.Ends t) (k : t.Ends u) : s.Ends u := by
  refine ⟨?_, h.keeps.trans k.keeps, ?_, ?_⟩
  · rw [k.quiet, h.quiet]
  · rcases h.records with h1 | ⟨h1, h2⟩ <;> rcases k.records with k1 | ⟨k1, k2⟩
    · exact .inl (k1.trans h1)
    · exact .inr ⟨by rw [k1, h1], h1 ▸ k2⟩
    · exact .inr ⟨k1.trans h1, h2⟩
    · refine .inr ⟨?_, h2⟩
      rw [k1, h1, List.map_map]
      rfl
  · obtain ⟨p, l, h1, h2, h3⟩ := h.diskOwed
    obtain ⟨q, m, k1, k2, k3⟩ := k.diskOwed
    refine ⟨fun o => p o && q o, l.filter q ++ m, ?_, fun o ho => by simp [h2 o ho, k2 o ho], fun o ho => ?_⟩
    · rw [k1, h1, List.filter_append, List.filter_filter, List.append_assoc]
      congr 1
      exact List.filter_congr fun o _ => Bool.and_comm _ _
    · rcases List.mem_append.1 ho with ho | ho
      · exact h3 o (List.mem_of_mem_filter ho)
      · exact k3 o ho

/-- A change of the links, the claims, the drain, urgent mode and the demand flags. -/
theorem of (quiet : t.quiet = s.quiet) (keeps : s.Keeps t) (records : t.records = s.records)
    (diskOwed : t.diskOwed = s.diskOwed) : s.Ends t := by
  refine ⟨?_, keeps, .inl records, fun _ => true, [], by simp [diskOwed], fun _ _ => rfl, nofun⟩
  rw [quiet, records]
  rfl

/-! ### Its parts -/

theorem place_quiet (p : Port) (r : Outbound) (s : State) : (s.place p r).quiet = s.quiet := by
  unfold State.place
  split
  · cases p <;> rfl
  · rfl

theorem place (p : Port) (r : Outbound) (s : State) : s.Ends (s.place p r) :=
  of (place_quiet p r s) (State.place_keeps p r s) (State.tables_records (State.tables_of_solid (State.place_solid p r s)))
    (by unfold State.place; split <;> simp)

theorem setClaim (i : Fin 8) (x : Option ClaimEntry) (s : State) : s.Ends (s.setClaim i x) :=
  of rfl (State.setClaim_keeps i x s) rfl rfl

theorem grantEntry (i : Fin 8) (s : State) : s.Ends (s.grantEntry i) := by
  unfold State.grantEntry
  split
  · exact refl s
  · split
    · exact refl s
    · split
      · unfold State.grantTo
        split
        · exact (place _ _ s).trans (setClaim _ _ _)
        · exact setClaim _ _ s
      · exact refl s

theorem grantAll (s : State) : s.Ends s.grantAll := by
  unfold State.grantAll
  generalize allClaims = l
  induction l generalizing s with
  | nil => exact refl s
  | cons i l ih => exact (grantEntry i s).trans (ih _)

theorem noticeDrained (n : Nat) (s : State) : s.Ends (s.noticeDrained n) := by
  unfold State.noticeDrained
  split
  · exact place _ _ s
  · exact of rfl .of rfl rfl

theorem endDrain (s : State) : s.Ends s.endDrain := by
  unfold State.endDrain
  split
  · rename_i h
    have h1 := noticeDrained (s.records.countP fun r => r.drainMark && r.stuck) s
    have hr : (s.noticeDrained (s.records.countP fun r => r.drainMark && r.stuck)).records = s.records := by
      unfold State.noticeDrained
      split
      · simp
      · rfl
    refine h1.trans ⟨rfl, .of, .inr ⟨rfl, ?_⟩, fun _ => true, [], ?_, fun _ _ => rfl, nofun⟩
    · rw [hr]
      simp only [Bool.and_eq_true, Bool.not_eq_true', List.any_eq_false] at h
      exact fun r hm => by simpa using h.2 r hm
    · simp [State.clearMarks]
  · exact refl s

theorem demandFor (r : Reason) (s : State) : s.Ends (s.demandFor r) := by
  unfold State.demandFor
  split
  · split
    · refine .trans (t := s.setDemand r true) (of rfl .of rfl rfl) ?_
      generalize s.setDemand r true = u
      unfold State.produceDemand
      split
      · refine (place .disk (.spinUpDemand r) u).trans ?_
        generalize hv : u.place .disk (.spinUpDemand r) = v
        have hk : u.placeDemand r =
            { v with stats := { v.stats with spinUpDemands := addSat v.stats.spinUpDemands 1 } } := by
          rw [← hv]
          rfl
        rw [hk]
        exact of rfl (State.withStats_keeps _ v fun k => { k with spinUpDemands := addSat_le _ _ }) rfl rfl
      · exact ⟨rfl, .of, .inl rfl, fun _ => true, [.demand r], by simp, fun _ _ => rfl, by simp [DiskOwed.isDemand]⟩
    · exact refl s
  · refine ⟨rfl, .of, .inl rfl, fun o => o ≠ .demand r, [], by simp [without], fun o ho => ?_, nofun⟩
    cases o with
    | demand r => cases ho
    | order c => simp
    | advice => simp

theorem demandAll (s : State) : s.Ends s.demandAll :=
  ((demandFor _ s).trans (demandFor _ _)).trans (demandFor _ _)

theorem compareUrgent (s : State) : s.Ends s.compareUrgent := of rfl .of rfl rfl

/-- What every event ends with. -/
theorem finish (s : State) : s.Ends s.finish := by
  unfold State.finish
  split
  · exact (((grantAll s).trans (endDrain _)).trans (compareUrgent _)).trans (demandAll _)
  · exact refl s

/-! ### What it leaves -/

section
variable (h : s.Ends t)
include h

theorem watch : t.watch = s.watch := (congrArg State.watch h.quiet : t.quiet.watch = _)
theorem touch : t.touch = s.touch := (congrArg State.touch h.quiet : t.quiet.touch = _)
theorem free : t.free = s.free := (congrArg State.free h.quiet : t.quiet.free = _)
theorem clean : t.clean = s.clean := (congrArg State.clean h.quiet : t.quiet.clean = _)
theorem fences : t.fences = s.fences := (congrArg State.fences h.quiet : t.quiet.fences = _)
theorem contexts : t.contexts = s.contexts := (congrArg State.contexts h.quiet : t.quiet.contexts = _)
theorem dirtyList : t.dirtyList = s.dirtyList := (congrArg State.dirtyList h.quiet : t.quiet.dirtyList = _)
theorem promo : t.promo = s.promo := (congrArg State.promo h.quiet : t.quiet.promo = _)
theorem routes : t.routes = s.routes := (congrArg State.routes h.quiet : t.quiet.routes = _)
theorem tickets : t.tickets = s.tickets := (congrArg State.tickets h.quiet : t.quiet.tickets = _)
theorem lastKind : t.lastKind = s.lastKind := (congrArg State.lastKind h.quiet : t.quiet.lastKind = _)
theorem flashOwed : t.flashOwed = s.flashOwed := (congrArg State.flashOwed h.quiet : t.quiet.flashOwed = _)
theorem adviceTimer : t.adviceTimer = s.adviceTimer := (congrArg State.adviceTimer h.quiet : t.quiet.adviceTimer = _)
theorem adviceSent : t.adviceSent = s.adviceSent := (congrArg State.adviceSent h.quiet : t.quiet.adviceSent = _)
theorem stats : { t.stats with spinUpDemands := 0 } = { s.stats with spinUpDemands := 0 } :=
  (congrArg State.stats h.quiet : t.quiet.stats = _)
theorem fillsDone : t.stats.fillsDone = s.stats.fillsDone :=
  (congrArg Stats.fillsDone h.stats : ({ t.stats with spinUpDemands := 0 } : Stats).fillsDone = _)
theorem flushesDone : t.stats.flushesDone = s.stats.flushesDone :=
  (congrArg Stats.flushesDone h.stats : ({ t.stats with spinUpDemands := 0 } : Stats).flushesDone = _)
theorem lostSegments : t.stats.lostSegments = s.stats.lostSegments :=
  (congrArg Stats.lostSegments h.stats : ({ t.stats with spinUpDemands := 0 } : Stats).lostSegments = _)
theorem evictions : t.stats.evictions = s.stats.evictions :=
  (congrArg Stats.evictions h.stats : ({ t.stats with spinUpDemands := 0 } : Stats).evictions = _)

theorem watchOf (e : Nat) : t.watchOf e = s.watchOf e := State.watchOf_congr h.watch e

/-- Every record stands, with its mark or without it. -/
theorem residentOf {e : Nat} {r : Resident} (hr : s.residentOf e = some r) :
    ∃ m, t.residentOf e = some { r with drainMark := m } ∧ (r.stuck = false → m = r.drainMark) ∧
      (r.drainMark = false → m = false) := by
  rcases h.records with k | ⟨k, kn⟩
  · exact ⟨r.drainMark, (State.residentOf_congr k e).trans hr, fun _ => rfl, id⟩
  · refine ⟨false, ?_, fun hs => ?_, fun _ => rfl⟩
    · rw [State.residentOf_map (s := s) Resident.unmarked k (fun _ => rfl) e, hr]
      rfl
    · have := kn r (State.residentOf_mem hr).1
      simpa [Resident.unflushed, hs] using this.symm

theorem residentOf_none {e : Nat} : t.residentOf e = none ↔ s.residentOf e = none := by
  rcases h.records with k | ⟨k, -⟩
  · rw [State.residentOf_congr k e]
  · rw [State.residentOf_map (s := s) Resident.unmarked k (fun _ => rfl) e, Option.map_eq_none_iff]

theorem segmentsOf (e : Nat) : t.segmentsOf e = s.segmentsOf e := by
  rcases h.records with k | ⟨k, -⟩
  · exact State.segmentsOf_congr k e
  · exact State.segmentsOf_map Resident.unmarked k (fun _ => ⟨rfl, rfl, rfl, rfl, rfl, rfl⟩) e

/-- What is owed to the disk port, its demands apart, stands. -/
theorem diskOwed_filter : t.diskOwed.filter (fun o => !o.isDemand) = s.diskOwed.filter (fun o => !o.isDemand) := by
  obtain ⟨p, l, h1, h2, h3⟩ := h.diskOwed
  rw [h1, List.filter_append, List.filter_filter]
  have hl : l.filter (fun o => !o.isDemand) = [] := List.filter_eq_nil_iff.2 fun o ho => by simp [h3 o ho]
  rw [hl, List.append_nil]
  refine List.filter_congr fun o _ => ?_
  cases ho : o.isDemand with
  | true => simp
  | false => simp [h2 o ho]

theorem mem_diskOwed {o : DiskOwed} (hd : o.isDemand = false) (ho : o ∈ s.diskOwed) : o ∈ t.diskOwed := by
  obtain ⟨p, l, h1, h2, -⟩ := h.diskOwed
  rw [h1]
  exact List.mem_append_left _ (List.mem_filter.2 ⟨ho, h2 o hd⟩)

end

end State.Ends

end Sys2Proof.Machine
end

section
/-! PROOFS. The refusal and the parking of a ROUTE. -/

namespace Sys2Proof.Machine

theorem State.parks_iff (s : State) (e : Nat) :
    s.parks e = true ↔ ∃ i c, s.claimIndex e = some i ∧ s.claims[i] = some c ∧ c.standing.port ≠ .front := by
  unfold State.parks
  split
  · rename_i hi
    exact ⟨nofun, fun ⟨i, _, k, _⟩ => nomatch hi.symm.trans k⟩
  · rename_i i hi
    split
    · rename_i hc
      refine ⟨nofun, fun ⟨j, c, k, kc, _⟩ => ?_⟩
      cases hi.symm.trans k
      exact nomatch hc.symm.trans kc
    · rename_i c hc
      refine ⟨fun k => ⟨i, c, hi, hc, by simpa using k⟩, fun ⟨j, d, k, kc, kp⟩ => ?_⟩
      cases hi.symm.trans k
      cases hc.symm.trans kc
      simpa using kp

section
variable {s : State} {tag kind lba count : Nat} {q : Parked} {ws : List Word} (hv : s.service = .serving)
  (hq : validRoute tag kind lba count = some q) (ho : s.offered .front (.route tag kind lba count) = some ws)
include hv hq ho

/-- What taking a valid ROUTE in SERVING does. -/
theorem exec_route_serving :
    exec (.route tag kind lba count) s = .next (State.advance .front
      (if s.tagInUse tag then (s.popFifo .front).refuseRoute .tagInUse tag
      else if s.routeParks q then
        if s.parked.length < Config.parkDepth then { s.popFifo .front with parked := s.parked ++ [q] }
        else (s.popFifo .front).refuseRoute .busy tag
      else (s.popFifo .front).routed q)) := by
  have h1 : exec (.route tag kind lba count) s =
      .next (((s.popFifo .front).takeRoute tag kind lba count).advance .front) := takeRequest_offered _ ho
  rw [h1]
  unfold State.takeRoute
  rw [show (s.popFifo .front).isServing = true by simp [State.isServing, hv], hq]
  rfl

theorem exec_route_tagInUse (h : s.tagInUse tag = true) :
    exec (.route tag kind lba count) s = .next (s.answered .front (.routeAnswer .tagInUse tag false [])) := by
  rw [exec_route_serving hv hq ho, h]
  exact congrArg _ (State.answered_eq _ (State.hasRoom_of_offered ho))

theorem exec_route_parks (h : s.tagInUse tag = false) (hp : s.routeParks q = true) (hl : s.parked.length < 8) :
    exec (.route tag kind lba count) s =
      .next { s with
        front := { s.front with fifo := s.front.fifo.tail }, parked := s.parked ++ [q], pointer := .flash } := by
  rw [exec_route_serving hv hq ho, h, hp, if_neg (by simp), if_pos rfl, if_pos (show s.parked.length < Config.parkDepth from hl)]
  rfl

theorem exec_route_busy (h : s.tagInUse tag = false) (hp : s.routeParks q = true) (hl : 8 ≤ s.parked.length) :
    exec (.route tag kind lba count) s = .next (s.answered .front (.routeAnswer .busy tag false [])) := by
  rw [exec_route_serving hv hq ho, h, hp, if_neg (by simp), if_pos rfl, if_neg (by unfold Config.parkDepth; omega)]
  exact congrArg _ (State.answered_eq _ (State.hasRoom_of_offered ho))

theorem exec_route_routed (h : s.tagInUse tag = false) (hp : s.routeParks q = false) :
    exec (.route tag kind lba count) s = .next (((s.popFifo .front).routed q).advance .front) := by
  rw [exec_route_serving hv hq ho, h, hp, if_neg (by simp), if_neg (by simp)]

end

end Sys2Proof.Machine

open Sys2Proof.Machine in
/-- Settles O18: the branches of the taking of a valid ROUTE. -/
theorem aRouteIsRefusedItsTagOrParked : Obligations.ARouteIsRefusedItsTagOrParked :=
  ⟨fun _ _ _ _ _ _ _ hv hq ho =>
    ⟨exec_route_tagInUse hv hq ho, exec_route_parks hv hq ho, exec_route_busy hv hq ho⟩, State.parks_iff⟩
end

section
/-! PROOFS. The examination of a resident record and of a watch entry. -/

namespace Sys2Proof.Machine

/-! ### The Promotion Queue -/

/-- The Promotion Queue after a candidacy is settled (R32). -/
theorem State.adjustPromo_promo (e : Nat) (b : Bool) (s : State) :
    (b = false → (s.adjustPromo e b).promo = without e s.promo) ∧
    (b = true → e ∈ s.promo → (s.adjustPromo e b).promo = s.promo) ∧
    (b = true → e ∉ s.promo → s.promo.length < 64 → (s.adjustPromo e b).promo = s.promo ++ [e]) ∧
    (b = true → e ∉ s.promo → 64 ≤ s.promo.length → (s.adjustPromo e b).promo = s.promo) := by
  unfold State.adjustPromo
  refine ⟨fun h => by simp [h, State.unqueue], fun h k => by simp [h, k], fun h k l => ?_, fun h k l => ?_⟩
  · rw [if_pos h, if_neg k, if_pos (show s.promo.length < Config.promoDepth from l)]
  · rw [if_pos h, if_neg k, if_neg (by unfold Config.promoDepth; omega)]

@[simp] theorem State.adjustPromo_records (e : Nat) (b : Bool) (s : State) :
    (s.adjustPromo e b).records = s.records := by rw [State.adjustPromo_eq]

@[simp] theorem State.adjustPromo_watch (e : Nat) (b : Bool) (s : State) :
    (s.adjustPromo e b).watch = s.watch := by rw [State.adjustPromo_eq]

@[simp] theorem State.adjustPromo_clean (e : Nat) (b : Bool) (s : State) :
    (s.adjustPromo e b).clean = s.clean := by rw [State.adjustPromo_eq]

theorem without_without {α : Type} [DecidableEq α] (x : α) (l : List α) : without x (without x l) = without x l :=
  without_of_notMem x _ (by simp)

/-- A candidacy as an examination tests it (R31). -/
theorem State.wanted_iff (b : Band) (p : Policy) (s : State) :
    s.wanted b p = true ↔ p ≠ .bypass ∧
      (s.settings.promoteBand.rank ≤ b.rank ∨ (p = .pin ∧ s.pinnedCount < s.pinLimit)) := by
  simp [State.wanted, State.pinRoom]

theorem pinDecision_iff (p : Policy) (b : Bool) (n l : Nat) :
    pinDecision p b n l = true ↔ p = .pin ∧ (if b then n ≤ l else n < l) := by
  cases p <;> cases b <;> simp [pinDecision]

/-! ### A resident record -/

section
variable {s : State} (w : Nat) {r : Resident} (h : s.residentOf r.extent = some r)

/-- The state of an examination before the Promotion Queue is adjusted. -/
def State.refiled (w : Nat) (r : Resident) (s : State) : State :=
  s.store (catchUpEnd r (s.caughtUpRecord w r)) (s.caughtUpRecord w r)

theorem State.examineResident_eq (s : State) :
    s.examineResident w r = (s.refiled w r).adjustPromo r.extent
      (decide (r.valid ||| r.lost ≠ SegSet.all) &&
        (s.refiled w r).wanted (s.heatNow w r.heat).band (s.policyOf r.extent)) := rfl

include h

theorem State.examine_of_resident : s.examine w r.extent = s.examineResident w r := by
  simp [State.examine, h]

theorem State.residentOf_examineResident :
    (s.examineResident w r).residentOf r.extent = some (s.caughtUpRecord w r).settled := by
  rw [State.examineResident_eq, State.residentOf_congr (State.adjustPromo_records _ _ _)]
  exact State.residentOf_store_same (r := s.caughtUpRecord w r) _ h

theorem State.segmentsOf_examineResident (e : Nat) : (s.examineResident w r).segmentsOf e = s.segmentsOf e := by
  rw [State.examineResident_eq, State.segmentsOf_congr (State.adjustPromo_records _ _ _)]
  exact State.segmentsOf_store_of_same (r := s.caughtUpRecord w r) _ h rfl rfl rfl rfl rfl e

omit h in
theorem State.refiled_promo (s : State) : (s.refiled w r).promo =
    if r.valid ||| r.lost = SegSet.all then without r.extent s.promo else s.promo := by
  show (if (s.caughtUpRecord w r).settled.valid ||| _ = _ then without (s.caughtUpRecord w r).settled.extent s.promo
    else s.promo) = _
  simp [State.caughtUpRecord]

/-- The Promotion Queue after the examination of a record (R31, R32). -/
theorem State.promo_examineResident :
    let t := s.examineResident w r
    let candidate := r.valid ||| r.lost ≠ SegSet.all ∧ s.policyOf r.extent ≠ .bypass ∧
      (s.settings.promoteBand.rank ≤ (s.heatNow w r.heat).band.rank ∨
        (s.policyOf r.extent = .pin ∧ t.pinnedCount < s.pinLimit))
    (¬ candidate → t.promo = without r.extent s.promo) ∧
    (candidate → r.extent ∈ s.promo → t.promo = s.promo) ∧
    (candidate → r.extent ∉ s.promo → s.promo.length < 64 → t.promo = s.promo ++ [r.extent]) ∧
    (candidate → r.extent ∉ s.promo → 64 ≤ s.promo.length → t.promo = s.promo) := by
  intro t candidate
  have hcount : t.pinnedCount = (s.refiled w r).pinnedCount := by
    show (s.examineResident w r).records.countP _ = _
    rw [State.examineResident_eq, State.adjustPromo_records]
    rfl
  have hcand : (decide (r.valid ||| r.lost ≠ SegSet.all) &&
      (s.refiled w r).wanted (s.heatNow w r.heat).band (s.policyOf r.extent)) = true ↔ candidate := by
    rw [Bool.and_eq_true, decide_eq_true_eq, State.wanted_iff]
    simp only [candidate, hcount]
    rfl
  obtain ⟨h1, h2, h3, h4⟩ := State.adjustPromo_promo r.extent (decide (r.valid ||| r.lost ≠ SegSet.all) &&
    (s.refiled w r).wanted (s.heatNow w r.heat).band (s.policyOf r.extent)) (s.refiled w r)
  rw [← State.examineResident_eq] at h1 h2 h3 h4
  have hp := State.refiled_promo (r := r) w s
  have hfull : candidate → (s.refiled w r).promo = s.promo := fun k => by rw [hp, if_neg k.1]
  refine ⟨fun k => ?_, fun k m => ?_, fun k m l => ?_, fun k m l => ?_⟩
  · rw [show t.promo = _ from h1 (by rwa [← hcand, Bool.not_eq_true] at k), hp]
    split
    · exact without_without _ _
    · rfl
  · exact (h2 (hcand.2 k) (hfull k ▸ m)).trans (hfull k)
  · exact (h3 (hcand.2 k) (hfull k ▸ m) (hfull k ▸ l)).trans (by rw [hfull k])
  · exact (h4 (hcand.2 k) (hfull k ▸ m) (hfull k ▸ l)).trans (hfull k)

omit h in
/-- A clean list after the examination of a record (R18, R33, R47). -/
theorem State.clean_examineResident (s : State) (b : Band) :
    (s.examineResident w r).clean.get b =
      if (s.caughtUpRecord w r).cleanBand = some b then
        (if r.extent ∈ s.clean.get b then s.clean.get b
        else joinEnd (catchUpEnd r (s.caughtUpRecord w r)) r.extent (s.clean.get b))
      else without r.extent (s.clean.get b) := by
  rw [State.examineResident_eq, State.adjustPromo_clean]
  show (State.fileLists _ (s.caughtUpRecord w r).settled { s with
    records := s.records.map fun x => if x.extent = r.extent then (s.caughtUpRecord w r).settled else x }).clean.get b = _
  rw [State.fileLists_clean, Resident.settled_cleanBand, Resident.settled_extent]
  rfl

end

/-- The clean list that an examined record belongs on (R18). -/
theorem State.cleanBand_caughtUpRecord {r : Resident} (w : Nat) (s : State) (b : Band) :
    (s.caughtUpRecord w r).cleanBand = some b ↔
      r.dirty = 0#32 ∧ (s.caughtUpRecord w r).pinned = false ∧ r.state = .resident ∧
        b = (if s.policyOf r.extent = .bypass then .b0 else (s.heatNow w r.heat).band) := by
  unfold Resident.cleanBand
  rw [Option.ite_none_right_eq_some, Option.some.injEq]
  constructor
  · rintro ⟨⟨h1, h2, h3⟩, h4⟩
    exact ⟨h1, h2, h3, h4.symm⟩
  · rintro ⟨h1, h2, h3, h4⟩
    exact ⟨⟨h1, h2, h3⟩, h4.symm⟩

/-! ### A watch entry -/

section
variable {s : State} (w : Nat) {x : WatchEntry} (h : s.watchOf x.extent = some x)

theorem State.examineWatched_eq (s : State) :
    s.examineWatched w x = (s.setWatchHeat x.extent (s.heatNow w x.heat)).adjustPromo x.extent
      (s.wanted (s.heatNow w x.heat).band (s.policyOf x.extent)) := rfl

theorem State.watchOf_setWatchHeat (e : Nat) (k : Heat) (s : State) (f : Nat) :
    (s.setWatchHeat e k).watchOf f = (s.watchOf f).map fun y => if y.extent = e then { y with heat := k } else y := by
  unfold State.watchOf State.setWatchHeat
  rw [List.find?_map]
  congr 2
  funext y
  by_cases hy : y.extent = e <;> simp [hy]

theorem State.watchOf_setWatchHeat_of_ne {e f : Nat} (k : Heat) (s : State) (hf : f ≠ e) :
    (s.setWatchHeat e k).watchOf f = s.watchOf f := by
  rw [State.watchOf_setWatchHeat]
  cases hx : s.watchOf f with
  | none => rfl
  | some y => simp [State.Becomes.watchOf_extent hx, hf]

theorem State.setWatchHeat_map {β : Type} (g : WatchEntry → β) (e : Nat) (k : Heat) (s : State)
    (hg : ∀ y : WatchEntry, g { y with heat := k } = g y) : (s.setWatchHeat e k).watch.map g = s.watch.map g := by
  unfold State.setWatchHeat
  rw [List.map_map]
  refine List.map_congr_left fun y _ => ?_
  by_cases hy : y.extent = e
  · rw [Function.comp, if_pos hy, hg]
  · rw [Function.comp, if_neg hy]

include h

theorem State.watchOf_examineWatched :
    (s.examineWatched w x).watchOf x.extent = some { x with heat := s.heatNow w x.heat } := by
  rw [State.examineWatched_eq, State.watchOf_congr (State.adjustPromo_watch _ _ _), State.watchOf_setWatchHeat, h]
  simp

end

end Sys2Proof.Machine

open Sys2Proof.Machine in
/-- Settles O50: an examination is a store in the record's own slot, or a watch entry's heat replaced, and the settling of
its candidacy. -/
theorem anExaminationBringsARecordUpToDate : Obligations.AnExaminationBringsARecordUpToDate := by
  refine ⟨fun s w r h => ?_, fun s w x h hr => ?_, fun s w e hr hw => by simp [State.examine, hr, hw]⟩
  · refine ⟨State.examine_of_resident w h, _, State.residentOf_examineResident w h, ?_, ?_, ?_,
      State.segmentsOf_examineResident w h, ?_, fun b => ?_, ?_⟩
    · rw [Resident.settled_heat]
      rfl
    · simp [State.caughtUpRecord]
    · rw [Resident.settled_pinned]
      exact pinDecision_iff _ _ _ _
    · rw [Resident.settled_heat]
      exact State.promo_examineResident w h
    · rw [Resident.settled_heat, Resident.settled_pinned, State.clean_examineResident (r := r) w s b]
      have hb := State.cleanBand_caughtUpRecord (r := r) w s b
      refine ⟨fun k => ?_, fun k1 k2 k3 k4 => ?_⟩
      · rw [if_neg]
        · rfl
        · rw [hb]
          rintro ⟨k1, k2, k3, k4⟩
          rcases k with k | k | k | k
          · exact k k1
          · exact nomatch k.symm.trans k2
          · exact k k3
          · exact k k4
      · rw [if_pos (hb.2 ⟨k1, k2, k3, k4⟩)]
        refine ⟨fun m => if_pos m, fun m k => ?_, fun m k => ?_⟩
        · rw [if_neg m]
          simp [catchUpEnd, joinEnd, k]
        · rw [if_neg m]
          simp [catchUpEnd, joinEnd, k, k2]
    · rw [State.examineResident_eq, State.adjustPromo_eq]
      exact ⟨rfl, rfl, rfl, rfl, rfl, rfl⟩
  · have hp := State.adjustPromo_promo x.extent (s.wanted (s.heatNow w x.heat).band (s.policyOf x.extent))
      (s.setWatchHeat x.extent (s.heatNow w x.heat))
    rw [← State.examineWatched_eq] at hp
    obtain ⟨h1, h2, h3, h4⟩ := hp
    have hw := State.wanted_iff (s.heatNow w x.heat).band (s.policyOf x.extent) s
    refine ⟨by simp [State.examine, hr, h], ?_, State.watchOf_examineWatched w h, fun e he => ?_, ?_, ?_,
      fun k => h1 ?_, fun k => h2 (hw.2 k), fun k => h3 (hw.2 k), fun k => h4 (hw.2 k)⟩
    · rw [State.examineWatched_eq, State.adjustPromo_eq]
      rfl
    · rw [State.examineWatched_eq, State.watchOf_congr (State.adjustPromo_watch _ _ _)]
      exact State.watchOf_setWatchHeat_of_ne _ s he
    · rw [State.examineWatched_eq, State.adjustPromo_watch]
      exact State.setWatchHeat_map _ _ _ s fun _ => rfl
    · rw [State.examineWatched_eq, State.adjustPromo_watch]
      exact State.setWatchHeat_map _ _ _ s fun _ => rfl
    · rw [← Bool.not_eq_true, hw]
      exact k
end

section
/-! PROOFS. A READ of an extent that has no heat yet, and the Stream Table. -/

namespace Sys2Proof.Machine

/-! ### The Stream Table -/

/-- What a classification does, once the entry it updates is known (R19 to R21). -/
theorem State.classify_of_streamFor {s : State} {lba count : Nat} {i : Fin 4} {b : Bool}
    (h : s.streamFor lba = (i, b)) :
    (s.classify lba count).2.streams =
        s.streams.set i (some { next := lba + count, run := runAfter s.streams[i] b count }) ∧
      (s.classify lba count).2.streamUse = i :: without i s.streamUse ∧
      ((s.classify lba count).1 = true ↔ s.settings.seqRun ≤ runAfter s.streams[i] b count) := by
  unfold State.classify
  rw [h]
  exact ⟨rfl, rfl, by simp⟩

theorem State.streamFor_of_match {s : State} {lba : Nat} {i : Fin 4}
    (h : s.streamUse.find? (fun j => (s.streams[j].map (·.next)) == some lba) = some i) :
    s.streamFor lba = (i, true) := by
  simp only [State.streamFor, h]

/-- The lowest context number that passes a test. -/
theorem find?_allContexts {p : Fin 4 → Bool} {i : Fin 4} (hi : p i = true) (hj : ∀ j, j < i → p j = false) :
    allContexts.find? p = some i := by
  have h0 := hj 0
  have h1 := hj 1
  have h2 := hj 2
  unfold allContexts
  fin_cases i <;> simp_all

theorem State.streamFor_of_no_match {s : State} {lba : Nat} {i : Fin 4}
    (h : ∀ j ∈ s.streamUse, ∀ x, s.streams[j] = some x → x.next ≠ lba)
    (hi : (s.streams[i] = none ∧ (∀ j : Fin 4, j < i → s.streams[j] ≠ none)) ∨
      ((∀ j : Fin 4, s.streams[j] ≠ none) ∧ s.streamUse.getLast? = some i)) : s.streamFor lba = (i, false) := by
  have hno : s.streamUse.find? (fun j => (s.streams[j].map (·.next)) == some lba) = none := by
    refine List.find?_eq_none.2 fun j hj => ?_
    simp only [beq_iff_eq, Option.map_eq_some_iff, not_exists, not_and]
    exact h j hj
  simp only [State.streamFor, hno]
  rcases hi with ⟨h1, h2⟩ | ⟨h1, h2⟩
  · rw [find?_allContexts (p := fun j => s.streams[j].isNone) (i := i) (by simp [h1]) fun j hj => ?_]
    simpa [Option.isNone_eq_false_iff, Option.isSome_iff_ne_none] using h2 j hj
  · have : allContexts.find? (fun j => s.streams[j].isNone) = none :=
      List.find?_eq_none.2 fun j _ => by simpa using h1 j
    rw [this, h2]
    rfl

/-! ### The heat of an unknown extent -/

/-- What a weight does to an extent that is neither resident nor watched, with a place in the Watch List (R13). -/
theorem State.weighExtent_of_unknown {s : State} {w e : Nat} (hr : s.residentOf e = none) (hw : s.watchOf e = none)
    (hl : s.watch.length < 4096) :
    (extentWeight (s.policyOf e) w ≠ 0 → (s.weighExtent w e).touch = s.touch ++ [e] ∧
      (s.weighExtent w e).watchOf e =
        some { place := lowestGap 0 s.watch, extent := e, heat := s.newHeat (extentWeight (s.policyOf e) w) }) ∧
    (extentWeight (s.policyOf e) w = 0 → s.weighExtent w e = s) := by
  have hroom : s.watchRoom = s := by
    rw [State.watchRoom, if_pos (show s.watch.length < Config.watchPlaces from hl)]
  simp only [State.weighExtent, hr, hw]
  refine ⟨fun k => ?_, fun k => if_pos k⟩
  rw [if_neg k]
  unfold State.enterWatch
  rw [hroom]
  exact ⟨rfl, find?_insertBy_of_none _ _ _ s.watch (by simp) hw⟩

theorem State.armAdvice_tables (s : State) : s.armAdvice.tables = s.tables :=
  State.tables_of_solid (State.armAdvice_solid s)

/-- A READ's record leaves the Watch List and last-touch order. -/
theorem State.recordRoute_watch {q : Parked} (hq : q.kind = .read) (ds : List Decision) (s : State) :
    (s.recordRoute q ds).watch = s.watch ∧ (s.recordRoute q ds).touch = s.touch := by
  unfold State.recordRoute
  rw [show (if q.kind = .trim then s.endTrim ds else s) = s from if_neg (by simp [hq])]
  dsimp only
  split
  · rw [State.tables_watch (State.armAdvice_tables _), State.tables_touch (State.armAdvice_tables _)]
    simp
  · simp

/-- A READ within one extent that is not resident, as it is routed (R53, R55). -/
theorem State.routed_of_absent_read {s : State} {q : Parked} {sp : Span} (hq : q.kind = .read)
    (hs : routeSpans q.lba q.count = [sp]) (hr : s.residentOf sp.extent = none) :
    let u := (s.classify q.lba q.count).2.weighExtent
      ((if (s.classify q.lba q.count).1 then s.settings.wSread else s.settings.wRread) +
        (if s.spindle = .up then 0 else s.settings.wakeBonus)) sp.extent
    (s.routed q).watch = u.watch ∧ (s.routed q).touch = u.touch := by
  intro u
  have hu : s.examineRoute q = u := by
    have hn : (s.classify q.lba q.count).2.readNeedsDisk [sp] = true := by
      unfold State.readNeedsDisk
      rw [List.any_cons, show (s.classify q.lba q.count).2.residentOf sp.extent = none from hr]
      rfl
    have hw : (s.classify q.lba q.count).2.routeWeight .read (s.classify q.lba q.count).1 true =
        (if (s.classify q.lba q.count).1 then s.settings.wSread else s.settings.wRread) +
          (if s.spindle = .up then 0 else s.settings.wakeBonus) := by
      unfold State.routeWeight
      rw [show (s.classify q.lba q.count).2.settings = s.settings from rfl,
        show (s.classify q.lba q.count).2.spindle = s.spindle from rfl]
      congr 1
      · cases (s.classify q.lba q.count).1 <;> rfl
      · by_cases h : s.spindle = .up <;> simp [h]
    simp only [State.examineRoute, hq, State.weighRoute, hs, hn, hw]
    rfl
  have hd : (u.decideRoute q).2 = u := by
    simp only [State.decideRoute, hs, List.map_cons, List.map_nil, State.decideSpans, State.decideSpan, hq]
    split <;> rfl
  have ht : s.routed q = ((u.decideRoute q).2.recordRoute q (u.decideRoute q).1).finish := by
    unfold State.routed
    rw [hu]
  rw [ht, hd, (State.Ends.finish _).watch, (State.Ends.finish _).touch]
  exact State.recordRoute_watch hq _ u

end Sys2Proof.Machine

open Sys2Proof.Machine in
/-- Settles O51: the classification updates one stream, and the weight enters the extent in the Watch List. -/
theorem aReadOfAnUnknownExtentStartsItsHeat : Obligations.AReadOfAnUnknownExtentStartsItsHeat := by
  refine ⟨fun s tag lba count q sp ws hv hq ht hp ho hs hr hw hl => ?_, fun s lba count i => ⟨fun x hf hx => ?_, fun hn hi => ?_⟩⟩
  · intro sequential route weight
    obtain ⟨rfl⟩ : q = { tag := tag, kind := .read, lba := lba, count := count } := by
      unfold validRoute routeKindOf at hq
      split at hq
      · cases hq
      · rename_i k hk
        cases hk
        split at hq
        · exact (Option.some.inj hq).symm
        · cases hq
    refine ⟨_, exec_route_routed hv hq ho ht hp, ?_, ?_, ?_⟩
    · exact (State.Becomes.routed (L := licenceOf .parkedRouteReadmit) ⟨rfl, rfl, rfl, rfl, rfl⟩ _ _).keeps.streams
    · exact (State.Becomes.routed (L := licenceOf .parkedRouteReadmit) ⟨rfl, rfl, rfl, rfl, rfl⟩ _ _).keeps.streamUse
    · obtain ⟨h1, h2⟩ := State.routed_of_absent_read (s := s.popFifo .front)
        (q := { tag := tag, kind := .read, lba := lba, count := count }) rfl hs hr
      obtain ⟨k1, k2⟩ := State.weighExtent_of_unknown (s := ((s.popFifo .front).classify lba count).2) (w := route)
        (e := sp.extent) hr hw hl
      have hweight : extentWeight (s.policyOf sp.extent) route = weight := by
        simp only [weight, extentWeight]
        cases s.policyOf sp.extent <;> rfl
      refine ⟨fun k => ?_, fun k => ?_⟩
      · obtain ⟨m1, m2⟩ := k1 (hweight.trans_ne k)
        refine ⟨h2.trans m1, _, (State.watchOf_congr h1 _).trans m2, rfl, ?_⟩
        show (s.newHeat (extentWeight (s.policyOf sp.extent) route)) = _
        rw [hweight]
        simp [State.newHeat, Heat.gain, Sys2Proof.Config.maxHeat]
      · have := k2 (hweight.trans k)
        exact ⟨h1.trans ((congrArg State.watch this).trans rfl), h2.trans ((congrArg State.touch this).trans rfl)⟩
  · obtain ⟨h1, h2, h3⟩ := State.classify_of_streamFor (count := count) (State.streamFor_of_match hf)
    rw [hx] at h1 h3
    exact ⟨h1, h2, h3⟩
  · obtain ⟨h1, h2, h3⟩ := State.classify_of_streamFor (count := count) (State.streamFor_of_no_match hn hi)
    exact ⟨h1, h2, h3⟩
end

section
/-! SUPPORT. What a current REPORT's move part works on, and what a removal and the end of a move's record do to each
field. -/

namespace Sys2Proof.Machine

/-! ### Places -/

theorem State.hasRoom_of_lt {s : State} {p : Port} (h : (s.link p).out.length < 16) : s.hasRoom p 1 = true := by
  simp only [State.hasRoom, decide_eq_true_eq]
  show _ ≤ 16
  omega

theorem State.not_hasRoom_of_le {s : State} {p : Port} (h : 16 ≤ (s.link p).out.length) : s.hasRoom p 1 = false := by
  simp only [State.hasRoom, decide_eq_false_iff_not]
  show ¬ _ ≤ 16
  omega

theorem State.link_place_same {s : State} {p : Port} (r : Outbound) (h : s.hasRoom p 1 = true) :
    (s.place p r).link p = { s.link p with out := (s.link p).out ++ [r] } := by
  rw [State.place_of_room r h, State.link_setLink]

theorem State.link_place_of_ne {p q : Port} (r : Outbound) (s : State) (h : q ≠ p) :
    (s.place p r).link q = s.link q := by
  unfold State.place
  split
  · exact State.link_setLink_of_ne s p q _ h
  · rfl

/-! ### The state a report's move part works on -/

/-- The state after a current REPORT is taken, answered, and its fence part and the advice timer done. -/
def State.heard (p : Port) (ticket : Nat) (ws : List Word) (s : State) : State :=
  (((s.popFifo p).answerReport p .ok ticket ws).fencePart p ticket).reportArms p

/-- What taking a current REPORT does (R127). -/
theorem exec_report_current {s : State} {p : Port} {c : Fin 4} {ticket status : Nat} {ws : List Word}
    (hv : s.service = .serving) (ho : s.offered p (.report p ticket c.val status) = some ws)
    (hst : validStatus p status = true) (hc : s.contexts[c].orderPort = some p)
    (hp : s.contexts[c].placed.map (·.1) = some ticket) :
    exec (.report p ticket c.val status) s =
      .next ((((s.heard p ticket ws).actOnReport c status).finish).advance p) := by
  have h1 : exec (.report p ticket c.val status) s =
      .next (((s.popFifo p).takeReport p ticket c.val status ws).advance p) := takeRequest_offered _ ho
  rw [h1]
  have h2 : (s.popFifo p).isServing = true := by simp [State.isServing, hv]
  have h3 : (s.popFifo p).isCurrent p c ticket = true := by
    have : (s.popFifo p).contexts = s.contexts := by simp [State.popFifo]
    simp only [State.isCurrent, this, hc, hp, beq_self_eq_true, Bool.and_self]
  unfold State.takeReport
  rw [h2, dif_pos c.isLt, if_neg (by simp), if_pos hst]
  dsimp only
  rw [if_pos h3]
  rfl

/-- A state without what the taking of a report changes: the links, what is owed to the flash, the pool, the fences and
the advice timer. -/
def State.body (s : State) : State :=
  { s with front := .empty, flash := .empty, disk := .empty, flashOwed := [], free := [], fences := []
           adviceTimer := none }

theorem State.place_body (p : Port) (r : Outbound) (s : State) : (s.place p r).body = s.body := by
  unfold State.place
  split
  · cases p <;> rfl
  · rfl

theorem State.armAdvice_eq (s : State) : s.armAdvice = { s with adviceTimer := s.armAdvice.adviceTimer } := by
  unfold State.armAdvice
  split <;> rfl

theorem State.produceRetire_body (n : Nat) (s : State) : (s.produceRetire n).body = s.body := by
  unfold State.produceRetire
  split
  · exact State.place_body _ _ s
  · rfl

theorem State.liftFenceOf_body (ticket : Nat) (s : State) : (s.liftFenceOf ticket).body = s.body := by
  unfold State.liftFenceOf
  split
  · rfl
  · exact State.produceRetire_body _ _

theorem State.reportArms_eq (p : Port) (s : State) :
    s.reportArms p = { s with adviceTimer := (s.reportArms p).adviceTimer } := by
  unfold State.reportArms
  split
  · exact State.armAdvice_eq s
  · rfl

theorem State.heard_body (p : Port) (ticket : Nat) (ws : List Word) (s : State) :
    (s.heard p ticket ws).body = s.body := by
  unfold State.heard
  rw [State.reportArms_eq]
  have h1 (u : State) : (u.fencePart p ticket).body = u.body := by
    unfold State.fencePart
    split
    · exact State.liftFenceOf_body ticket u
    · rfl
  refine (h1 _).trans ((State.place_body _ _ _).trans ?_)
  cases p <;> rfl

section
variable {s t : State} (h : t.body = s.body)
include h

theorem State.body_records : t.records = s.records := (congrArg State.records h : t.body.records = _)
theorem State.body_contexts : t.contexts = s.contexts := (congrArg State.contexts h : t.body.contexts = _)
theorem State.body_watch : t.watch = s.watch := (congrArg State.watch h : t.body.watch = _)
theorem State.body_touch : t.touch = s.touch := (congrArg State.touch h : t.body.touch = _)
theorem State.body_promo : t.promo = s.promo := (congrArg State.promo h : t.body.promo = _)
theorem State.body_clean : t.clean = s.clean := (congrArg State.clean h : t.body.clean = _)
theorem State.body_dirtyList : t.dirtyList = s.dirtyList := (congrArg State.dirtyList h : t.body.dirtyList = _)
theorem State.body_settings : t.settings = s.settings := (congrArg State.settings h : t.body.settings = _)
theorem State.body_epoch : t.epoch = s.epoch := (congrArg State.epoch h : t.body.epoch = _)
theorem State.body_stats : t.stats = s.stats := (congrArg State.stats h : t.body.stats = _)
theorem State.body_routes : t.routes = s.routes := (congrArg State.routes h : t.body.routes = _)
theorem State.body_held (e : Nat) : t.held e = s.held e := by simp [State.held, State.body_routes h]
theorem State.body_residentOf (e : Nat) : t.residentOf e = s.residentOf e :=
  State.residentOf_congr (State.body_records h) e
theorem State.body_segmentsOf (e : Nat) : t.segmentsOf e = s.segmentsOf e :=
  State.segmentsOf_congr (State.body_records h) e
theorem State.body_watchOf (e : Nat) : t.watchOf e = s.watchOf e := State.watchOf_congr (State.body_watch h) e

end

/-- Without a fence to lift the fence part does nothing. -/
theorem State.fencePart_of_none {p : Port} {ticket : Nat} {s : State}
    (h : p = .flash → ∀ f ∈ s.fences, f.ticket ≠ ticket) : s.fencePart p ticket = s := by
  unfold State.fencePart
  split
  · rename_i hp
    have : s.fences.find? (fun f => f.ticket == ticket) = none :=
      List.find?_eq_none.2 fun f hf => by simpa using h hp f hf
    simp only [State.liftFenceOf, this]
  · rfl

/-- What a report's taking leaves where no fence bears its ticket. -/
theorem State.heard_of_no_fence {s : State} {p : Port} {ticket : Nat} {ws : List Word}
    (h : p = .flash → ∀ f ∈ s.fences, f.ticket ≠ ticket) :
    s.heard p ticket ws = { ((s.popFifo p).place p (.answer 0x0E .ok (word ticket :: ws.tail))) with
      adviceTimer := (s.heard p ticket ws).adviceTimer } := by
  have h1 : ((s.popFifo p).answerReport p .ok ticket ws).fencePart p ticket =
      (s.popFifo p).place p (.answer 0x0E .ok (word ticket :: ws.tail)) := by
    refine State.fencePart_of_none fun hp f hf => h hp f ?_
    have : ((s.popFifo p).answerReport p .ok ticket ws).fences = s.fences := by
      simp [State.answerReport, State.popFifo]
    rwa [this] at hf
  unfold State.heard
  rw [h1]
  exact State.reportArms_eq p _

theorem State.hasRoom_popFifo (p q : Port) (n : Nat) (s : State) : (s.popFifo p).hasRoom q n = s.hasRoom q n := by
  cases p <;> cases q <;> rfl

/-- The queues after a report's taking where no fence bears its ticket: the answer joins its own port's. -/
theorem State.heard_out {s : State} {p : Port} {ticket : Nat} {ws : List Word}
    (h : p = .flash → ∀ f ∈ s.fences, f.ticket ≠ ticket) (hr : s.hasRoom p 1 = true) (q : Port) :
    ((s.heard p ticket ws).link q).out =
      (s.link q).out ++ if q = p then [.answer 0x0E .ok (word ticket :: ws.tail)] else [] := by
  rw [State.heard_of_no_fence h]
  have hr' : (s.popFifo p).hasRoom p 1 = true := by rw [State.hasRoom_popFifo, hr]
  have hl (u : State) (x : Option Nat) : State.link { u with adviceTimer := x } q = u.link q := by cases q <;> rfl
  rw [hl]
  by_cases hq : q = p
  · subst hq
    rw [State.link_place_same _ hr', if_pos rfl]
    cases q <;> rfl
  · rw [State.link_place_of_ne _ _ hq, if_neg hq, List.append_nil]
    unfold State.popFifo
    rw [State.link_setLink_of_ne s p q _ hq]

theorem State.heard_fields {s : State} {p : Port} {ticket : Nat} {ws : List Word}
    (h : p = .flash → ∀ f ∈ s.fences, f.ticket ≠ ticket) :
    (s.heard p ticket ws).free = s.free ∧ (s.heard p ticket ws).fences = s.fences ∧
      (s.heard p ticket ws).flashOwed = s.flashOwed := by
  rw [State.heard_of_no_fence h]
  simp [State.popFifo]

/-- The answer of a report taken on any port joins its queue. -/
theorem State.heard_answer {s : State} {p : Port} {ticket : Nat} {ws : List Word} (hr : s.hasRoom p 1 = true) :
    (s.link p).out ++ [.answer 0x0E .ok (word ticket :: ws.tail)] <+: ((s.heard p ticket ws).link p).out := by
  have hr' : (s.popFifo p).hasRoom p 1 = true := by rw [State.hasRoom_popFifo, hr]
  have hf (u : State) : u.Keeps (u.fencePart p ticket) := by
    unfold State.fencePart
    split
    · exact State.liftFenceOf_keeps ticket u
    · exact .refl u
  have ha (u : State) : u.Keeps (u.reportArms p) := by
    unfold State.reportArms
    split
    · exact State.armAdvice_keeps u
    · exact .refl u
  have h1 : ((s.popFifo p).answerReport p .ok ticket ws).Keeps (s.heard p ticket ws) := (hf _).trans (ha _)
  refine .trans ?_ (h1.link p).out
  unfold State.answerReport
  rw [State.link_place_same _ hr']
  cases p <;> exact List.prefix_rfl

/-! ### Removal -/

/-- A state without what a removal changes. -/
def State.unremoved (s : State) : State :=
  { s with records := [], clean := { b0 := [], b1 := [], b2 := [], b3 := [] }, dirtyList := [], watch := [], touch := []
           promo := [], free := [], fences := [], flash := .empty, flashOwed := [] }

theorem State.remove_unremoved (f : SlotFate) (r : Resident) (s : State) :
    (s.remove f r).unremoved = s.unremoved := by
  have h1 (u : State) : (((u.drop r).returnHeat r.extent (r.heat.caughtUp s.settings s.epoch)).settleSlot f r.slot).unremoved =
      u.unremoved := by
    rw [State.settleSlot_eq, State.returnHeat_eq]
    rfl
  have h2 : (s.produceRetire r.slot).unremoved = s.unremoved := by
    unfold State.produceRetire State.place
    split
    · split <;> rfl
    · rfl
  simp only [State.remove]
  split
  · exact (h1 _).trans h2
  · exact h1 s

section
variable {s t : State} (h : t.unremoved = s.unremoved)
include h

theorem State.unremoved_contexts : t.contexts = s.contexts := (congrArg State.contexts h : t.unremoved.contexts = _)
theorem State.unremoved_stats : t.stats = s.stats := (congrArg State.stats h : t.unremoved.stats = _)
theorem State.unremoved_routes : t.routes = s.routes := (congrArg State.routes h : t.unremoved.routes = _)
theorem State.unremoved_claims : t.claims = s.claims := (congrArg State.claims h : t.unremoved.claims = _)
theorem State.unremoved_front : t.front = s.front := (congrArg State.front h : t.unremoved.front = _)
theorem State.unremoved_disk : t.disk = s.disk := (congrArg State.disk h : t.unremoved.disk = _)
theorem State.unremoved_diskOwed : t.diskOwed = s.diskOwed := (congrArg State.diskOwed h : t.unremoved.diskOwed = _)
theorem State.unremoved_tickets : t.tickets = s.tickets := (congrArg State.tickets h : t.unremoved.tickets = _)

end

/-- A removal, by its parts; the announcement changes the flash link and what is owed to it alone. -/
theorem State.remove_eq (f : SlotFate) (r : Resident) (s : State) :
    s.remove f r = (((if f.announced then s.produceRetire r.slot else s).drop r).returnHeat r.extent
      (r.heat.caughtUp s.settings s.epoch)).settleSlot f r.slot := rfl

theorem State.announced_body (f : SlotFate) (n : Nat) (s : State) :
    (if f.announced then s.produceRetire n else s).body = s.body := by
  split
  · exact State.produceRetire_body n s
  · rfl

theorem State.remove_records (f : SlotFate) (r : Resident) (s : State) : (s.remove f r).records = (s.drop r).records := by
  rw [State.remove_eq, State.settleSlot_records, State.returnHeat_records]
  show List.filter _ (State.records (if f.announced then s.produceRetire r.slot else s)) = _
  rw [State.body_records (State.announced_body f r.slot s)]
  rfl

theorem State.residentOf_remove_same (f : SlotFate) (r : Resident) (s : State) :
    (s.remove f r).residentOf r.extent = none := by
  rw [State.residentOf_congr (State.remove_records f r s), State.residentOf_drop_same]

theorem State.residentOf_remove_of_ne (f : SlotFate) (r : Resident) (s : State) {e : Nat} (he : e ≠ r.extent) :
    (s.remove f r).residentOf e = s.residentOf e := by
  rw [State.residentOf_congr (State.remove_records f r s), State.residentOf_drop_of_ne r s he]

theorem State.segmentsOf_remove_same (f : SlotFate) (r : Resident) (s : State) :
    (s.remove f r).segmentsOf r.extent = none :=
  State.segmentsOf_eq_none.2 (State.residentOf_remove_same f r s)

theorem State.segmentsOf_remove_of_ne (f : SlotFate) (r : Resident) (s : State) {e : Nat} (he : e ≠ r.extent) :
    (s.remove f r).segmentsOf e = s.segmentsOf e := by
  simp only [State.segmentsOf, State.residentOf_remove_of_ne f r s he]

theorem State.produceRetire_free (n : Nat) (s : State) : (s.produceRetire n).free = s.free := by
  unfold State.produceRetire
  split
  · simp
  · rfl

theorem State.produceRetire_fences (n : Nat) (s : State) : (s.produceRetire n).fences = s.fences := by
  unfold State.produceRetire
  split
  · simp
  · rfl

theorem State.remove_freed_free (r : Resident) (s : State) : (s.remove .freed r).free = insertBy id r.slot s.free := by
  rw [State.remove_eq]
  show insertBy id r.slot (((State.drop r (s.produceRetire r.slot))).returnHeat r.extent _).free = _
  rw [State.returnHeat_eq]
  show insertBy id r.slot (s.produceRetire r.slot).free = _
  rw [State.produceRetire_free]

theorem State.remove_freed_fences (r : Resident) (s : State) : (s.remove .freed r).fences = s.fences := by
  rw [State.remove_eq, State.settleSlot_fences (by simp), State.returnHeat_eq]
  exact State.produceRetire_fences r.slot s

/-- What a removal leaves on the flash link and among what is owed to it. -/
theorem State.remove_flash (f : SlotFate) (r : Resident) (s : State) :
    (s.remove f r).flash = (if f.announced then s.produceRetire r.slot else s).flash ∧
      (s.remove f r).flashOwed = (if f.announced then s.produceRetire r.slot else s).flashOwed := by
  rw [State.remove_eq, State.settleSlot_eq, State.returnHeat_eq]
  exact ⟨rfl, rfl⟩

theorem State.produceRetire_placed {s : State} (n : Nat) (h : s.flash.out.length < 16) (ho : s.flashOwed = []) :
    (s.produceRetire n).flash.out = s.flash.out ++ [.retireSlot n] ∧ (s.produceRetire n).flashOwed = [] := by
  have hr : s.hasRoom .flash 1 = true := State.hasRoom_of_lt h
  unfold State.produceRetire
  rw [hr, ho, if_pos (by rfl)]
  refine ⟨?_, by simp [ho]⟩
  show ((s.place .flash (.retireSlot n)).link .flash).out = _
  rw [State.link_place_same _ hr]
  rfl

theorem State.produceRetire_owed {s : State} (n : Nat) (h : 16 ≤ s.flash.out.length ∨ s.flashOwed ≠ []) :
    s.produceRetire n = { s with flashOwed := s.flashOwed ++ [.retire n] } := by
  unfold State.produceRetire
  rw [if_neg]
  simp only [Bool.and_eq_true, not_and, Bool.not_eq_true]
  intro hr
  rcases h with h | h
  · rw [State.not_hasRoom_of_le (p := .flash) h] at hr
    cases hr
  · simpa using h

/-- The heat of a removed record: on the Watch List, or with its Promotion Queue entry gone (R14, R30). -/
theorem State.remove_heat (f : SlotFate) (r : Resident) (s : State) :
    let h := r.heat.caughtUp s.settings s.epoch
    (h.heat = 0 → (s.remove f r).promo = without r.extent s.promo ∧ (s.remove f r).watch = s.watch ∧
      (s.remove f r).touch = s.touch) ∧
    (h.heat ≠ 0 → s.watch.length < 4096 → (s.remove f r).promo = s.promo ∧
      (s.remove f r).touch = r.extent :: s.touch ∧ (s.watchOf r.extent = none →
        ∃ w, (s.remove f r).watchOf r.extent = some w ∧ w.heat = h)) := by
  intro h
  have hb := State.announced_body f r.slot s
  rw [State.remove_eq]
  generalize (if f.announced then s.produceRetire r.slot else s) = u at hb ⊢
  have hset (v : State) : (v.settleSlot f r.slot).promo = v.promo ∧ (v.settleSlot f r.slot).watch = v.watch ∧
      (v.settleSlot f r.slot).touch = v.touch := by
    rw [State.settleSlot_eq]
    exact ⟨rfl, rfl, rfl⟩
  obtain ⟨h1, h2, h3⟩ := hset ((u.drop r).returnHeat r.extent h)
  refine ⟨fun k => ?_, fun k hl => ?_⟩
  · have : (u.drop r).returnHeat r.extent h = (u.drop r).unqueue r.extent := if_pos k
    rw [h1, h2, h3, this]
    have hp : u.promo = s.promo := State.body_promo hb
    have hw : u.watch = s.watch := State.body_watch hb
    have ht : u.touch = s.touch := State.body_touch hb
    exact ⟨congrArg (without r.extent) hp, hw, ht⟩
  · have hroom : (u.drop r).watchRoom = u.drop r := by
      rw [State.watchRoom, if_pos]
      show u.watch.length < 4096
      rw [State.body_watch hb]
      exact hl
    have : (u.drop r).returnHeat r.extent h = (u.drop r).enterWatch .head r.extent h := if_neg k
    rw [h1, h3, State.watchOf_congr h2, this]
    unfold State.enterWatch
    rw [hroom]
    have hp : u.promo = s.promo := State.body_promo hb
    have ht : u.touch = s.touch := State.body_touch hb
    refine ⟨hp, congrArg (r.extent :: ·) ht,
      fun hw => ⟨{ place := lowestGap 0 u.watch, extent := r.extent, heat := h }, ?_, rfl⟩⟩
    refine find?_insertBy_of_none _ _ _ u.watch (by simp) ?_
    exact (State.watchOf_congr (State.body_watch hb) _).trans hw

/-! ### The end of a move's record -/

theorem State.store_held (a : ListEnd) (r : Resident) (s : State) (e : Nat) : (s.store a r).held e = s.held e := rfl

/-- The end of a move's record: it returns to RESIDENT, and is removed if it is then empty and unheld (R3, R5,
R109). -/
theorem State.endRecord_eq {s : State} {f : SlotFate} {r old : Resident} (h : s.residentOf r.extent = some old) :
    s.endRecord f r =
      if r.isEmpty && !s.held r.extent then
        (s.store .tail { r with state := .resident }).remove f { r with state := .resident }.settled
      else s.store .tail { r with state := .resident } := by
  have h1 := State.residentOf_store_same (r := { r with state := .resident }) .tail h
  unfold State.endRecord State.retireIfEmpty
  rw [show r.extent = ({ r with state := .resident } : Resident).extent from rfl, h1]
  simp only [Resident.settled_isEmpty, Resident.settled_state, State.store_held, beq_self_eq_true, Bool.and_true]
  rfl

/-- The end of a move's record beside the record's other extents. -/
theorem State.segmentsOf_endRecord_of_ne {s : State} {f : SlotFate} {r old : Resident}
    (h : s.residentOf r.extent = some old) {e : Nat} (he : e ≠ r.extent) :
    (s.endRecord f r).segmentsOf e = s.segmentsOf e := by
  rw [State.endRecord_eq h]
  split
  · rw [State.segmentsOf_remove_of_ne _ _ _ (by simpa using he)]
    exact State.segmentsOf_store_of_ne .tail { r with state := .resident } s he
  · exact State.segmentsOf_store_of_ne .tail { r with state := .resident } s he

theorem State.endRecord_kept {s : State} {f : SlotFate} {r old : Resident} (h : s.residentOf r.extent = some old)
    (hk : r.isEmpty = false ∨ s.held r.extent = true) :
    s.endRecord f r = s.store .tail { r with state := .resident } := by
  rw [State.endRecord_eq h, if_neg]
  rcases hk with k | k <;> simp [k]

theorem State.endRecord_unremoved {s : State} {f : SlotFate} {r old : Resident} (h : s.residentOf r.extent = some old) :
    (s.endRecord f r).unremoved = s.unremoved := by
  rw [State.endRecord_eq h]
  split
  · exact (State.remove_unremoved _ _ _).trans rfl
  · rfl

end Sys2Proof.Machine
end

section
/-! PROOFS. The completion of a move at the report of its second order. -/

namespace Sys2Proof.Machine

theorem addSat_eq (n k : Nat) : addSat n k = min (n + k) 4294967295 := rfl

/-- The clean list of a band after a record is stored (R18). -/
theorem State.mem_store_clean {a : ListEnd} {r : Resident} {s : State} {b : Band} (h : r.cleanBand = some b) :
    r.extent ∈ (s.store a r).clean.get b :=
  (State.mem_fileLists_clean a r.settled _ b r.extent).2 (.inr ⟨by simp, by simpa using h⟩)

theorem State.store_promo (a : ListEnd) (r : Resident) (s : State) :
    (s.store a r).promo = if r.valid ||| r.lost = SegSet.all then without r.extent s.promo else s.promo := by
  show (if r.settled.valid ||| r.settled.lost = _ then without r.settled.extent s.promo else s.promo) = _
  simp

theorem State.store_dirtyList (a : ListEnd) (r : Resident) (s : State) :
    (s.store a r).dirtyList =
      if r.dirty = 0#32 then without r.extent s.dirtyList
      else if r.extent ∈ s.dirtyList then s.dirtyList else s.dirtyList ++ [r.extent] := by
  show (State.fileLists a r.settled _).dirtyList = _
  rw [State.fileLists_dirtyList]
  simp only [Resident.settled_dirty, Resident.settled_extent]

/-- The end of a move's record stores it in its own place, unless it is removed; its segments, and what else of the map
stands. -/
theorem State.segmentsOf_endRecord_same {s : State} {f : SlotFate} {r old : Resident}
    (h : s.residentOf r.extent = some old) :
    (r.isEmpty = false ∨ s.held r.extent = true →
      (s.endRecord f r).segmentsOf r.extent = some (r.slot, .resident, r.valid, r.dirty, r.lost)) ∧
    (r.isEmpty = true → s.held r.extent = false → (s.endRecord f r).segmentsOf r.extent = none) := by
  refine ⟨fun k => ?_, fun k l => ?_⟩
  · rw [State.endRecord_kept h k]
    exact State.segmentsOf_store_same (r := { r with state := .resident }) .tail h
  · rw [State.endRecord_eq h, if_pos (by simp [k, l])]
    have h2 := State.segmentsOf_remove_same f ({ r with state := .resident } : Resident).settled
      (s.store .tail { r with state := .resident })
    rwa [Resident.settled_extent] at h2

/-! ### FILL -/

/-- The state in which the record of a completed FILL ends its move. -/
def State.filled (c : Fin 4) (s : State) : State :=
  { s.setContext c .idle with stats := { s.stats with fillsDone := addSat s.stats.fillsDone 1 } }

theorem State.completeFill_eq {s : State} {m : FillMove} {r : Resident} (c : Fin 4)
    (h : s.residentOf m.extent = some r) :
    s.completeFill c m = (s.filled c).endRecord .freed { r with valid := r.valid ||| m.validate } := by
  have h' : (s.filled c).residentOf m.extent = some r := h
  show (match (s.filled c).residentOf m.extent with
    | none => s.filled c
    | some r => (s.filled c).endRecord .freed { r with valid := r.valid ||| m.validate }) = _
  rw [h']

/-- A FILL completes at its WRITE_SLOT report (R113). -/
theorem fill_completes {s : State} {c : Fin 4} {m : FillMove} {r : Resident} {ticket timer : Nat} {ws : List Word}
    (hv : s.service = .serving) (ho : s.offered .flash (.report .flash ticket c.val 0) = some ws)
    (hc : s.contexts[c] = .fill m) (hp : m.phase = .writing) (hm : m.order = .placed ticket timer)
    (hr : s.residentOf m.extent = some r) :
    let valid := r.valid ||| m.validate
    ∃ t, exec (.report .flash ticket c.val 0) s = .next t ∧ t.contexts = s.contexts.set c .idle ∧
      t.stats.fillsDone = min (s.stats.fillsDone + 1) 4294967295 ∧
      s.flash.out ++ [.answer 0x0E .ok (word ticket :: ws.tail)] <+: t.flash.out ∧
      (∀ e, e ≠ m.extent → t.segmentsOf e = s.segmentsOf e) ∧
      (valid ≠ 0#32 ∨ r.lost ≠ 0#32 ∨ s.held m.extent = true →
        t.segmentsOf m.extent = some (r.slot, .resident, valid, r.dirty, r.lost) ∧
        (r.dirty = 0#32 → r.pinned = false →
          m.extent ∈ t.clean.get (if r.classified = .bypass then .b0 else r.heat.band)) ∧
        (valid ||| r.lost = SegSet.all → m.extent ∉ t.promo)) ∧
      (valid = 0#32 → r.lost = 0#32 → s.held m.extent = false → t.segmentsOf m.extent = none) := by
  intro valid
  have hb := State.heard_body .flash ticket ws s
  have hans := State.heard_answer (ticket := ticket) (ws := ws) (State.hasRoom_of_offered ho)
  have hexec := exec_report_current hv ho (by rfl) (by rw [hc]; simp [Context.orderPort, FillMove.orderPort, hp])
    (by rw [hc]; simp [Context.placed, hm])
  generalize s.heard .flash ticket ws = v at hb hans hexec
  have hvc : v.contexts[c] = .fill m := by rw [State.body_contexts hb, hc]
  have hvr : v.residentOf m.extent = some r := by rw [State.body_residentOf hb, hr]
  have hact : v.actOnReport c 0 = (v.filled c).endRecord .freed { r with valid := valid } := by
    simp only [State.actOnReport, hvc, hp]
    exact State.completeFill_eq c hvr
  have hre : r.extent = m.extent := State.residentOf_extent hr
  generalize hr' : ({ r with valid := valid } : Resident) = r' at hact
  have hfr : (v.filled c).residentOf r'.extent = some r := by
    rw [← hr']
    exact hre ▸ hvr
  have hext : r'.extent = m.extent := hr' ▸ hre
  have hkeeps : v.Keeps ((v.actOnReport c 0).finish) :=
    (State.Becomes.actOnReport (L := licenceOf .startEvent) ⟨⟨rfl, rfl, rfl⟩, rfl⟩ c 0 v).keeps.trans
      (State.Ends.finish _).keeps
  have hfin := State.Ends.finish (v.actOnReport c 0)
  rw [hact] at hfin hkeeps
  rw [hact] at hexec
  have hun := State.endRecord_unremoved (f := .freed) hfr
  have hempty : r'.isEmpty = true ↔ valid = 0#32 ∧ r.lost = 0#32 := by
    rw [Resident.isEmpty_iff, ← hr']
  have hheld : (v.filled c).held r'.extent = s.held m.extent := by
    rw [hext]
    exact State.body_held hb m.extent
  obtain ⟨hkept, hgone⟩ := State.segmentsOf_endRecord_same (f := .freed) hfr
  refine ⟨_, hexec, ?_, ?_, ?_, fun e he => ?_, fun k => ?_, fun k1 k2 k3 => ?_⟩
  · show (State.finish _).contexts = _
    rw [hfin.contexts, State.unremoved_contexts hun]
    show v.contexts.set c .idle = _
    rw [State.body_contexts hb]
  · show (State.finish _).stats.fillsDone = _
    rw [hfin.fillsDone, State.unremoved_stats hun]
    show addSat v.stats.fillsDone 1 = _
    rw [State.body_stats hb, addSat_eq]
  · exact hans.trans hkeeps.flash.out
  · show (State.finish _).segmentsOf e = _
    rw [hfin.segmentsOf, State.segmentsOf_endRecord_of_ne hfr (hext ▸ he)]
    exact State.body_segmentsOf hb e
  · have hk : r'.isEmpty = false ∨ (v.filled c).held r'.extent = true := by
      rw [hheld, ← Bool.not_eq_true, hempty]
      tauto
    refine ⟨?_, fun hd hpin => ?_, fun hall => ?_⟩
    · show (State.finish _).segmentsOf _ = _
      rw [hfin.segmentsOf, ← hext, hkept hk, ← hr']
    · show _ ∈ (State.finish _).clean.get _
      rw [hfin.clean, State.endRecord_kept hfr hk, ← hext]
      refine State.mem_store_clean (r := { r' with state := .resident }) ?_
      rw [Resident.cleanBand, ← hr']
      exact if_pos ⟨hd, hpin, rfl⟩
    · show _ ∉ (State.finish _).promo
      rw [hfin.promo, State.endRecord_kept hfr hk, State.store_promo, if_pos (by rw [← hr']; exact hall), ← hext]
      simp
  · show (State.finish _).segmentsOf _ = _
    rw [hfin.segmentsOf, ← hext]
    exact hgone (hempty.2 ⟨k1, k2⟩) (hheld.trans k3)

/-! ### FLUSH -/

/-- The state in which the record of a completed FLUSH ends its move. -/
def State.flushed (c : Fin 4) (s : State) : State :=
  { s.setContext c .idle with stats := { s.stats with flushesDone := addSat s.stats.flushesDone 1 } }

/-- A record after its FLUSH completed with a cleaned set (R121). -/
def Resident.cleanedBy (a : SegSet) (r : Resident) : Resident :=
  { r with state := .resident, dirty := segLess r.dirty a, drainMark := false, retries := 0 }

theorem State.retireIfEmpty_of_nonempty {f : SlotFate} {s : State} {e : Nat} {r : Resident}
    (h : s.residentOf e = some r) (hr : r.isEmpty = false) : s.retireIfEmpty f e = s := by
  simp [State.retireIfEmpty, h, hr]

/-- A CLEAN_MARK's production changes the contexts, the flash link and what is owed to it alone (R126). -/
theorem State.produceMark_body (c : Fin 4) (n : Nat) (a : SegSet) (s : State) :
    State.body { s.produceMark c n a with contexts := s.contexts } = s.body := by
  unfold State.produceMark State.place
  split
  · split <;> rfl
  · rfl

theorem State.produceMark_records (c : Fin 4) (n : Nat) (a : SegSet) (s : State) :
    (s.produceMark c n a).records = s.records :=
  State.body_records (t := { s.produceMark c n a with contexts := s.contexts }) (State.produceMark_body c n a s)

theorem State.produceMark_placed {s : State} (c : Fin 4) (n : Nat) (a : SegSet) (h : s.flash.out.length < 16)
    (ho : s.flashOwed = []) :
    (s.produceMark c n a).contexts = s.contexts.set c .idle ∧
      (s.produceMark c n a).flash.out = s.flash.out ++ [.cleanMark n a] := by
  have hr : s.hasRoom .flash 1 = true := State.hasRoom_of_lt h
  unfold State.produceMark
  rw [hr, ho, if_pos (by rfl)]
  refine ⟨by simp [State.contexts_setContext], ?_⟩
  show ((s.place .flash (.cleanMark n a)).link .flash).out = _
  rw [State.link_place_same _ hr]
  rfl

theorem State.produceMark_held {s : State} (c : Fin 4) (n : Nat) (a : SegSet)
    (h : 16 ≤ s.flash.out.length ∨ s.flashOwed ≠ []) :
    s.produceMark c n a = { s.setContext c (.marking n a) with flashOwed := s.flashOwed ++ [.mark c] } := by
  unfold State.produceMark
  rw [if_neg]
  simp only [Bool.and_eq_true, not_and, Bool.not_eq_true]
  intro hr
  rcases h with h | h
  · rw [State.not_hasRoom_of_le (p := .flash) h] at hr
    cases hr
  · simpa using h

theorem State.completeFlush_eq {s : State} {m : FlushMove} {r : Resident} (c : Fin 4)
    (h : s.residentOf m.extent = some r) (hr : r.isEmpty = false) :
    s.completeFlush c m =
      if m.cleaned r.dirty = 0#32 then (s.flushed c).store .tail (r.cleanedBy (m.cleaned r.dirty))
      else ((s.flushed c).store .tail (r.cleanedBy (m.cleaned r.dirty))).produceMark c m.slot (m.cleaned r.dirty) := by
  have h' : (s.flushed c).residentOf m.extent = some r := h
  have hext : m.extent = (r.cleanedBy (m.cleaned r.dirty)).extent := (State.residentOf_extent h).symm
  have hs := State.residentOf_store_same .tail (r := r.cleanedBy (m.cleaned r.dirty)) (hext ▸ h')
  rw [← hext] at hs
  have hne : (r.cleanedBy (m.cleaned r.dirty)).settled.isEmpty = false := by
    rw [Resident.settled_isEmpty]
    exact hr
  show (match (s.flushed c).residentOf m.extent with
    | none => s.flushed c
    | some r =>
      (if m.cleaned r.dirty = 0#32 then (s.flushed c).store .tail (r.cleanedBy (m.cleaned r.dirty))
        else ((s.flushed c).store .tail (r.cleanedBy (m.cleaned r.dirty))).produceMark c m.slot
          (m.cleaned r.dirty)).retireIfEmpty .freed m.extent) = _
  rw [h']
  dsimp only
  split
  · exact State.retireIfEmpty_of_nonempty hs hne
  · exact State.retireIfEmpty_of_nonempty
      ((State.residentOf_congr (State.produceMark_records _ _ _ _) _).trans hs) hne

/-- A FLUSH completes at its WRITE_EXTENT report (R121, R126). -/
theorem flush_completes {s : State} {c : Fin 4} {m : FlushMove} {r : Resident} {ticket timer : Nat} {ws : List Word}
    (hv : s.service = .serving) (ho : s.offered .disk (.report .disk ticket c.val 0) = some ws)
    (hc : s.contexts[c] = .flush m) (hp : m.phase = .writing) (hm : m.order = .placed ticket timer)
    (hr : s.residentOf m.extent = some r) (hne : r.isEmpty = false) :
    let cleaned := segLess m.work m.redirtied &&& r.dirty
    let dirty := segLess r.dirty cleaned
    ∃ t u, exec (.report .disk ticket c.val 0) s = .next t ∧
      s.disk.out ++ [.answer 0x0E .ok (word ticket :: ws.tail)] <+: t.disk.out ∧
      t.segmentsOf m.extent = some (r.slot, .resident, r.valid, dirty, r.lost) ∧
      (∀ e, e ≠ m.extent → t.segmentsOf e = s.segmentsOf e) ∧
      t.residentOf m.extent = some u ∧ u.drainMark = false ∧ u.retries = 0 ∧
      u.stuck = (r.stuck && dirty != 0#32) ∧
      (dirty = 0#32 → m.extent ∉ t.dirtyList) ∧ (m.extent ∈ s.dirtyList → dirty ≠ 0#32 → t.dirtyList = s.dirtyList) ∧
      t.stats.flushesDone = min (s.stats.flushesDone + 1) 4294967295 ∧
      (cleaned = 0#32 → t.contexts = s.contexts.set c .idle) ∧
      (cleaned ≠ 0#32 → s.flash.out.length < 16 → s.flashOwed = [] →
        t.contexts = s.contexts.set c .idle ∧ s.flash.out ++ [.cleanMark m.slot cleaned] <+: t.flash.out) ∧
      (cleaned ≠ 0#32 → 16 ≤ s.flash.out.length ∨ s.flashOwed ≠ [] →
        t.contexts = s.contexts.set c (.marking m.slot cleaned) ∧ t.flashOwed = s.flashOwed ++ [.mark c]) := by
  intro cleaned dirty
  have hb := State.heard_body .disk ticket ws s
  have hans := State.heard_answer (ticket := ticket) (ws := ws) (State.hasRoom_of_offered ho)
  have hout := State.heard_out (s := s) (p := .disk) (ticket := ticket) (ws := ws) (by simp)
    (State.hasRoom_of_offered ho) .flash
  obtain ⟨-, -, howed⟩ := State.heard_fields (s := s) (p := .disk) (ticket := ticket) (ws := ws) (by simp)
  have hexec := exec_report_current hv ho (by rfl) (by rw [hc]; simp [Context.orderPort, FlushMove.orderPort, hp])
    (by rw [hc]; simp [Context.placed, hm])
  generalize s.heard .disk ticket ws = v at hb hans hexec hout howed
  simp only [reduceCtorEq, if_false, List.append_nil] at hout
  have hvc : v.contexts[c] = .flush m := by rw [State.body_contexts hb, hc]
  have hvr : v.residentOf m.extent = some r := by rw [State.body_residentOf hb, hr]
  generalize hw : (v.flushed c).store .tail (r.cleanedBy cleaned) = w
  have hact : v.actOnReport c 0 = if cleaned = 0#32 then w else w.produceMark c m.slot cleaned := by
    simp only [State.actOnReport, hvc, hp]
    rw [← hw]
    exact State.completeFlush_eq c hvr hne
  have hkeeps : v.Keeps ((v.actOnReport c 0).finish) :=
    (State.Becomes.actOnReport (L := licenceOf .startEvent) ⟨⟨rfl, rfl, rfl⟩, rfl⟩ c 0 v).keeps.trans
      (State.Ends.finish _).keeps
  have hfin := State.Ends.finish (v.actOnReport c 0)
  have hab : State.body { v.actOnReport c 0 with contexts := w.contexts } = w.body := by
    rw [hact]
    split
    · rfl
    · exact State.produceMark_body c m.slot cleaned w
  have hext : (r.cleanedBy cleaned).extent = m.extent := (State.residentOf_extent hr : r.extent = m.extent)
  have hwr : w.residentOf m.extent = some (r.cleanedBy cleaned).settled := by
    rw [← hw, ← hext]
    exact State.residentOf_store_same .tail (hext ▸ hvr)
  have har : (v.actOnReport c 0).residentOf m.extent = some (r.cleanedBy cleaned).settled :=
    (State.body_residentOf (t := { v.actOnReport c 0 with contexts := w.contexts }) hab m.extent).trans hwr
  have hdl : (v.actOnReport c 0).dirtyList =
      if dirty = 0#32 then without m.extent s.dirtyList
      else if m.extent ∈ s.dirtyList then s.dirtyList else s.dirtyList ++ [m.extent] := by
    refine (State.body_dirtyList hab).trans ?_
    rw [← hw, State.store_dirtyList, hext, show (v.flushed c).dirtyList = s.dirtyList from (State.body_dirtyList hb : v.dirtyList = _)]
    rfl
  obtain ⟨d, hd1, -, hd3⟩ := hfin.residentOf har
  have hwc : w.contexts = s.contexts.set c .idle := by
    rw [← hw]
    show v.contexts.set c .idle = _
    rw [State.body_contexts hb]
  have hwo : w.flash.out = s.flash.out := by
    rw [← hw]
    exact hout
  have hwf : w.flashOwed = s.flashOwed := by
    rw [← hw]
    exact howed
  refine ⟨_, _, hexec, hans.trans hkeeps.disk.out, ?_, fun e he => ?_, hd1, hd3 ?_, ?_, ?_, fun k => ?_,
    fun k1 k2 => ?_, ?_, fun k => ?_, fun k1 k2 k3 => ?_, fun k1 k2 => ?_⟩
  · show (State.finish _).segmentsOf _ = _
    rw [hfin.segmentsOf, State.segmentsOf_of_resident har]
    simp [Resident.cleanedBy, dirty]
  · show (State.finish _).segmentsOf _ = _
    rw [hfin.segmentsOf]
    refine (State.body_segmentsOf hab e).trans ?_
    rw [← hw, State.segmentsOf_store_of_ne .tail _ _ (hext ▸ he)]
    exact State.body_segmentsOf hb e
  · simp [Resident.settled_eq, Resident.cleanedBy]
  · simp [Resident.settled_eq, Resident.cleanedBy]
  · by_cases k : dirty = 0#32 <;> simp_all [Resident.settled_eq, Resident.cleanedBy, dirty]
  · show _ ∉ (State.finish _).dirtyList
    rw [hfin.dirtyList, hdl, if_pos k]
    simp
  · show (State.finish _).dirtyList = _
    rw [hfin.dirtyList, hdl, if_neg k2, if_pos k1]
  · show (State.finish _).stats.flushesDone = _
    rw [hfin.flushesDone]
    refine (congrArg Stats.flushesDone (State.body_stats hab)).trans ?_
    rw [← hw]
    show addSat v.stats.flushesDone 1 = _
    rw [State.body_stats hb, addSat_eq]
  · show (State.finish _).contexts = _
    rw [hfin.contexts, hact, if_pos k, hwc]
  · obtain ⟨h1, h2⟩ := State.produceMark_placed (s := w) c m.slot cleaned (by rw [hwo]; exact k2) (by rw [hwf]; exact k3)
    refine ⟨?_, ?_⟩
    · show (State.finish _).contexts = _
      rw [hfin.contexts, hact, if_neg k1, h1, hwc, Vector.set_set]
    · have h3 : (v.actOnReport c 0).flash.out = s.flash.out ++ [.cleanMark m.slot cleaned] := by
        rw [hact, if_neg k1, h2, hwo]
      exact h3 ▸ hfin.keeps.flash.out
  · have h1 := State.produceMark_held (s := w) c m.slot cleaned (by rw [hwo, hwf]; exact k2)
    refine ⟨?_, ?_⟩
    · show (State.finish _).contexts = _
      rw [hfin.contexts, hact, if_neg k1, h1]
      show w.contexts.set c _ = _
      rw [hwc, Vector.set_set]
    · show (State.finish _).flashOwed = _
      rw [hfin.flashOwed, hact, if_neg k1, h1]
      show w.flashOwed ++ _ = _
      rw [hwf]

end Sys2Proof.Machine

open Sys2Proof.Machine in
/-- Settles O34: what completes stores the record of its move, and the end of the event leaves its segments. -/
theorem aMoveCompletesAtItsSecondReport : Obligations.AMoveCompletesAtItsSecondReport :=
  ⟨fun _ _ _ _ _ _ _ => fill_completes, fun _ _ _ _ _ _ _ => flush_completes⟩

end

section
/-! PROOFS. The failure reports: charge, loss, heat penalty, or nothing but the end. -/

namespace Sys2Proof.Machine

/-! ### A current report of a move -/

/-- What a REPORT's taking leaves its move to act on. -/
structure State.Hears (p : Port) (ticket : Nat) (ws : List Word) (s v : State) : Prop where
  body : v.body = s.body
  answer : (s.link p).out ++ [.answer 0x0E .ok (word ticket :: ws.tail)] <+: (v.link p).out
  out : (p = .flash → ∀ f ∈ s.fences, f.ticket ≠ ticket) → ∀ q,
    (v.link q).out = (s.link q).out ++ if q = p then [.answer 0x0E .ok (word ticket :: ws.tail)] else []
  fields : (p = .flash → ∀ f ∈ s.fences, f.ticket ≠ ticket) →
    v.free = s.free ∧ v.fences = s.fences ∧ v.flashOwed = s.flashOwed

theorem State.Hears.front_out {p : Port} {ticket : Nat} {ws : List Word} {s v : State} (h : State.Hears p ticket ws s v)
    (hp : p ≠ .front) (hf : p = .flash → ∀ f ∈ s.fences, f.ticket ≠ ticket) : v.front.out = s.front.out := by
  have h1 := h.out hf .front
  rw [if_neg hp.symm, List.append_nil] at h1
  exact h1

theorem State.Hears.flash_out {ticket : Nat} {ws : List Word} {s v : State} (h : State.Hears .flash ticket ws s v)
    (hf : ∀ f ∈ s.fences, f.ticket ≠ ticket) :
    v.flash.out = s.flash.out ++ [.answer 0x0E .ok (word ticket :: ws.tail)] :=
  h.out (fun _ => hf) .flash

theorem State.Hears.flash_out_of_disk {ticket : Nat} {ws : List Word} {s v : State}
    (h : State.Hears .disk ticket ws s v) : v.flash.out = s.flash.out := by
  have h1 := h.out (by simp) .flash
  rw [if_neg (by simp), List.append_nil] at h1
  exact h1

theorem State.hears_heard {s : State} {p : Port} {ticket : Nat} {ws : List Word} (h : s.hasRoom p 1 = true) :
    State.Hears p ticket ws s (s.heard p ticket ws) :=
  ⟨State.heard_body p ticket ws s, State.heard_answer h, fun k => State.heard_out k h, fun k => State.heard_fields k⟩

theorem exec_report_fill {s : State} {p : Port} {c : Fin 4} {m : FillMove} {ticket timer status : Nat} {ws : List Word}
    (hv : s.service = .serving) (ho : s.offered p (.report p ticket c.val status) = some ws)
    (hst : validStatus p status = true) (hc : s.contexts[c] = .fill m) (hp : m.orderPort = p)
    (hm : m.order = .placed ticket timer) :
    ∃ v, exec (.report p ticket c.val status) s = .next (((v.actOnReport c status).finish).advance p) ∧
      State.Hears p ticket ws s v ∧ v.contexts[c] = .fill m := by
  have h := State.hears_heard (ticket := ticket) (ws := ws) (State.hasRoom_of_offered ho)
  exact ⟨_, exec_report_current hv ho hst (by rw [hc, ← hp]; rfl) (by rw [hc]; simp [Context.placed, hm]), h,
    by rw [State.body_contexts h.body, hc]⟩

theorem exec_report_flush {s : State} {p : Port} {c : Fin 4} {m : FlushMove} {ticket timer status : Nat}
    {ws : List Word} (hv : s.service = .serving) (ho : s.offered p (.report p ticket c.val status) = some ws)
    (hst : validStatus p status = true) (hc : s.contexts[c] = .flush m) (hp : m.orderPort = p)
    (hm : m.order = .placed ticket timer) :
    ∃ v, exec (.report p ticket c.val status) s = .next (((v.actOnReport c status).finish).advance p) ∧
      State.Hears p ticket ws s v ∧ v.contexts[c] = .flush m := by
  have h := State.hears_heard (ticket := ticket) (ws := ws) (State.hasRoom_of_offered ho)
  exact ⟨_, exec_report_current hv ho hst (by rw [hc, ← hp]; rfl) (by rw [hc]; simp [Context.placed, hm]), h,
    by rw [State.body_contexts h.body, hc]⟩

/-- A record returned to state RESIDENT. -/
theorem State.residentOf_store_resident {s : State} {r old : Resident} {e : Nat} (he : r.extent = e)
    (h : s.residentOf e = some old) : (s.store .tail { r with state := .resident }).residentOf e =
      some ({ r with state := .resident } : Resident).settled := by
  subst he
  exact State.residentOf_store_same (r := { r with state := .resident }) .tail h

/-! ### Owed notices -/

theorem State.residentOf_setOwed_same {s : State} {e : Nat} {r : Resident} (f : OwedNotice → OwedNotice)
    (h : s.residentOf e = some r) : (s.setOwed e f).residentOf e = some { r with owed := f r.owed } := by
  rw [State.residentOf_map (s := s) (fun x => if x.extent = e then { x with owed := f x.owed } else x) rfl
    (fun x => by split <;> rfl) e, h, Option.map_some, if_pos (State.residentOf_extent h)]

theorem State.segmentsOf_setOwed (e : Nat) (f : OwedNotice → OwedNotice) (s : State) (x : Nat) :
    (s.setOwed e f).segmentsOf x = s.segmentsOf x :=
  State.segmentsOf_map (s := s) (fun x => if x.extent = e then { x with owed := f x.owed } else x) rfl
    (fun x => by split <;> exact ⟨rfl, rfl, rfl, rfl, rfl, rfl⟩) x

theorem State.place_residentOf (p : Port) (r : Outbound) (s : State) (e : Nat) :
    (s.place p r).residentOf e = s.residentOf e :=
  State.body_residentOf (State.place_body p r s) e

theorem State.place_front_out {s : State} (r : Outbound) (h : s.front.out.length < 16) :
    (s.place .front r).front.out = s.front.out ++ [r] := by
  show ((s.place .front r).link .front).out = _
  rw [State.link_place_same _ (State.hasRoom_of_lt (p := .front) h)]
  rfl

theorem State.place_flash_out {s : State} (r : Outbound) (h : s.flash.out.length < 16) :
    (s.place .flash r).flash.out = s.flash.out ++ [r] := by
  show ((s.place .flash r).link .flash).out = _
  rw [State.link_place_same _ (State.hasRoom_of_lt (p := .flash) h)]
  rfl

/-- A state without the records and the front link, which a notice changes. -/
def State.unnoticed (s : State) : State := { s with records := [], front := .empty }

section
variable {s t : State} (h : t.unnoticed = s.unnoticed)
include h

theorem State.unnoticed_contexts : t.contexts = s.contexts := (congrArg State.contexts h : t.unnoticed.contexts = _)
theorem State.unnoticed_dirtyList : t.dirtyList = s.dirtyList := (congrArg State.dirtyList h : t.unnoticed.dirtyList = _)
theorem State.unnoticed_flash : t.flash = s.flash := (congrArg State.flash h : t.unnoticed.flash = _)
theorem State.unnoticed_stats : t.stats = s.stats := (congrArg State.stats h : t.unnoticed.stats = _)

end

theorem State.place_front_unnoticed (r : Outbound) (s : State) : (s.place .front r).unnoticed = s.unnoticed := by
  unfold State.place
  split <;> rfl

theorem State.noticeStuck_unnoticed (e : Nat) (s : State) : (s.noticeStuck e).unnoticed = s.unnoticed := by
  unfold State.noticeStuck
  split
  · exact State.place_front_unnoticed _ s
  · rfl

theorem State.noticeLost_unnoticed (e : Nat) (a : SegSet) (s : State) : (s.noticeLost e a).unnoticed = s.unnoticed := by
  unfold State.noticeLost
  split
  · exact State.place_front_unnoticed _ s
  · rfl

theorem State.segmentsOf_noticeStuck (e : Nat) (s : State) (x : Nat) :
    (s.noticeStuck e).segmentsOf x = s.segmentsOf x := by
  unfold State.noticeStuck
  split
  · exact State.body_segmentsOf (State.place_body _ _ s) x
  · exact State.segmentsOf_setOwed e _ s x

theorem State.segmentsOf_noticeLost (e : Nat) (a : SegSet) (s : State) (x : Nat) :
    (s.noticeLost e a).segmentsOf x = s.segmentsOf x := by
  unfold State.noticeLost
  split
  · exact State.body_segmentsOf (State.place_body _ _ s) x
  · exact State.segmentsOf_setOwed e _ s x

/-- A notice of an extent's record is placed, or owed as the record's owed notice. -/
theorem State.noticeStuck_residentOf {s : State} {e : Nat} {r : Resident} (h : s.residentOf e = some r) :
    ∃ o, (s.noticeStuck e).residentOf e = some { r with owed := o } ∧
      (s.front.out.length < 16 → (s.noticeStuck e).front.out = s.front.out ++ [.stuck e]) ∧
      (16 ≤ s.front.out.length → o = r.owed.withStuck) := by
  unfold State.noticeStuck
  by_cases hl : s.front.out.length < 16
  · rw [if_pos (State.hasRoom_of_lt (p := .front) hl)]
    exact ⟨r.owed, (State.place_residentOf _ _ _ _).trans h, fun _ => State.place_front_out _ hl, fun k => by omega⟩
  · rw [State.not_hasRoom_of_le (p := .front) (not_lt.1 hl)]
    exact ⟨_, State.residentOf_setOwed_same _ h, fun k => absurd k hl, fun _ => rfl⟩

theorem State.noticeLost_residentOf {s : State} {e : Nat} {r : Resident} (a : SegSet) (h : s.residentOf e = some r) :
    ∃ o, (s.noticeLost e a).residentOf e = some { r with owed := o } ∧
      (s.front.out.length < 16 → (s.noticeLost e a).front.out = s.front.out ++ [.lost e a]) ∧
      (16 ≤ s.front.out.length → o = r.owed.withLost a) := by
  unfold State.noticeLost
  by_cases hl : s.front.out.length < 16
  · rw [if_pos (State.hasRoom_of_lt (p := .front) hl)]
    exact ⟨r.owed, (State.place_residentOf _ _ _ _).trans h, fun _ => State.place_front_out _ hl, fun k => by omega⟩
  · rw [State.not_hasRoom_of_le (p := .front) (not_lt.1 hl)]
    exact ⟨_, State.residentOf_setOwed_same _ h, fun k => absurd k hl, fun _ => rfl⟩

/-! ### WRITE_EXTENT MEDIA_ERROR -/

/-- The state in which a charged record stands at the Dirty List's tail (R123). -/
def State.chargedTo (c : Fin 4) (r : Resident) (s : State) : State :=
  let u := (s.setContext c .idle).store .tail r.charged
  { u with dirtyList := without r.extent u.dirtyList ++ [r.extent] }

theorem State.chargeFlush_eq {s : State} {m : FlushMove} {r : Resident} (c : Fin 4)
    (h : s.residentOf m.extent = some r) (hd : r.dirty ≠ 0#32) :
    s.chargeFlush c m =
      if r.charged.stuck && !r.stuck then (s.chargedTo c r).noticeStuck m.extent else s.chargedTo c r := by
  have h' : (s.setContext c .idle).residentOf m.extent = some r := h
  unfold State.chargeFlush
  dsimp only
  rw [h', ← State.residentOf_extent h]
  dsimp only
  rw [if_neg hd]
  rfl

theorem State.chargedTo_residentOf {s : State} {r : Resident} (c : Fin 4) (h : s.residentOf r.extent = some r)
    (hd : r.dirty ≠ 0#32) : (s.chargedTo c r).residentOf r.extent = some r.charged := by
  refine (State.residentOf_store_same .tail (r := r.charged) (s := s.setContext c .idle) h).trans ?_
  rw [Resident.settled_of_dirty (show r.charged.dirty ≠ 0#32 from hd)]

theorem State.chargedTo_dirtyList {s : State} {r : Resident} (c : Fin 4) (hd : r.dirty ≠ 0#32) :
    (s.chargedTo c r).dirtyList = without r.extent s.dirtyList ++ [r.extent] := by
  show without r.extent ((s.setContext c .idle).store .tail r.charged).dirtyList ++ [r.extent] = _
  rw [State.store_dirtyList, if_neg (show r.charged.dirty ≠ 0#32 from hd)]
  split
  · rfl
  · rw [show (s.setContext c .idle).dirtyList = s.dirtyList from rfl, show r.charged.extent = r.extent from rfl]
    simp [without]

/-- A WRITE_EXTENT's MEDIA_ERROR charges the record (R123). -/
theorem flush_charged {s : State} {c : Fin 4} {m : FlushMove} {r : Resident} {ticket timer : Nat} {ws : List Word}
    (hv : s.service = .serving) (ho : s.offered .disk (.report .disk ticket c.val 1) = some ws)
    (hc : s.contexts[c] = .flush m) (hp : m.phase = .writing) (hm : m.order = .placed ticket timer)
    (hr : s.residentOf m.extent = some r) (hd : r.dirty ≠ 0#32) :
    ∃ t u, exec (.report .disk ticket c.val 1) s = .next t ∧ t.contexts = s.contexts.set c .idle ∧
      t.residentOf m.extent = some u ∧ u.retries = min (r.retries + 1) 3 ∧
      u.stuck = (r.stuck || decide (3 ≤ r.retries + 1)) ∧
      t.segmentsOf m.extent = some (r.slot, .resident, r.valid, r.dirty, r.lost) ∧
      (∀ e, e ≠ m.extent → t.segmentsOf e = s.segmentsOf e) ∧
      t.dirtyList = s.dirtyList.filter (fun e => e ≠ m.extent) ++ [m.extent] ∧
      (r.stuck = false → 2 ≤ r.retries → s.front.out.length < 16 →
        s.front.out ++ [.stuck m.extent] <+: t.front.out) ∧
      (r.stuck = false → 2 ≤ r.retries → 16 ≤ s.front.out.length → r.owed = .absent → u.owed = .stuck) := by
  obtain ⟨v, hexec, hh, hvc⟩ := exec_report_flush hv ho (by rfl) hc (by simp [FlushMove.orderPort, hp]) hm
  have hvr : v.residentOf m.extent = some r := by rw [State.body_residentOf hh.body, hr]
  have hre : r.extent = m.extent := State.residentOf_extent hr
  have hout : v.front.out = s.front.out := hh.front_out (by simp) (by simp)
  generalize hw : v.chargedTo c r = w
  have hact : v.actOnReport c 1 = if r.charged.stuck && !r.stuck then w.noticeStuck m.extent else w := by
    simp only [State.actOnReport, hvc, hp]
    rw [← hw]
    exact State.chargeFlush_eq c hvr hd
  have hfin := State.Ends.finish (v.actOnReport c 1)
  have hwr : w.residentOf m.extent = some r.charged := by
    rw [← hw, ← hre]
    exact State.chargedTo_residentOf c (hre ▸ hvr) hd
  have hwf : w.front.out = s.front.out := by
    rw [← hw]
    exact hout
  obtain ⟨o, hn1, hn2, hn3⟩ := State.noticeStuck_residentOf hwr
  have hun : (v.actOnReport c 1).unnoticed = w.unnoticed := by
    rw [hact]
    split
    · exact State.noticeStuck_unnoticed _ _
    · rfl
  have hseg (e : Nat) : (v.actOnReport c 1).segmentsOf e = w.segmentsOf e := by
    rw [hact]
    split
    · exact State.segmentsOf_noticeStuck _ _ _
    · rfl
  have hstuck (h1 : r.stuck = false) (h2 : 2 ≤ r.retries) : (r.charged.stuck && !r.stuck) = true := by
    simp only [Resident.charged, h1, Bool.false_or, Bool.not_false, Bool.and_true, decide_eq_true_eq]
    show 3 ≤ _
    omega
  obtain ⟨o', har, ho'⟩ : ∃ o', (v.actOnReport c 1).residentOf m.extent = some { r.charged with owed := o' } ∧
      ((r.charged.stuck && !r.stuck) = true → o' = o) := by
    rw [hact]
    split
    · exact ⟨o, hn1, fun _ => rfl⟩
    · rename_i k
      exact ⟨r.owed, hwr, fun j => absurd j k⟩
  obtain ⟨d, hd1, -, -⟩ := hfin.residentOf har
  refine ⟨_, _, hexec, ?_, hd1, rfl, rfl, ?_, fun e he => ?_, ?_, fun k1 k2 k3 => ?_, fun k1 k2 k3 k4 => ?_⟩
  · show (State.finish _).contexts = _
    rw [hfin.contexts, State.unnoticed_contexts hun, ← hw]
    show v.contexts.set c .idle = _
    rw [State.body_contexts hh.body]
  · show (State.finish _).segmentsOf _ = _
    rw [hfin.segmentsOf, State.segmentsOf_of_resident har]
    rfl
  · show (State.finish _).segmentsOf _ = _
    rw [hfin.segmentsOf, hseg, ← hw]
    refine (State.segmentsOf_store_of_ne .tail r.charged (v.setContext c .idle) (hre ▸ he)).trans ?_
    exact State.body_segmentsOf hh.body e
  · show (State.finish _).dirtyList = _
    rw [hfin.dirtyList, State.unnoticed_dirtyList hun, ← hw,
      State.chargedTo_dirtyList c hd, State.body_dirtyList hh.body, hre]
    rfl
  · have h1 : (v.actOnReport c 1).front.out = s.front.out ++ [.stuck m.extent] := by
      rw [hact, if_pos (hstuck k1 k2), hn2 (by rw [hwf]; exact k3), hwf]
    exact h1 ▸ hfin.keeps.front.out
  · show o' = _
    rw [ho' (hstuck k1 k2), hn3 (by rw [hwf]; exact k3), show r.charged.owed = r.owed from rfl, k4]
    rfl

/-! ### READ_SLOT MEDIA_ERROR -/

theorem State.markLost_unnoticed {s : State} (n : Nat) (a : SegSet) (h : s.flash.out.length < 16) :
    (s.markLost n a).records = s.records ∧ (s.markLost n a).contexts = s.contexts ∧
      (s.markLost n a).front = s.front ∧ (s.markLost n a).flash.out = s.flash.out ++ [.lostMark n a] ∧
      (s.markLost n a).stats.lostSegments = addSat s.stats.lostSegments (segCount a) := by
  have hb := State.place_body .flash (.lostMark n a) s
  refine ⟨(State.body_records hb : (s.place _ _).records = _), (State.body_contexts hb : (s.place _ _).contexts = _), ?_, State.place_flash_out _ h, ?_⟩
  · exact State.link_place_of_ne (p := .flash) (q := .front) (.lostMark n a) s (by simp)
  · show addSat (s.place .flash (.lostMark n a)).stats.lostSegments _ = _
    rw [State.body_stats hb]

theorem or_ne_zero_right {a b : SegSet} (h : b ≠ 0#32) : a ||| b ≠ 0#32 := by
  simp [BitVec.or_eq_zero_iff, h]

theorem State.loseFlush_eq {s : State} {m : FlushMove} {r r' : Resident} (c : Fin 4)
    (h : s.residentOf m.extent = some r) (hg : m.cleaned r.dirty ≠ 0#32)
    (h' : (((s.setContext c .idle).markLost r.slot (m.cleaned r.dirty)).noticeLost m.extent
      (m.cleaned r.dirty)).residentOf m.extent = some r') :
    s.loseFlush c m = (((s.setContext c .idle).markLost r.slot (m.cleaned r.dirty)).noticeLost m.extent
      (m.cleaned r.dirty)).endRecord .freed (r'.lose (m.cleaned r.dirty)) := by
  have h0 : (s.setContext c .idle).residentOf m.extent = some r := h
  unfold State.loseFlush
  dsimp only
  rw [h0]
  dsimp only
  rw [if_neg hg, h']

/-- A READ_SLOT's MEDIA_ERROR loses what it should have read (R122). -/
theorem flush_lost {s : State} {c : Fin 4} {m : FlushMove} {r : Resident} {ticket timer : Nat} {ws : List Word}
    (hv : s.service = .serving) (ho : s.offered .flash (.report .flash ticket c.val 1) = some ws)
    (hc : s.contexts[c] = .flush m) (hp : m.phase = .reading) (hm : m.order = .placed ticket timer)
    (hr : s.residentOf m.extent = some r) (hg : segLess m.work m.redirtied &&& r.dirty ≠ 0#32)
    (hf : ∀ f ∈ s.fences, f.ticket ≠ ticket) :
    let gone := segLess m.work m.redirtied &&& r.dirty
    ∃ t, exec (.report .flash ticket c.val 1) s = .next t ∧ t.contexts = s.contexts.set c .idle ∧
      t.segmentsOf m.extent =
        some (r.slot, .resident, segLess r.valid gone, segLess r.dirty gone, r.lost ||| gone) ∧
      (∀ e, e ≠ m.extent → t.segmentsOf e = s.segmentsOf e) ∧
      s.flash.out ++ [.answer 0x0E .ok (word ticket :: ws.tail), .lostMark r.slot gone] <+: t.flash.out ∧
      (s.front.out.length < 16 → s.front.out ++ [.lost m.extent gone] <+: t.front.out) ∧
      (16 ≤ s.front.out.length → r.owed = .absent →
        ∃ u, t.residentOf m.extent = some u ∧ u.owed = .lost gone) ∧
      t.stats.lostSegments = min (s.stats.lostSegments + segCount gone) 4294967295 := by
  intro gone
  obtain ⟨v, hexec, hh, hvc⟩ := exec_report_flush hv ho (by rfl) hc (by simp [FlushMove.orderPort, hp]) hm
  have hvr : v.residentOf m.extent = some r := by rw [State.body_residentOf hh.body, hr]
  have hre : r.extent = m.extent := State.residentOf_extent hr
  have hout : v.front.out = s.front.out := hh.front_out (by simp) fun _ => hf
  have hfout : v.flash.out = s.flash.out ++ [.answer 0x0E .ok (word ticket :: ws.tail)] := hh.flash_out hf
  have hroom : v.flash.out.length < 16 := by
    have := State.reportRoom_of_offered ho
    rw [hfout, List.length_append, List.length_singleton]
    omega
  obtain ⟨hm1, hm2, hm3, hm4, hm5⟩ := State.markLost_unnoticed (s := v.setContext c .idle) r.slot gone hroom
  generalize hw : (v.setContext c .idle).markLost r.slot gone = w at hm1 hm2 hm3 hm4 hm5
  have hwr : w.residentOf m.extent = some r := (State.residentOf_congr hm1 m.extent).trans hvr
  obtain ⟨o, hn1, hn2, hn3⟩ := State.noticeLost_residentOf gone hwr
  have hun := State.noticeLost_unnoticed m.extent gone w
  have hact : v.actOnReport c 1 =
      (w.noticeLost m.extent gone).endRecord .freed (Resident.lose gone { r with owed := o }) := by
    simp only [State.actOnReport, hvc, hp]
    have := State.loseFlush_eq (m := m) (r' := { r with owed := o }) c hvr hg (by rw [← hw] at hn1; exact hn1)
    rw [← hw]
    exact this
  have hne : (Resident.lose gone { r with owed := o }).isEmpty = false := by
    rw [← Bool.not_eq_true, Resident.isEmpty_iff, not_and]
    exact fun _ => or_ne_zero_right hg
  generalize hr' : Resident.lose gone { r with owed := o } = r' at hact hne
  have hext : r'.extent = m.extent := by rw [← hr']; exact hre
  have hnr : (w.noticeLost m.extent gone).residentOf r'.extent = some { r with owed := o } := hext ▸ hn1
  rw [State.endRecord_kept hnr (.inl hne)] at hact
  have hfin := State.Ends.finish (v.actOnReport c 1)
  have har : (v.actOnReport c 1).residentOf m.extent = some ({ r' with state := .resident } : Resident).settled := by
    rw [hact, State.residentOf_store_resident hext hn1]
  obtain ⟨d, hd1, -, -⟩ := hfin.residentOf har
  refine ⟨_, hexec, ?_, ?_, fun e he => ?_, ?_, fun k => ?_, fun k1 k2 => ⟨_, hd1, ?_⟩, ?_⟩
  · show (State.finish _).contexts = _
    rw [hfin.contexts, hact]
    show (w.noticeLost m.extent gone).contexts = _
    rw [State.unnoticed_contexts hun, hm2]
    show v.contexts.set c .idle = _
    rw [State.body_contexts hh.body]
  · show (State.finish _).segmentsOf _ = _
    rw [hfin.segmentsOf, State.segmentsOf_of_resident har, ← hr']
    simp [Resident.lose]
  · show (State.finish _).segmentsOf _ = _
    rw [hfin.segmentsOf, hact, State.segmentsOf_store_of_ne .tail _ _ (hext ▸ he), State.segmentsOf_noticeLost,
      State.segmentsOf_congr hm1]
    exact State.body_segmentsOf hh.body e
  · have h1 : (v.actOnReport c 1).flash.out =
        s.flash.out ++ [.answer 0x0E .ok (word ticket :: ws.tail), .lostMark r.slot gone] := by
      rw [hact]
      show (w.noticeLost m.extent gone).flash.out = _
      rw [State.unnoticed_flash hun, hm4]
      show v.flash.out ++ _ = _
      rw [hfout, List.append_assoc]
      rfl
    exact h1 ▸ hfin.keeps.flash.out
  · have h1 : (v.actOnReport c 1).front.out = s.front.out ++ [.lost m.extent gone] := by
      rw [hact]
      show (w.noticeLost m.extent gone).front.out = _
      have hwf : w.front.out = s.front.out := by
        rw [hm3]
        exact hout
      rw [hn2 (by rw [hwf]; exact k), hwf]
    exact h1 ▸ hfin.keeps.front.out
  · have hwf : w.front.out = s.front.out := by
      rw [hm3]
      exact hout
    have ho' := hn3 (by rw [hwf]; exact k1)
    show ({ r' with state := .resident } : Resident).settled.owed = _
    rw [Resident.settled_owed]
    show r'.owed = _
    rw [← hr']
    show o = _
    rw [ho', k2]
    rfl
  · show (State.finish _).stats.lostSegments = _
    rw [hfin.lostSegments, hact]
    show (w.noticeLost m.extent gone).stats.lostSegments = _
    rw [State.unnoticed_stats hun, hm5]
    show addSat v.stats.lostSegments _ = _
    rw [State.body_stats hh.body, addSat_eq]

/-! ### The aborts of a FILL -/

theorem Heat.caughtUp_of_zero {h : Heat} (g : Settings) (epoch : Nat) (h0 : h.heat = 0) :
    (h.caughtUp g epoch).heat = 0 := by
  have hstep (k : Heat) (hk : k.heat = 0) : (k.epochStep g).heat = 0 := by
    unfold Heat.epochStep Heat.settleTo
    have : decayHeat g.decay k.heat = 0 := if_pos hk
    dsimp only
    split
    · exact this
    · split <;> exact this
  have hsteps (n : Nat) (k : Heat) (hk : k.heat = 0) : (Heat.epochSteps g n k).heat = 0 := by
    induction n generalizing k with
    | zero => exact hk
    | succ n ih => exact ih _ (hstep k hk)
  unfold Heat.caughtUp
  split
  · rfl
  · exact hsteps _ h h0

/-- A record under the heat penalty of an aborted FILL (R114). -/
def Resident.penalised (r : Resident) : Resident := { r with heat := { r.heat with heat := 0 } }

theorem State.residentOf_penalise_same {s : State} {e : Nat} {r : Resident} (h : s.residentOf e = some r) :
    (s.penalise e).residentOf e = some r.penalised := by
  rw [State.residentOf_map (s := s) (fun x => if x.extent = e then x.penalised else x) rfl
    (fun x => by split <;> rfl) e, h, Option.map_some, if_pos (State.residentOf_extent h)]

theorem State.segmentsOf_penalise (e : Nat) (s : State) (x : Nat) : (s.penalise e).segmentsOf x = s.segmentsOf x :=
  State.segmentsOf_map (s := s) (fun x => if x.extent = e then x.penalised else x) rfl
    (fun x => by split <;> exact ⟨rfl, rfl, rfl, rfl, rfl, rfl⟩) x

theorem State.abortFill_penalty {s : State} {m : FillMove} {r : Resident} (c : Fin 4) (f g : SlotFate)
    (h : s.residentOf m.extent = some r) :
    s.abortFill c m true f g =
      if m.fresh then ((s.setContext c .idle).penalise m.extent).remove f r.penalised
      else ((s.setContext c .idle).penalise m.extent).endRecord g r.penalised := by
  have h' : ((s.setContext c .idle).penalise m.extent).residentOf m.extent = some r.penalised :=
    State.residentOf_penalise_same (s := s.setContext c .idle) h
  unfold State.abortFill
  dsimp only
  rw [if_pos rfl, h']

theorem State.abortFill_plain {s : State} {m : FillMove} {r : Resident} (c : Fin 4) (f g : SlotFate)
    (h : s.residentOf m.extent = some r) :
    s.abortFill c m false f g =
      if m.fresh then (s.setContext c .idle).remove f r else (s.setContext c .idle).endRecord g r := by
  have h' : (s.setContext c .idle).residentOf m.extent = some r := h
  unfold State.abortFill
  dsimp only
  rw [if_neg (by simp), h']

/-- A removal of a record with heat 0 takes its Promotion Queue entry and leaves the Watch List. -/
theorem State.remove_cold {s : State} (f : SlotFate) {r : Resident} (h : r.heat.heat = 0) :
    (s.remove f r).promo = without r.extent s.promo ∧ (s.remove f r).watch = s.watch := by
  obtain ⟨h1, h2, -⟩ := (State.remove_heat f r s).1 (Heat.caughtUp_of_zero _ _ h)
  exact ⟨h1, h2⟩

/-- The end of a move's record of heat 0 whose entry is not queued leaves it not queued. -/
theorem State.endRecord_promo {s : State} {f : SlotFate} {r old : Resident} (h : s.residentOf r.extent = some old)
    (h0 : r.heat.heat = 0) (hq : r.extent ∉ s.promo) : r.extent ∉ (s.endRecord f r).promo := by
  have hs : r.extent ∉ (s.store .tail { r with state := .resident }).promo := by
    rw [State.store_promo]
    split <;> simp [hq]
  rw [State.endRecord_eq h]
  split
  · rw [(State.remove_cold f (by simpa using h0)).1]
    simp
  · exact hs

/-- A FILL's MEDIA_ERROR carries the heat penalty (R114, R115). -/
theorem fill_penalised {s : State} {c : Fin 4} {p : Port} {m : FillMove} {r : Resident} {ticket timer : Nat}
    {ws : List Word} (hv : s.service = .serving) (ho : s.offered p (.report p ticket c.val 1) = some ws)
    (hc : s.contexts[c] = .fill m) (hp : m.orderPort = p) (hm : m.order = .placed ticket timer)
    (hr : s.residentOf m.extent = some r) (hf : ∀ f ∈ s.fences, f.ticket ≠ ticket) :
    ∃ t, exec (.report p ticket c.val 1) s = .next t ∧ t.contexts = s.contexts.set c .idle ∧ m.extent ∉ t.promo ∧
      (∀ e, e ≠ m.extent → t.segmentsOf e = s.segmentsOf e) ∧ t.stats.fillsDone = s.stats.fillsDone ∧
      (m.fresh = true → t.segmentsOf m.extent = none ∧ t.free = insertBy id r.slot s.free ∧ t.watch = s.watch ∧
        t.fences = s.fences) ∧
      (m.fresh = false → r.isEmpty = false →
        ∃ u, t.residentOf m.extent = some u ∧ u.heat = { r.heat with heat := 0 } ∧
          t.segmentsOf m.extent = some (r.slot, .resident, r.valid, r.dirty, r.lost)) := by
  have hst : validStatus p 1 = true := by
    rw [← hp]
    cases h : m.phase <;> simp [FillMove.orderPort, h, validStatus]
  obtain ⟨v, hexec, hh, hvc⟩ := exec_report_fill hv ho hst hc hp hm
  have hvr : v.residentOf m.extent = some r := by rw [State.body_residentOf hh.body, hr]
  obtain ⟨hfree, hfences, -⟩ := hh.fields fun _ => hf
  have hext : r.penalised.extent = m.extent := (State.residentOf_extent hr : r.extent = m.extent)
  generalize hw : (v.setContext c .idle).penalise m.extent = w
  have hact : v.actOnReport c 1 =
      if m.fresh then w.remove .freed r.penalised else w.endRecord .freed r.penalised := by
    rw [← hw, ← State.abortFill_penalty c _ _ hvr]
    simp only [State.actOnReport, hvc]
  have hwr : w.residentOf r.penalised.extent = some r.penalised := by
    rw [← hw, hext]
    exact State.residentOf_penalise_same (s := v.setContext c .idle) hvr
  have hwseg (e : Nat) : w.segmentsOf e = s.segmentsOf e := by
    rw [← hw]
    exact (State.segmentsOf_penalise m.extent (v.setContext c .idle) e).trans (State.body_segmentsOf hh.body e)
  have hwq : r.penalised.extent ∉ w.promo := by
    rw [← hw, hext]
    simp [State.penalise]
  have hwc : w.contexts = s.contexts.set c .idle := by
    rw [← hw]
    show v.contexts.set c .idle = _
    rw [State.body_contexts hh.body]
  have hws : w.stats = s.stats := by
    rw [← hw]
    exact (State.body_stats hh.body : v.stats = _)
  have hun : (v.actOnReport c 1).unremoved = w.unremoved := by
    rw [hact]
    split
    · exact State.remove_unremoved _ _ _
    · exact State.endRecord_unremoved hwr
  have hfin := State.Ends.finish (v.actOnReport c 1)
  refine ⟨_, hexec, ?_, ?_, fun e he => ?_, ?_, fun k => ⟨?_, ?_, ?_, ?_⟩, fun k1 k2 => ?_⟩
  · show (State.finish _).contexts = _
    rw [hfin.contexts, State.unremoved_contexts hun, hwc]
  · show _ ∉ (State.finish _).promo
    rw [hfin.promo, hact, ← hext]
    split
    · rw [(State.remove_cold .freed (by rfl)).1]
      simp
    · exact State.endRecord_promo hwr (by rfl) hwq
  · show (State.finish _).segmentsOf _ = _
    rw [hfin.segmentsOf, hact]
    split
    · rw [State.segmentsOf_remove_of_ne _ _ _ (hext ▸ he), hwseg]
    · rw [State.segmentsOf_endRecord_of_ne hwr (hext ▸ he), hwseg]
  · show (State.finish _).stats.fillsDone = _
    rw [hfin.fillsDone, State.unremoved_stats hun, hws]
  · show (State.finish _).segmentsOf _ = _
    rw [hfin.segmentsOf, hact, if_pos k, ← hext]
    exact State.segmentsOf_remove_same _ _ _
  · show (State.finish _).free = _
    rw [hfin.free, hact, if_pos k, State.remove_freed_free, ← hw]
    exact congrArg _ hfree
  · show (State.finish _).watch = _
    rw [hfin.watch, hact, if_pos k, (State.remove_cold .freed (by rfl)).2, ← hw]
    exact (State.body_watch hh.body : v.watch = _)
  · show (State.finish _).fences = _
    rw [hfin.fences, hact, if_pos k, State.remove_freed_fences, ← hw]
    exact hfences
  · rw [State.endRecord_kept hwr (.inl k2), if_neg (by simp [k1])] at hact
    have h1 := State.residentOf_store_resident hext (hext ▸ hwr)
    obtain ⟨d, hd1, -, -⟩ := hfin.residentOf (hact ▸ h1)
    refine ⟨_, hd1, ?_, ?_⟩
    · show ({ r.penalised with state := .resident } : Resident).settled.heat = _
      rw [Resident.settled_heat]
      rfl
    · rw [State.segmentsOf_of_resident (show ((State.finish _).advance p).residentOf _ = _ from hd1)]
      simp [Resident.penalised]

/-- What the abort without penalty of a partial FILL or of a FLUSH leaves, the record not being empty (R114, R116,
R124). -/
theorem record_returned {s v t : State} {c : Fin 4} {ticket e : Nat} {ws : List Word} {r : Resident}
    (hh : State.Hears .disk ticket ws s v) (hr : s.residentOf e = some r) (hne : r.isEmpty = false)
    (hfin : ((v.setContext c .idle).endRecord .freed r).Ends t) :
    (∃ u, t.residentOf e = some u ∧ u.heat = r.heat ∧ (r.dirty ≠ 0#32 → u.retries = r.retries ∧ u.stuck = r.stuck ∧
        (r.stuck = false → u.drainMark = r.drainMark) ∧ (e ∈ s.dirtyList → t.dirtyList = s.dirtyList))) ∧
      t.contexts = s.contexts.set c .idle ∧ t.segmentsOf e = some (r.slot, .resident, r.valid, r.dirty, r.lost) ∧
      (∀ x, x ≠ e → t.segmentsOf x = s.segmentsOf x) ∧ (r.valid ||| r.lost ≠ SegSet.all → t.promo = s.promo) ∧
      t.free = s.free ∧ t.flashOwed = s.flashOwed ∧ t.stats.flushesDone = s.stats.flushesDone ∧
      t.stats.lostSegments = s.stats.lostSegments := by
  have hre : r.extent = e := State.residentOf_extent hr
  have hvr : (v.setContext c .idle).residentOf r.extent = some r := by
    rw [hre]
    exact (State.body_residentOf hh.body e : v.residentOf e = _).trans hr
  obtain ⟨hfree, -, howed⟩ := hh.fields (by simp)
  rw [State.endRecord_kept hvr (.inl hne)] at hfin
  have h1 := State.residentOf_store_resident hre (hre ▸ hvr)
  obtain ⟨d, hd1, hd2, -⟩ := hfin.residentOf h1
  refine ⟨⟨_, hd1, by simp, fun k => ?_⟩, ?_, ?_, fun x hx => ?_, fun k => ?_, ?_, ?_, ?_, ?_⟩
  · have hset : ({ r with state := .resident } : Resident).settled = { r with state := .resident } :=
      Resident.settled_of_dirty k
    rw [hset] at hd2 ⊢
    refine ⟨rfl, rfl, fun j => hd2 j, fun j => ?_⟩
    rw [hfin.dirtyList, State.store_dirtyList, if_neg (show ({ r with state := .resident } : Resident).dirty ≠ _ from k)]
    have hdl : (v.setContext c .idle).dirtyList = s.dirtyList := (State.body_dirtyList hh.body : v.dirtyList = _)
    rw [hdl, if_pos (show ({ r with state := .resident } : Resident).extent ∈ _ from hre ▸ j)]
  · rw [hfin.contexts]
    show v.contexts.set c .idle = _
    rw [State.body_contexts hh.body]
  · rw [State.segmentsOf_of_resident hd1]
    simp
  · rw [hfin.segmentsOf, State.segmentsOf_store_of_ne .tail { r with state := .resident } _ (hre ▸ hx)]
    exact (State.body_segmentsOf hh.body x : v.segmentsOf x = _)
  · rw [hfin.promo, State.store_promo, if_neg (show ({ r with state := .resident } : Resident).valid |||
      ({ r with state := .resident } : Resident).lost ≠ _ from k)]
    exact (State.body_promo hh.body : v.promo = _)
  · exact hfin.free.trans hfree
  · exact hfin.flashOwed.trans howed
  · exact hfin.flushesDone.trans (congrArg Stats.flushesDone (State.body_stats hh.body : v.stats = _))
  · exact hfin.lostSegments.trans (congrArg Stats.lostSegments (State.body_stats hh.body : v.stats = _))

/-- NOT_SPINNING removes the record of a fresh FILL, its heat returned (R116). -/
theorem fill_fresh_returned {s : State} {c : Fin 4} {m : FillMove} {r : Resident} {ticket timer : Nat} {ws : List Word}
    (hv : s.service = .serving) (ho : s.offered .disk (.report .disk ticket c.val 2) = some ws)
    (hc : s.contexts[c] = .fill m) (hp : m.phase = .reading) (hm : m.order = .placed ticket timer)
    (hr : s.residentOf m.extent = some r) (hfresh : m.fresh = true) (hl : s.watch.length < 4096)
    (hwn : s.watchOf m.extent = none) :
    let h := r.heat.caughtUp s.settings s.epoch
    ∃ t, exec (.report .disk ticket c.val 2) s = .next t ∧ t.contexts = s.contexts.set c .idle ∧
      t.segmentsOf m.extent = none ∧ (∀ e, e ≠ m.extent → t.segmentsOf e = s.segmentsOf e) ∧
      t.free = insertBy id r.slot s.free ∧ t.fences = s.fences ∧ t.stats.fillsDone = s.stats.fillsDone ∧
      (h.heat ≠ 0 → t.promo = s.promo ∧ t.touch = m.extent :: s.touch ∧
        ∃ w, t.watchOf m.extent = some w ∧ w.heat = h) ∧
      (h.heat = 0 → t.promo = s.promo.filter (fun e => e ≠ m.extent) ∧ t.watch = s.watch ∧ t.touch = s.touch) ∧
      (s.flash.out.length < 16 → s.flashOwed = [] →
        t.flashOwed = [] ∧ s.flash.out ++ [.retireSlot r.slot] <+: t.flash.out) ∧
      (16 ≤ s.flash.out.length ∨ s.flashOwed ≠ [] → t.flashOwed = s.flashOwed ++ [.retire r.slot]) := by
  intro h
  obtain ⟨v, hexec, hh, hvc⟩ := exec_report_fill hv ho (by rfl) hc (by simp [FillMove.orderPort, hp]) hm
  have hb := hh.body
  have hvr : v.residentOf m.extent = some r := by rw [State.body_residentOf hb, hr]
  have hre : r.extent = m.extent := State.residentOf_extent hr
  obtain ⟨hfree, hfences, howed⟩ := hh.fields (by simp)
  have hout := hh.flash_out_of_disk
  have hact : v.actOnReport c 2 = (v.setContext c .idle).remove .freed r := by
    have := State.abortFill_plain c .freed .freed hvr
    rw [if_pos hfresh] at this
    simp only [State.actOnReport, hvc, hp, ← this]
  have hfin := State.Ends.finish (v.actOnReport c 2)
  rw [hact] at hexec hfin
  have hun := State.remove_unremoved .freed r (v.setContext c .idle)
  obtain ⟨hcold, hwarm⟩ := State.remove_heat .freed r (v.setContext c .idle)
  obtain ⟨hfl, hfo⟩ := State.remove_flash .freed r (v.setContext c .idle)
  rw [show (v.setContext c .idle).settings = s.settings from (State.body_settings hb : v.settings = _),
    show (v.setContext c .idle).epoch = s.epoch from (State.body_epoch hb : v.epoch = _),
    show (v.setContext c .idle).promo = s.promo from (State.body_promo hb : v.promo = _),
    show (v.setContext c .idle).watch = s.watch from (State.body_watch hb : v.watch = _),
    show (v.setContext c .idle).touch = s.touch from (State.body_touch hb : v.touch = _), hre] at hcold hwarm
  refine ⟨_, hexec, ?_, ?_, fun e he => ?_, ?_, ?_, ?_, fun k => ?_, fun k => ?_, fun k1 k2 => ?_, fun k => ?_⟩
  · show (State.finish _).contexts = _
    rw [hfin.contexts, State.unremoved_contexts hun]
    show v.contexts.set c .idle = _
    rw [State.body_contexts hb]
  · show (State.finish _).segmentsOf _ = _
    rw [hfin.segmentsOf, ← hre]
    exact State.segmentsOf_remove_same _ _ _
  · show (State.finish _).segmentsOf _ = _
    rw [hfin.segmentsOf, State.segmentsOf_remove_of_ne _ _ _ (hre ▸ he)]
    exact (State.body_segmentsOf hb e : v.segmentsOf e = _)
  · show (State.finish _).free = _
    rw [hfin.free, State.remove_freed_free]
    exact congrArg _ hfree
  · show (State.finish _).fences = _
    rw [hfin.fences, State.remove_freed_fences]
    exact hfences
  · show (State.finish _).stats.fillsDone = _
    rw [hfin.fillsDone, State.unremoved_stats hun]
    exact congrArg Stats.fillsDone (State.body_stats hb : v.stats = _)
  · obtain ⟨h1, h2, h3⟩ := hwarm k hl
    obtain ⟨w, hw1, hw2⟩ := h3 ((State.body_watchOf hb m.extent : v.watchOf _ = _).trans hwn)
    exact ⟨hfin.promo.trans h1, hfin.touch.trans h2, w, (hfin.watchOf _).trans hw1, hw2⟩
  · obtain ⟨h1, h2, h3⟩ := hcold k
    exact ⟨hfin.promo.trans h1, hfin.watch.trans h2, hfin.touch.trans h3⟩
  · obtain ⟨h1, h2⟩ := State.produceRetire_placed (s := v.setContext c .idle) r.slot
      (show v.flash.out.length < 16 by rw [hout]; exact k1) (howed.trans k2)
    refine ⟨hfin.flashOwed.trans (hfo.trans h2), ?_⟩
    have h3 : ((v.setContext c .idle).remove .freed r).flash.out = s.flash.out ++ [.retireSlot r.slot] := by
      rw [hfl]
      refine h1.trans ?_
      show v.flash.out ++ _ = _
      rw [hout]
    exact h3 ▸ hfin.keeps.flash.out
  · have h1 := State.produceRetire_owed (s := v.setContext c .idle) r.slot
      (show 16 ≤ v.flash.out.length ∨ v.flashOwed ≠ [] by rw [hout, howed]; exact k)
    show (State.finish _).flashOwed = _
    rw [hfin.flashOwed, hfo]
    refine (congrArg State.flashOwed h1).trans ?_
    show v.flashOwed ++ _ = _
    rw [howed]

end Sys2Proof.Machine

open Sys2Proof.Machine in
/-- Settles O35: each failure's branch of the report's act on its move, and the end of the event. -/
theorem aFailedReportAbortsTheMove : Obligations.AFailedReportAbortsTheMove := by
  refine ⟨⟨fun _ _ _ _ _ _ _ => flush_charged, fun _ _ _ _ _ _ _ => flush_lost⟩,
    ⟨fun _ _ _ _ _ _ _ _ => fill_penalised, ?_⟩, ⟨fun _ _ _ _ _ _ _ => fill_fresh_returned, ?_⟩⟩
  · intro s c m r ticket timer ws hv ho hc hp hm hr hpart hne hmissing
    obtain ⟨v, hexec, hh, hvc⟩ := exec_report_fill hv ho (by rfl) hc (by simp [FillMove.orderPort, hp]) hm
    have hact : v.actOnReport c 2 = (v.setContext c .idle).endRecord .freed r := by
      have := State.abortFill_plain c .freed .freed ((State.body_residentOf hh.body m.extent).trans hr)
      rw [if_neg (by simp [hpart])] at this
      simp only [State.actOnReport, hvc, hp, ← this]
    rw [hact] at hexec
    obtain ⟨⟨u, hu, hheat, -⟩, hctx, hseg, -, hpromo, -⟩ :=
      record_returned hh hr hne (c := c) (State.Ends.finish _)
    exact ⟨_, u, hexec, hctx, hu, hheat, hpromo hmissing, hseg⟩
  · intro s c m r ticket timer ws hv ho hc hp hm hr hne
    obtain ⟨v, hexec, hh, hvc⟩ := exec_report_flush hv ho (by rfl) hc (by simp [FlushMove.orderPort, hp]) hm
    have hact : v.actOnReport c 2 = (v.setContext c .idle).endRecord .freed r := by
      have h' : (v.setContext c .idle).residentOf m.extent = some r := (State.body_residentOf hh.body m.extent).trans hr
      simp only [State.actOnReport, hvc, hp, State.abortFlush, h']
    rw [hact] at hexec
    obtain ⟨⟨u, hu, -, hdirty⟩, hctx, hseg, hothers, -, hfree, howed, hflushes, hlost⟩ :=
      record_returned hh hr hne (c := c) (State.Ends.finish _)
    exact ⟨_, u, hexec, hctx, hu, hseg, hothers, hfree, howed, hflushes, hlost, hdirty⟩

end

section
/-! SUPPORT. The grants at an event's end, entry by entry; what they and the demands place on each link; and the
retirement of empty records. -/

namespace Sys2Proof.Machine

/-! ### Grants -/

theorem State.quiescent_congr {s t : State} (hc : t.contexts = s.contexts) (hr : t.routes = s.routes) (p : Port) (e : Nat) :
    t.quiescent p e = s.quiescent p e := by
  simp [State.quiescent, State.inMove, State.held, hc, hr]

/-- Entry `i` of the Claim Table of `t` is that of `s` after the grants: free, owned as before, or standing for the port
it was pending for (R81). -/
def State.GrantedAt (s t : State) (i : Fin 8) : Prop :=
  (s.claims[i] = none → t.claims[i] = none) ∧
    ∀ c, s.claims[i] = some c →
      (∀ q owed, c.standing = .owned q owed → t.claims[i] = some c) ∧
      (∀ q, c.standing = .pending q → t.StandsFor i c.extent q c.waiters)

/-- An entry stands while it, the moves and the holds stand and its port's queue only grows. -/
theorem State.StandsFor.mono {s t : State} {i : Fin 8} {e : Nat} {w : Port} {ws : List Port} (h : s.StandsFor i e w ws)
    (hi : t.claims[i] = s.claims[i]) (hc : t.contexts = s.contexts) (hr : t.routes = s.routes)
    (ho : (s.link w).out <+: (t.link w).out) : t.StandsFor i e w ws := by
  have hq := State.quiescent_congr hc hr w e
  refine ⟨fun k => hi.trans (h.1 (hq ▸ k)), fun k => ?_⟩
  rcases h.2 (hq ▸ k) with ⟨h1, h2⟩ | ⟨h1, h2⟩
  · exact .inl ⟨hi.trans h1, ho.subset h2⟩
  · exact .inr ⟨hi.trans h1, h2.trans ho.length_le⟩

theorem State.GrantedAt.mono {s t u : State} {i : Fin 8} (h : s.GrantedAt t i) (hi : u.claims[i] = t.claims[i])
    (hc : u.contexts = t.contexts) (hr : u.routes = t.routes) (hk : t.Keeps u) : s.GrantedAt u i :=
  ⟨fun k => hi.trans (h.1 k), fun c k => ⟨fun q o k' => hi.trans ((h.2 c k).1 q o k'),
    fun q k' => ((h.2 c k).2 q k').mono hi hc hr (hk.link q).out⟩⟩

theorem State.claims_setClaim (s : State) (i j : Fin 8) (x : Option ClaimEntry) :
    (s.setClaim i x).claims[j] = if j = i then x else s.claims[j] :=
  set_getElem_fin s.claims i j x

theorem State.link_setClaim (s : State) (i : Fin 8) (x : Option ClaimEntry) (p : Port) :
    (s.setClaim i x).link p = s.link p := by
  cases p <;> rfl

/-- A grant changes its own entry alone. -/
theorem State.grantEntry_of_ne {i j : Fin 8} (h : i ≠ j) (s : State) : (s.grantEntry j).claims[i] = s.claims[i] := by
  unfold State.grantEntry
  split
  · rfl
  · split
    · rfl
    · split
      · unfold State.grantTo
        split
        · rw [State.claims_setClaim, if_neg h, State.place_claims]
        · rw [State.claims_setClaim, if_neg h]
      · rfl

theorem State.grantEntry_grants (i : Fin 8) (s : State) : s.GrantedAt (s.grantEntry i) i := by
  have hctx := (State.Ends.grantEntry i s).contexts
  have hrts := (State.Ends.grantEntry i s).routes
  refine ⟨fun k => ?_, fun c k => ⟨fun q o k' => ?_, fun q k' => ?_⟩⟩
  · simp only [State.grantEntry, k]
  · simp only [State.grantEntry, k, k']
  · have hq := State.quiescent_congr hctx hrts q c.extent
    refine ⟨fun j => ?_, fun j => ?_⟩
    · rw [hq] at j
      have hg : s.grantEntry i = s := by simp only [State.grantEntry, k, k', j, Bool.false_eq_true, if_false]
      rw [hg, k, ← k']
    · rw [hq] at j
      have hg : s.grantEntry i = s.grantTo i c q := by simp only [State.grantEntry, k, k', j, if_true]
      rw [hg]
      unfold State.grantTo
      by_cases hr : s.hasRoom q 1
      · rw [if_pos hr]
        refine .inl ⟨(State.claims_setClaim _ _ _ _).trans (if_pos rfl), ?_⟩
        rw [State.link_setClaim, State.link_place_same _ hr]
        simp
      · rw [if_neg hr]
        refine .inr ⟨(State.claims_setClaim _ _ _ _).trans (if_pos rfl), ?_⟩
        rw [State.link_setClaim]
        by_contra hlt
        exact hr (State.hasRoom_of_lt (not_le.1 hlt))

/-- The grants in entry order: each listed entry is granted as it stood (R81). -/
theorem State.grantList {l : List (Fin 8)} (hn : l.Nodup) (s : State) (i : Fin 8) :
    (i ∈ l → s.GrantedAt (l.foldl (fun t i => t.grantEntry i) s) i) ∧
      (i ∉ l → (l.foldl (fun t i => t.grantEntry i) s).claims[i] = s.claims[i]) ∧
      s.Ends (l.foldl (fun t i => t.grantEntry i) s) := by
  induction l generalizing s with
  | nil => exact ⟨nofun, fun _ => rfl, .refl s⟩
  | cons j l ih =>
    obtain ⟨hj, hl⟩ := List.nodup_cons.1 hn
    obtain ⟨ih1, ih2, ih3⟩ := ih hl (s.grantEntry j)
    refine ⟨fun hi => ?_, fun hi => ?_, (State.Ends.grantEntry j s).trans ih3⟩
    · rcases List.mem_cons.1 hi with rfl | hi
      · exact (State.grantEntry_grants i s).mono (ih2 hj) ih3.contexts ih3.routes ih3.keeps
      · have hne : i ≠ j := fun k => hj (k ▸ hi)
        have hg := ih1 hi
        unfold State.GrantedAt at hg ⊢
        rwa [State.grantEntry_of_ne hne s] at hg
    · simp only [List.mem_cons, not_or] at hi
      exact (ih2 hi.2).trans (State.grantEntry_of_ne hi.1 s)

theorem State.grantAll_grants (s : State) (i : Fin 8) : s.GrantedAt s.grantAll i :=
  (State.grantList (by decide) s i).1 (by revert i; decide)

/-- Grants place on a port's queue only where an entry is pending for it. -/
theorem State.grantAll_link {p : Port} {s : State} (h : ∀ (i : Fin 8) c, s.claims[i] = some c → c.standing ≠ .pending p) :
    s.grantAll.link p = s.link p := by
  unfold State.grantAll
  generalize allClaims = l
  induction l generalizing s with
  | nil => rfl
  | cons j l ih =>
    have hstep : (s.grantEntry j).link p = s.link p ∧
        ∀ (i : Fin 8) c, (s.grantEntry j).claims[i] = some c → c.standing ≠ .pending p := by
      unfold State.grantEntry
      split
      · exact ⟨rfl, h⟩
      · rename_i c hc
        split
        · exact ⟨rfl, h⟩
        · rename_i q hq
          have hne : p ≠ q := fun k => h j c hc (k ▸ hq)
          split
          · unfold State.grantTo
            split
            · refine ⟨(State.link_setClaim _ _ _ _).trans (State.link_place_of_ne _ s hne), fun i d hd => ?_⟩
              rw [State.claims_setClaim, State.place_claims] at hd
              split at hd
              · cases hd
                exact nofun
              · exact h i d hd
            · refine ⟨State.link_setClaim _ _ _ _, fun i d hd => ?_⟩
              rw [State.claims_setClaim] at hd
              split at hd
              · cases hd
                exact nofun
              · exact h i d hd
          · exact ⟨rfl, h⟩
    exact (ih hstep.2).trans hstep.1

/-! ### The rest of an event's end -/

theorem State.demandFor_link {p : Port} (hp : p ≠ .disk) (r : Reason) (s : State) : (s.demandFor r).link p = s.link p := by
  unfold State.demandFor
  split
  · split
    · unfold State.produceDemand
      split
      · refine (?_ : _ = ((s.setDemand r true).place .disk (.spinUpDemand r)).link p).trans
          ((State.link_place_of_ne _ _ hp).trans ?_)
        · cases p <;> rfl
        · cases p <;> rfl
      · cases p <;> rfl
    · rfl
  · cases p <;> rfl

theorem State.demandAll_link {p : Port} (hp : p ≠ .disk) (s : State) : s.demandAll.link p = s.link p :=
  (State.demandFor_link hp _ _).trans ((State.demandFor_link hp _ _).trans (State.demandFor_link hp _ _))

theorem State.demandFor_claims (r : Reason) (s : State) : (s.demandFor r).claims = s.claims := by
  unfold State.demandFor
  split
  · split
    · unfold State.produceDemand
      split
      · exact State.place_claims (s.setDemand r true) _ _
      · rfl
    · rfl
  · rfl

theorem State.demandFor_drain (r : Reason) (s : State) :
    (s.demandFor r).drain = s.drain ∧ (s.demandFor r).drainedOwed = s.drainedOwed := by
  unfold State.demandFor
  split
  · split
    · unfold State.produceDemand
      split
      · exact ⟨State.place_drain (s.setDemand r true) _ _, State.place_drainedOwed (s.setDemand r true) _ _⟩
      · exact ⟨rfl, rfl⟩
    · exact ⟨rfl, rfl⟩
  · exact ⟨rfl, rfl⟩

theorem State.noticeDrained_link {p : Port} (hp : p ≠ .front) (n : Nat) (s : State) :
    (s.noticeDrained n).link p = s.link p := by
  unfold State.noticeDrained
  split
  · exact State.link_place_of_ne _ s hp
  · cases p <;> rfl

theorem State.endDrain_claims (s : State) : s.endDrain.claims = s.claims := by
  unfold State.endDrain
  split
  · unfold State.noticeDrained
    split
    · exact State.place_claims s _ _
    · rfl
  · rfl

theorem State.endDrain_link {p : Port} (hp : p ≠ .front) (s : State) : s.endDrain.link p = s.link p := by
  unfold State.endDrain
  split
  · refine .trans ?_ (State.noticeDrained_link hp (s.records.countP fun r => r.drainMark && r.stuck) s)
    cases p <;> rfl
  · rfl

theorem State.compareUrgent_link (p : Port) (s : State) : s.compareUrgent.link p = s.link p := by
  cases p <;> rfl

theorem State.demandAll_claims (s : State) : s.demandAll.claims = s.claims :=
  (State.demandFor_claims _ _).trans ((State.demandFor_claims _ _).trans (State.demandFor_claims _ _))

theorem State.demandAll_drain (s : State) : s.demandAll.drain = s.drain ∧ s.demandAll.drainedOwed = s.drainedOwed := by
  unfold State.demandAll
  simp only [State.demandFor_drain, and_self]

theorem State.grantEntry_drain (i : Fin 8) (s : State) :
    (s.grantEntry i).drain = s.drain ∧ (s.grantEntry i).drainedOwed = s.drainedOwed := by
  unfold State.grantEntry State.grantTo
  split
  · exact ⟨rfl, rfl⟩
  · split
    · exact ⟨rfl, rfl⟩
    · split
      · split
        · exact ⟨State.place_drain s _ _, State.place_drainedOwed s _ _⟩
        · exact ⟨rfl, rfl⟩
      · exact ⟨rfl, rfl⟩

theorem State.grantAll_drain (s : State) : s.grantAll.drain = s.drain ∧ s.grantAll.drainedOwed = s.drainedOwed := by
  unfold State.grantAll
  generalize allClaims = l
  induction l generalizing s with
  | nil => exact ⟨rfl, rfl⟩
  | cons j l ih =>
    exact ⟨(ih _).1.trans (State.grantEntry_drain j s).1, (ih _).2.trans (State.grantEntry_drain j s).2⟩

theorem State.endDrain_of_none {s : State} (h : s.drain = false) : s.endDrain = s := by
  simp [State.endDrain, h]

/-- What an event ends with, by its parts, in SERVING. -/
theorem State.finish_serving {s : State} (h : s.service = .serving) :
    s.finish = (((s.grantAll).endDrain).compareUrgent).demandAll :=
  if_pos (by simp [State.isServing, h])

theorem State.finish_unserved {s : State} (h : s.service ≠ .serving) : s.finish = s :=
  if_neg (by simpa [State.isServing] using h)

/-- The Claim Table at the end of an event in SERVING is that of its start after the grants. -/
theorem State.finish_grants {s : State} (h : s.service = .serving) (i : Fin 8) : s.GrantedAt s.finish i := by
  rw [State.finish_serving h]
  have hg := State.grantAll_grants s i
  generalize s.grantAll = u at hg
  have h1 := (State.Ends.endDrain u).trans ((State.Ends.compareUrgent _).trans (State.Ends.demandAll _))
  have h2 : u.endDrain.compareUrgent.demandAll.claims = u.claims :=
    (State.demandAll_claims _).trans (State.endDrain_claims u)
  exact hg.mono (congrArg (·[i]) h2) h1.contexts h1.routes h1.keeps

/-- The grants and what follows change no entry's extent, port or waiters. -/
theorem State.GrantedAt.port {s t : State} {i : Fin 8} (h : s.GrantedAt t i) {c : ClaimEntry} (hc : t.claims[i] = some c) :
    ∃ d, s.claims[i] = some d ∧ c.standing.port = d.standing.port ∧ c.waiters = d.waiters := by
  cases hd : s.claims[i] with
  | none =>
    rw [h.1 hd] at hc
    cases hc
  | some d =>
    refine ⟨d, rfl, ?_⟩
    obtain ⟨howned, hpending⟩ := h.2 d hd
    cases hs : d.standing with
    | owned q o =>
      rw [howned q o hs] at hc
      cases hc
      exact ⟨by rw [hs], rfl⟩
    | pending q =>
      obtain ⟨h1, h2⟩ := hpending q hs
      cases hq : t.quiescent q d.extent with
      | false =>
        rw [h1 hq] at hc
        cases hc
        exact ⟨rfl, rfl⟩
      | true =>
        rcases h2 hq with ⟨h3, -⟩ | ⟨h3, -⟩ <;> rw [h3] at hc <;> cases hc <;> exact ⟨rfl, rfl⟩

/-- The end of an event leaves the flash link where no entry is pending for the flash port. -/
theorem State.finish_flash {s : State} (h : ∀ (i : Fin 8) c, s.claims[i] = some c → c.standing ≠ .pending .flash) :
    s.finish.flash = s.flash := by
  by_cases hv : s.service = .serving
  · rw [State.finish_serving hv]
    have hg := State.grantAll_link h
    generalize s.grantAll = u at hg
    exact (State.demandAll_link (p := .flash) (by simp) _).trans ((State.compareUrgent_link .flash _).trans
      ((State.endDrain_link (p := .flash) (by simp) u).trans hg))
  · rw [State.finish_unserved hv]

/-- The end of an event leaves the front link where no entry is pending for the front port and no drain is active. -/
theorem State.finish_front {s : State} (h : ∀ (i : Fin 8) c, s.claims[i] = some c → c.standing ≠ .pending .front)
    (hd : s.drain = false) : s.finish.front = s.front ∧ s.finish.drain = false ∧ s.finish.drainedOwed = s.drainedOwed := by
  by_cases hv : s.service = .serving
  · have hg := State.grantAll_link h
    obtain ⟨h1, h2⟩ := State.grantAll_drain s
    rw [State.finish_serving hv, State.endDrain_of_none (h1.trans hd)]
    generalize s.grantAll = u at hg h1 h2
    obtain ⟨h3, h4⟩ := State.demandAll_drain u.compareUrgent
    refine ⟨(State.demandAll_link (p := .front) (by simp) _).trans ((State.compareUrgent_link .front u).trans hg),
      h3.trans (h1.trans hd), h4.trans h2⟩
  · rw [State.finish_unserved hv]
    exact ⟨rfl, hd, rfl⟩

/-! ### Retirement -/

/-- Whether an extent's record is retired where its hold ends: empty, in state RESIDENT, unheld (R5). -/
def State.retires (s : State) (e : Nat) : Bool :=
  match s.residentOf e with
  | none => false
  | some r => r.isEmpty && r.state == .resident && !s.held e

theorem State.retireIfEmpty_cases (f : SlotFate) (e : Nat) (s : State) :
    (s.retires e = false ∧ s.retireIfEmpty f e = s) ∨
      ∃ r, s.residentOf e = some r ∧ s.retires e = true ∧ s.retireIfEmpty f e = s.remove f r := by
  unfold State.retires State.retireIfEmpty
  cases h : s.residentOf e with
  | none => exact .inl ⟨rfl, rfl⟩
  | some r =>
    dsimp only
    cases hb : r.isEmpty && r.state == .resident && !s.held e with
    | false => exact .inl ⟨rfl, if_neg (by simp)⟩
    | true => exact .inr ⟨r, rfl, rfl, if_pos rfl⟩

theorem State.retireIfEmpty_unremoved (f : SlotFate) (e : Nat) (s : State) :
    (s.retireIfEmpty f e).unremoved = s.unremoved := by
  rcases State.retireIfEmpty_cases f e s with ⟨-, h⟩ | ⟨r, -, -, h⟩ <;> rw [h]
  exact State.remove_unremoved f r s

theorem State.residentOf_retireIfEmpty (f : SlotFate) (e x : Nat) (s : State) :
    (s.retireIfEmpty f e).residentOf x = if x = e ∧ s.retires x = true then none else s.residentOf x := by
  rcases State.retireIfEmpty_cases f e s with ⟨h1, h2⟩ | ⟨r, h1, h2, h3⟩
  · rw [h2, if_neg]
    rintro ⟨rfl, k⟩
    rw [h1] at k
    cases k
  · have he := State.residentOf_extent h1
    rw [h3]
    by_cases hx : x = e
    · rw [if_pos ⟨hx, hx ▸ h2⟩, hx, ← he]
      exact State.residentOf_remove_same f r s
    · rw [if_neg (fun k => hx k.1)]
      exact State.residentOf_remove_of_ne f r s (he ▸ hx)

theorem State.retireIfEmpty_records (f : SlotFate) (e : Nat) (s : State) :
    ∀ r ∈ (s.retireIfEmpty f e).records, r ∈ s.records := by
  rcases State.retireIfEmpty_cases f e s with ⟨-, h⟩ | ⟨r, -, -, h⟩ <;> rw [h]
  · exact fun _ => id
  · intro x hx
    rw [State.remove_records] at hx
    exact List.mem_of_mem_filter hx

theorem State.retireIfEmpty_fences (e : Nat) (s : State) : (s.retireIfEmpty .freed e).fences = s.fences := by
  rcases State.retireIfEmpty_cases .freed e s with ⟨-, h⟩ | ⟨r, -, -, h⟩ <;> rw [h]
  exact State.remove_freed_fences r s

theorem State.retires_congr {s t : State} {x : Nat} (hr : t.residentOf x = s.residentOf x) (hh : t.routes = s.routes) :
    t.retires x = s.retires x := by
  simp [State.retires, hr, State.held, hh]

theorem State.retires_of_none {s : State} {x : Nat} (h : s.residentOf x = none) : s.retires x = false := by
  simp only [State.retires, h]

/-- The retirement of the empty records of a list of extents, one after the other. -/
theorem State.retireList (l : List Nat) (s : State) :
    (l.foldl (fun t e => t.retireIfEmpty .freed e) s).unremoved = s.unremoved ∧
      (l.foldl (fun t e => t.retireIfEmpty .freed e) s).fences = s.fences ∧
      (∀ r ∈ (l.foldl (fun t e => t.retireIfEmpty .freed e) s).records, r ∈ s.records) ∧
      ∀ x, (l.foldl (fun t e => t.retireIfEmpty .freed e) s).residentOf x =
        if x ∈ l ∧ s.retires x = true then none else s.residentOf x := by
  induction l generalizing s with
  | nil => exact ⟨rfl, rfl, fun _ => id, fun x => by simp⟩
  | cons e l ih =>
    obtain ⟨h1, h2, h3, h4⟩ := ih (s.retireIfEmpty .freed e)
    have hr := State.unremoved_routes (State.retireIfEmpty_unremoved .freed e s)
    refine ⟨h1.trans (State.retireIfEmpty_unremoved _ _ _), h2.trans (State.retireIfEmpty_fences _ _),
      fun r k => State.retireIfEmpty_records _ _ _ r (h3 r k), fun x => ?_⟩
    rw [List.foldl_cons, h4]
    have hx := State.residentOf_retireIfEmpty .freed e x s
    by_cases hk : x = e ∧ s.retires x = true
    · rw [if_pos hk] at hx
      rw [hx, ite_self, if_pos ⟨by simp [hk.1], hk.2⟩]
    · rw [if_neg hk] at hx
      rw [State.retires_congr hx hr, hx]
      by_cases hx1 : s.retires x = true
      · have : x ≠ e := fun k => hk ⟨k, hx1⟩
        simp [hx1, this]
      · simp [hx1]

/-- The retirement of the empty records among some extents (R5, R101). -/
theorem State.residentOf_retireEmpties (es : List Nat) (s : State) (x : Nat) :
    (s.retireEmpties es).residentOf x = if x ∈ es ∧ s.retires x = true then none else s.residentOf x := by
  unfold State.retireEmpties
  rw [(State.retireList _ s).2.2.2 x]
  cases h : s.residentOf x with
  | none => simp [State.retires_of_none h]
  | some r =>
    have hm : x ∈ s.records.map (·.extent) :=
      List.mem_map.2 ⟨r, (State.residentOf_mem h).1, (State.residentOf_mem h).2⟩
    simp only [List.mem_filter, hm, true_and, decide_eq_true_eq]

theorem State.retireEmpties_unremoved (es : List Nat) (s : State) : (s.retireEmpties es).unremoved = s.unremoved :=
  (State.retireList _ s).1

theorem State.retireEmpties_fences (es : List Nat) (s : State) : (s.retireEmpties es).fences = s.fences :=
  (State.retireList _ s).2.1

theorem State.retireEmpties_records (es : List Nat) (s : State) : ∀ r ∈ (s.retireEmpties es).records, r ∈ s.records :=
  (State.retireList _ s).2.2.1

end Sys2Proof.Machine
end

section
/-! PROOFS. The front link reset. -/

namespace Sys2Proof.Machine

/-! ### What a port leaves behind in the Claim Table -/

theorem State.leaveAllClaims_get (p : Port) (s : State) (i : Fin 8) :
    (s.leaveAllClaims p).claims[i] = s.claims[i].bind (ClaimEntry.leave p) :=
  map_getElem_fin s.claims _ i

theorem ClaimEntry.leave_of_ne {p : Port} {c : ClaimEntry} (h : c.standing.port ≠ p) :
    c.leave p = some { c with waiters := without p c.waiters } :=
  if_neg h

theorem ClaimEntry.leave_of_last {p : Port} {c : ClaimEntry} (h : c.standing.port = p) (hw : c.waiters = []) :
    c.leave p = none := by
  rw [ClaimEntry.leave, if_pos h, ClaimEntry.passOn, hw]

theorem ClaimEntry.leave_of_waiter {p w : Port} {rest : List Port} {c : ClaimEntry} (h : c.standing.port = p)
    (hw : c.waiters = w :: rest) : c.leave p = some { c with standing := .pending w, waiters := rest } := by
  rw [ClaimEntry.leave, if_pos h, ClaimEntry.passOn, hw]

/-- An entry that a port has left does not name it. -/
theorem ClaimEntry.leave_names {p : Port} {c d : ClaimEntry} (hn : c.standing.port ∉ c.waiters) (hd : c.waiters.Nodup)
    (h : c.leave p = some d) : d.standing.port ≠ p ∧ p ∉ d.waiters := by
  by_cases hp : c.standing.port = p
  · cases hw : c.waiters with
    | nil =>
      rw [ClaimEntry.leave_of_last hp hw] at h
      cases h
    | cons w rest =>
      rw [ClaimEntry.leave_of_waiter hp hw] at h
      cases h
      rw [hp, hw, List.mem_cons, not_or] at hn
      exact ⟨fun k => hn.1 k.symm, hn.2⟩
  · rw [ClaimEntry.leave_of_ne hp] at h
    cases h
    exact ⟨hp, by simp⟩

/-- The Claim Table after a port's leaving and the grants that follow (R89, R90). -/
theorem State.GrantedAt.leftBy {p : Port} {s u t : State} (hu : ∀ i : Fin 8, u.claims[i] = s.claims[i].bind (ClaimEntry.leave p))
    (h : ∀ i, u.GrantedAt t i) : s.LeftBy p t := by
  intro i
  obtain ⟨hnone, hsome⟩ := h i
  rw [hu i] at hnone hsome
  refine ⟨fun k => hnone (by rw [k]; rfl), fun c k => ?_⟩
  rw [k] at hnone hsome
  refine ⟨fun q o hq hne => ?_, fun q hq hne => ?_, fun hq hw => ?_, fun w rest hq hw => ?_⟩
  · exact (hsome _ (ClaimEntry.leave_of_ne (by rw [hq]; exact hne))).1 q o hq
  · exact (hsome _ (ClaimEntry.leave_of_ne (by rw [hq]; exact hne))).2 q hq
  · exact hnone (ClaimEntry.leave_of_last hq hw)
  · exact (hsome _ (ClaimEntry.leave_of_waiter hq hw)).2 w rfl

/-! ### The front link reset -/

/-- The state in which a front link reset retires the records left empty. -/
def State.unfronted (s : State) : State :=
  { s.clearLink .front with
    routes := [], parked := [], drain := false, drainedOwed := none
    records := s.records.map Resident.forgetFront }.leaveAllClaims .front

theorem State.frontReset_eq (s : State) :
    s.frontReset = (s.unfronted.retireEmpties (s.unfronted.records.map (·.extent))).finish := rfl

theorem State.unfronted_residentOf (s : State) (e : Nat) :
    s.unfronted.residentOf e = (s.residentOf e).map Resident.forgetFront :=
  State.residentOf_map Resident.forgetFront rfl (fun _ => rfl) e

theorem State.unfronted_segmentsOf (s : State) (e : Nat) : s.unfronted.segmentsOf e = s.segmentsOf e :=
  State.segmentsOf_map Resident.forgetFront rfl (fun _ => ⟨rfl, rfl, rfl, rfl, rfl, rfl⟩) e

theorem State.unfronted_retires {s : State} {e : Nat} {r : Resident} (h : s.residentOf e = some r) :
    s.unfronted.retires e = (r.isEmpty && r.state == .resident) := by
  have hr := State.unfronted_residentOf s e
  rw [h] at hr
  simp only [State.retires, hr, Option.map_some]
  show (r.isEmpty && r.state == .resident && !false) = _
  rw [Bool.not_false, Bool.and_true]

/-- Every record of the reset's table is one of before without its mark and its owed notice. -/
theorem State.unfronted_records {s : State} {r : Resident} (h : r ∈ s.unfronted.records) :
    r.drainMark = false ∧ r.owed = .absent := by
  obtain ⟨x, -, rfl⟩ := List.mem_map.1 h
  exact ⟨rfl, rfl⟩

theorem State.unfronted_names {s : State} (hs : s.WithinCapacity) (i : Fin 8) (c : ClaimEntry)
    (h : s.unfronted.claims[i] = some c) : c.standing.port ≠ .front ∧ (.front : Port) ∉ c.waiters := by
  have h1 : s.claims[i].bind (ClaimEntry.leave .front) = some c := (State.leaveAllClaims_get .front _ i).symm.trans h
  obtain ⟨d, hd, hl⟩ := Option.bind_eq_some_iff.1 h1
  obtain ⟨hn, hw⟩ := hs.claims i d hd
  exact ClaimEntry.leave_names hn hw hl

end Sys2Proof.Machine

open Sys2Proof Sys2Proof.Machine in
/-- Settles O45: the front port leaves each entry, its records are retired where empty, and what the end of the event
grants and demands goes to the other ports. -/
theorem aFrontLinkResetEndsRoutesDrainAndFrontClaims : Obligations.AFrontLinkResetEndsRoutesDrainAndFrontClaims := by
  intro s hs
  refine ⟨s.frontReset, rfl, ?_⟩
  rw [State.frontReset_eq]
  generalize hes : s.unfronted.records.map (·.extent) = es
  have hun := State.retireEmpties_unremoved es s.unfronted
  have hfen := State.retireEmpties_fences es s.unfronted
  have hrec := State.retireEmpties_records es s.unfronted
  have hres := State.residentOf_retireEmpties es s.unfronted
  have hkeep := (State.Becomes.retireEmpties (L := licenceOf .frontLinkReset) es s.unfronted rfl).keeps
  generalize s.unfronted.retireEmpties es = w at hun hfen hrec hres hkeep
  have hfin := State.Ends.finish w
  have hclaims : w.claims = s.unfronted.claims := State.unremoved_claims hun
  have hnames (i : Fin 8) (c : ClaimEntry) (h : w.claims[i] = some c) :
      c.standing.port ≠ .front ∧ (.front : Port) ∉ c.waiters :=
    State.unfronted_names hs i c (hclaims ▸ h)
  obtain ⟨hfront, hdrain, howed⟩ := State.finish_front (s := w)
    (fun i c h k => (hnames i c h).1 (by rw [k]; rfl)) (congrArg State.drain hun : w.unremoved.drain = _)
  have hfront' : w.finish.front = s.unfronted.front := hfront.trans (State.unremoved_front hun)
  have hk := hkeep.trans hfin.keeps
  refine ⟨congrArg Link.fifo hfront', congrArg Link.out hfront', hfin.routes.trans (State.unremoved_routes hun),
    hk.parked, hdrain, howed.trans (congrArg State.drainedOwed hun : w.unremoved.drainedOwed = _), ?_, ?_, ?_, ?_,
    hfin.contexts.trans (State.unremoved_contexts hun : _ = s.unfronted.contexts), hfin.fences.trans hfen,
    hfin.tickets.trans (State.unremoved_tickets hun : _ = s.unfronted.tickets), hk.streams, hk.windows, hk.settings, hk.sizes, hk.service,
    hk.pointer, hfin.adviceTimer.trans (congrArg State.adviceTimer hun : w.unremoved.adviceTimer = _), hk.flash.fifo,
    hk.disk.fifo⟩
  · have hw : ∀ r ∈ w.records, r.drainMark = false ∧ r.owed = .absent := fun r h => State.unfronted_records (hrec r h)
    rcases hfin.records with h | ⟨h, -⟩ <;> rw [h]
    · exact hw
    · intro r hr
      obtain ⟨x, hx, rfl⟩ := List.mem_map.1 hr
      exact ⟨rfl, (hw x hx).2⟩
  · intro i c h
    by_cases hv : w.service = .serving
    · obtain ⟨d, hd, hp, hw⟩ := (State.finish_grants hv i).port h
      rw [hp, hw]
      exact hnames i d hd
    · rw [State.finish_unserved hv] at h
      exact hnames i c h
  · intro hv
    have hvw : w.service = .serving := hkeep.service.trans hv
    refine State.GrantedAt.leftBy (u := w) (fun i => ?_) (State.finish_grants hvw)
    rw [hclaims]
    exact State.leaveAllClaims_get .front _ i
  · intro e r h
    have hmem : e ∈ es := by
      rw [← hes]
      have h1 := State.unfronted_residentOf s e
      rw [h] at h1
      exact List.mem_map.2 ⟨_, (State.residentOf_mem h1).1, (State.residentOf_mem h1).2⟩
    have he := hres e
    rw [State.unfronted_retires h] at he
    refine ⟨fun ⟨h1, h2⟩ => ?_, fun h1 => ?_⟩
    · rw [if_pos ⟨hmem, by simp [h1, h2]⟩] at he
      rw [hfin.segmentsOf, State.segmentsOf_eq_none.2 he]
    · rw [if_neg (by rintro ⟨-, k⟩; rcases h1 with h1 | h1 <;> simp [h1] at k)] at he
      rw [hfin.segmentsOf, ← State.unfronted_segmentsOf s e]
      simp only [State.segmentsOf, he]

end

section
/-! SUPPORT. What the retirements at the end of a hold do to the free pool, the lists and the flash queue, one extent
and two. -/

namespace Sys2Proof.Machine

theorem State.retireIfEmpty_of_kept {f : SlotFate} {s : State} {e : Nat} (h : s.retires e = false) :
    s.retireIfEmpty f e = s := by
  rcases State.retireIfEmpty_cases f e s with ⟨-, h2⟩ | ⟨r, -, h2, -⟩
  · exact h2
  · rw [h] at h2
    cases h2

theorem State.retireIfEmpty_of_retired {f : SlotFate} {s : State} {e : Nat} {r : Resident} (hr : s.residentOf e = some r)
    (h : s.retires e = true) : s.retireIfEmpty f e = s.remove f r := by
  rcases State.retireIfEmpty_cases f e s with ⟨h2, -⟩ | ⟨x, hx, -, h2⟩
  · rw [h] at h2
    cases h2
  · rw [hr] at hx
    cases hx
    exact h2

/-- Once retired or kept, an extent's record is not retired again. -/
theorem State.retires_retireIfEmpty_same (f : SlotFate) (e : Nat) (s : State) : (s.retireIfEmpty f e).retires e = false := by
  cases h : s.retires e with
  | false => rw [State.retireIfEmpty_of_kept h, h]
  | true =>
    refine State.retires_of_none ?_
    rw [State.residentOf_retireIfEmpty, if_pos ⟨rfl, h⟩]

theorem State.residentOf_retireIfEmpty_of_ne (f : SlotFate) {e x : Nat} (s : State) (h : x ≠ e) :
    (s.retireIfEmpty f e).residentOf x = s.residentOf x := by
  rw [State.residentOf_retireIfEmpty, if_neg fun k => h k.1]

theorem State.retires_retireIfEmpty_of_ne (f : SlotFate) {e x : Nat} (s : State) (h : x ≠ e) :
    (s.retireIfEmpty f e).retires x = s.retires x :=
  State.retires_congr (State.residentOf_retireIfEmpty_of_ne f s h)
    (State.unremoved_routes (State.retireIfEmpty_unremoved f e s))

/-! ### The retirements of a list -/

theorem State.retireList_of_kept {l : List Nat} {s : State} (h : ∀ y ∈ l, s.retires y = false) :
    l.foldl (fun t e => t.retireIfEmpty .freed e) s = s := by
  induction l with
  | nil => rfl
  | cons y l ih =>
    rw [List.foldl_cons, State.retireIfEmpty_of_kept (h y (by simp))]
    exact ih fun z hz => h z (List.mem_cons_of_mem y hz)

theorem State.retireEmpties_of_kept {es : List Nat} {s : State} (h : ∀ e ∈ es, s.retires e = false) :
    s.retireEmpties es = s :=
  State.retireList_of_kept fun y hy => h y (by simpa using (List.mem_filter.1 hy).2)

/-- The retirements of a list of two extents, the first kept. -/
theorem State.retireList_of_one_kept {a b : Nat} {l : List Nat} {s : State} (hl : ∀ y ∈ l, y = a ∨ y = b)
    (ha : s.retires a = false) (hb : b ∉ l → s.retires b = false) :
    l.foldl (fun t e => t.retireIfEmpty .freed e) s = s.retireIfEmpty .freed b := by
  induction l with
  | nil => exact (State.retireIfEmpty_of_kept (hb (by simp))).symm
  | cons y l ih =>
    have hl' : ∀ y ∈ l, y = a ∨ y = b := fun z hz => hl z (List.mem_cons_of_mem y hz)
    rw [List.foldl_cons]
    by_cases hy : y = b
    · subst hy
      refine State.retireList_of_kept fun z hz => ?_
      by_cases hzy : z = y
      · exact hzy ▸ State.retires_retireIfEmpty_same .freed y s
      · rw [State.retires_retireIfEmpty_of_ne .freed s hzy, (hl' z hz).resolve_right hzy, ha]
    · have hya : y = a := (hl y (by simp)).resolve_right hy
      rw [hya, State.retireIfEmpty_of_kept ha]
      exact ih hl' fun k => hb (by simp [Ne.symm hy, k])

/-- The retirements of a list of two extents follow the order of its head. -/
theorem State.retireList_of_head {a b : Nat} {l : List Nat} {s : State} (hl : ∀ y ∈ l, y = a ∨ y = b)
    (hb : b ∉ l → s.retires b = false) (ha : l.head? = some a) :
    l.foldl (fun t e => t.retireIfEmpty .freed e) s = (s.retireIfEmpty .freed a).retireIfEmpty .freed b := by
  cases l with
  | nil => cases ha
  | cons y l =>
    cases ha
    rw [List.foldl_cons]
    refine State.retireList_of_one_kept (fun z hz => hl z (List.mem_cons_of_mem _ hz))
      (State.retires_retireIfEmpty_same _ _ _) fun k => ?_
    by_cases hab : b = a
    · exact hab ▸ State.retires_retireIfEmpty_same .freed a s
    · rw [State.retires_retireIfEmpty_of_ne .freed s hab]
      exact hb (by simp [hab, k])

/-- The extents of the table among some extents, in slot order. -/
def State.presentAmong (es : List Nat) (s : State) : List Nat := (s.records.map (·.extent)).filter (fun e => e ∈ es)

theorem State.retires_of_not_present {es : List Nat} {s : State} {e : Nat} (he : e ∈ es) (h : e ∉ s.presentAmong es) :
    s.retires e = false := by
  refine State.retires_of_none ?_
  rw [State.residentOf_eq_none]
  intro r hr k
  exact h (List.mem_filter.2 ⟨List.mem_map.2 ⟨r, hr, k⟩, by simpa using he⟩)

/-- The retirements among two extents, one after the other in one order or the other. -/
theorem State.retireEmpties_pair {a b : Nat} {es : List Nat} (hes : ∀ y, y ∈ es ↔ y = a ∨ y = b) (s : State) :
    s.retireEmpties es = (s.retireIfEmpty .freed a).retireIfEmpty .freed b ∨
      s.retireEmpties es = (s.retireIfEmpty .freed b).retireIfEmpty .freed a := by
  have hl : ∀ y ∈ s.presentAmong es, y = a ∨ y = b := fun y hy => (hes y).1 (by simpa using (List.mem_filter.1 hy).2)
  have ha := State.retires_of_not_present (s := s) ((hes a).2 (.inl rfl))
  have hb := State.retires_of_not_present (s := s) ((hes b).2 (.inr rfl))
  show (s.presentAmong es).foldl _ s = _ ∨ (s.presentAmong es).foldl _ s = _
  cases hh : (s.presentAmong es).head? with
  | none =>
    rw [List.head?_eq_none_iff] at hh
    rw [hh] at ha hb
    left
    rw [hh, State.retireIfEmpty_of_kept (ha (by simp)), State.retireIfEmpty_of_kept (hb (by simp))]
    rfl
  | some y =>
    rcases hl y (List.mem_of_head? hh) with rfl | rfl
    · exact .inl (State.retireList_of_head hl hb hh)
    · exact .inr (State.retireList_of_head (fun y hy => (hl y hy).symm) ha hh)

/-- The first of two records in the table is that of the lower slot. -/
theorem State.presentAmong_head {s : State} {a b : Nat} {es : List Nat} {r u : Resident}
    (hes : ∀ y, y ∈ es ↔ y = a ∨ y = b) (hs : s.records.Pairwise (·.slot < ·.slot)) (hr : s.residentOf a = some r)
    (hu : s.residentOf b = some u) (hab : a ≠ b) (hle : r.slot ≤ u.slot) : (s.presentAmong es).head? = some a := by
  have hfilter : s.presentAmong es = (s.records.filter fun x => x.extent ∈ es).map (·.extent) := by
    rw [State.presentAmong, List.filter_map]
    rfl
  have hfind {e : Nat} (he : e ∈ es) {x : Resident} (hx : s.residentOf e = some x) :
      (s.records.filter fun x => x.extent ∈ es).find? (fun x => x.extent == e) = some x := by
    rw [List.find?_filter, ← hx]
    unfold State.residentOf
    congr 1
    funext y
    by_cases hy : y.extent = e <;> simp [hy, he]
  have hr' := hfind ((hes a).2 (.inl rfl)) hr
  have hu' := hfind ((hes b).2 (.inr rfl)) hu
  have hpw := hs.filter (fun x => decide (x.extent ∈ es))
  have hmem : ∀ x ∈ s.records.filter (fun x => decide (x.extent ∈ es)), x.extent = a ∨ x.extent = b := fun x hx =>
    (hes x.extent).1 (by simpa using (List.mem_filter.1 hx).2)
  rw [hfilter]
  generalize s.records.filter (fun x => decide (x.extent ∈ es)) = l at hr' hu' hpw hmem
  cases l with
  | nil => cases hr'
  | cons y l =>
    rcases hmem y (by simp) with hy | hy
    · simp [hy]
    · have hyu : y = u := by simpa [hy] using hu'
      have hrl : r ∈ l := by
        rcases List.mem_cons.1 (List.mem_of_find?_eq_some hr') with k | k
        · have : r.extent = a := by simpa using List.find?_some hr'
          exact absurd (this.symm.trans (k ▸ hy)) hab
        · exact k
      have := (List.pairwise_cons.1 hpw).1 r hrl
      rw [hyu] at this
      omega

/-- The retirements among two extents, in ascending order of their slots (R101). -/
theorem State.retireEmpties_ordered {s : State} {a b : Nat} {es : List Nat} {r u : Resident}
    (hes : ∀ y, y ∈ es ↔ y = a ∨ y = b) (hs : s.records.Pairwise (·.slot < ·.slot)) (hr : s.residentOf a = some r)
    (hu : s.residentOf b = some u) (hab : a ≠ b) (hle : r.slot ≤ u.slot) :
    s.retireEmpties es = (s.retireIfEmpty .freed a).retireIfEmpty .freed b :=
  State.retireList_of_head (fun y hy => (hes y).1 (by simpa using (List.mem_filter.1 hy).2))
    (State.retires_of_not_present ((hes b).2 (.inr rfl))) (State.presentAmong_head hes hs hr hu hab hle)

/-! ### What a retirement places -/

/-- A removal with its slot freed places one RETIRE_SLOT, or owes it. -/
theorem State.remove_freed_announces (r : Resident) (s : State) :
    (s.flash.out.length < 16 → s.flashOwed = [] →
      (s.remove .freed r).flash.out = s.flash.out ++ [.retireSlot r.slot] ∧ (s.remove .freed r).flashOwed = []) ∧
    (16 ≤ s.flash.out.length ∨ s.flashOwed ≠ [] →
      (s.remove .freed r).flash.out = s.flash.out ∧ (s.remove .freed r).flashOwed = s.flashOwed ++ [.retire r.slot]) := by
  obtain ⟨h1, h2⟩ := State.remove_flash .freed r s
  rw [h1, h2]
  refine ⟨fun k1 k2 => State.produceRetire_placed r.slot k1 k2, fun k => ?_⟩
  show (s.produceRetire r.slot).flash.out = _ ∧ (s.produceRetire r.slot).flashOwed = _
  rw [State.produceRetire_owed r.slot k]
  exact ⟨rfl, rfl⟩

/-- A retirement only adds to the free pool and to what is placed or owed. -/
theorem State.retireIfEmpty_grows (e : Nat) (s : State) :
    (∀ n ∈ s.free, n ∈ (s.retireIfEmpty .freed e).free) ∧ s.flash.out <+: (s.retireIfEmpty .freed e).flash.out ∧
      (∀ o ∈ s.flashOwed, o ∈ (s.retireIfEmpty .freed e).flashOwed) := by
  refine ⟨?_, (State.retireIfEmpty_keeps .freed e s).flash.out, ?_⟩ <;>
    rcases State.retireIfEmpty_cases .freed e s with ⟨-, h⟩ | ⟨r, -, -, h⟩ <;> rw [h]
  · exact fun _ => id
  · intro n hn
    rw [State.remove_freed_free]
    exact (mem_insertBy _ _ _ _).2 (.inr hn)
  · exact fun _ => id
  · obtain ⟨h1, h2⟩ := State.remove_freed_announces r s
    by_cases k : s.flash.out.length < 16 ∧ s.flashOwed = []
    · rw [k.2]
      exact nofun
    · intro o ho
      rw [(h2 (by by_contra j; exact k (by simpa [not_or] using j))).2]
      exact List.mem_append_left _ ho

/-- A retirement with a place free and nothing owed owes nothing, and takes one place at most. -/
theorem State.retireIfEmpty_room {e : Nat} {s : State} (h : s.flash.out.length < 16) (ho : s.flashOwed = []) :
    (s.retireIfEmpty .freed e).flashOwed = [] ∧
      (s.retireIfEmpty .freed e).flash.out.length ≤ s.flash.out.length + 1 := by
  rcases State.retireIfEmpty_cases .freed e s with ⟨-, h2⟩ | ⟨r, -, -, h2⟩ <;> rw [h2]
  · exact ⟨ho, Nat.le_succ _⟩
  · obtain ⟨h3, h4⟩ := (State.remove_freed_announces r s).1 h ho
    exact ⟨h4, by rw [h3]; simp⟩

/-- A retired record's slot is free, its RETIRE_SLOT placed or owed. -/
theorem State.retireIfEmpty_announces {e : Nat} {s : State} {r : Resident} (hr : s.residentOf e = some r)
    (h : s.retires e = true) :
    r.slot ∈ (s.retireIfEmpty .freed e).free ∧
      (s.flash.out.length < 16 → s.flashOwed = [] → .retireSlot r.slot ∈ (s.retireIfEmpty .freed e).flash.out) ∧
      (s.flashOwed ≠ [] → .retire r.slot ∈ (s.retireIfEmpty .freed e).flashOwed) := by
  rw [State.retireIfEmpty_of_retired hr h]
  obtain ⟨h1, h2⟩ := State.remove_freed_announces r s
  refine ⟨?_, fun k1 k2 => ?_, fun k => ?_⟩
  · rw [State.remove_freed_free]
    exact (mem_insertBy _ _ _ _).2 (.inl rfl)
  · rw [(h1 k1 k2).1]
    simp
  · rw [(h2 (.inr k)).2]
    simp

/-- The same of one of two extents whose records are retired together. -/
theorem State.retireEmpties_announces {e b : Nat} {es : List Nat} {s : State} {r : Resident}
    (hes : ∀ y, y ∈ es ↔ y = e ∨ y = b) (hr : s.residentOf e = some r) (h : s.retires e = true)
    (hl : s.flash.out.length + 2 ≤ 16) :
    r.slot ∈ (s.retireEmpties es).free ∧ (s.flashOwed = [] → .retireSlot r.slot ∈ (s.retireEmpties es).flash.out) ∧
      (s.flashOwed ≠ [] → .retire r.slot ∈ (s.retireEmpties es).flashOwed) := by
  obtain ⟨h1, h2, h3⟩ := State.retireIfEmpty_announces hr h
  have hfirst : r.slot ∈ ((s.retireIfEmpty .freed e).retireIfEmpty .freed b).free ∧
      (s.flashOwed = [] → .retireSlot r.slot ∈ ((s.retireIfEmpty .freed e).retireIfEmpty .freed b).flash.out) ∧
      (s.flashOwed ≠ [] → .retire r.slot ∈ ((s.retireIfEmpty .freed e).retireIfEmpty .freed b).flashOwed) := by
    obtain ⟨g1, g2, g3⟩ := State.retireIfEmpty_grows b (s.retireIfEmpty .freed e)
    exact ⟨g1 _ h1, fun k => g2.subset (h2 (by omega) k), fun k => g3 _ (h3 k)⟩
  rcases State.retireEmpties_pair hes s with k | k <;> rw [k]
  · exact hfirst
  · by_cases hb : e = b
    · rw [← hb] at hfirst ⊢
      exact hfirst
    · have hr' : (s.retireIfEmpty .freed b).residentOf e = some r :=
        (State.residentOf_retireIfEmpty_of_ne .freed s hb).trans hr
      obtain ⟨i1, i2, i3⟩ := State.retireIfEmpty_announces hr' ((State.retires_retireIfEmpty_of_ne .freed s hb).trans h)
      refine ⟨i1, fun j => ?_, fun j => i3 ?_⟩
      · obtain ⟨k1, k2⟩ := State.retireIfEmpty_room (e := b) (show s.flash.out.length < 16 by omega) j
        exact i2 (by omega) k1
      · obtain ⟨o, l, ho⟩ := List.exists_cons_of_ne_nil j
        have := (State.retireIfEmpty_grows b s).2.2 o (by rw [ho]; simp)
        exact List.ne_nil_of_mem this

/-- Two records retired together, in the order of their slots. -/
theorem State.retireEmpties_two {s : State} {a b : Nat} {es : List Nat} {r u : Resident}
    (hes : ∀ y, y ∈ es ↔ y = a ∨ y = b) (hs : s.records.Pairwise (·.slot < ·.slot)) (hr : s.residentOf a = some r)
    (hu : s.residentOf b = some u) (hab : a ≠ b) (hle : r.slot ≤ u.slot) (ha : s.retires a = true)
    (hb : s.retires b = true) (hl : s.flash.out.length + 2 ≤ 16) (ho : s.flashOwed = []) :
    (s.retireEmpties es).flash.out = s.flash.out ++ [.retireSlot r.slot, .retireSlot u.slot] := by
  have hu' : (s.remove .freed r).residentOf b = some u := by
    rw [State.residentOf_remove_of_ne .freed r s (by rw [State.residentOf_extent hr]; exact hab.symm), hu]
  rw [State.retireEmpties_ordered hes hs hr hu hab hle]
  have hb' := State.retires_retireIfEmpty_of_ne .freed s hab.symm
  rw [State.retireIfEmpty_of_retired hr ha] at hb' ⊢
  rw [State.retireIfEmpty_of_retired hu' (hb'.trans hb)]
  obtain ⟨h1, h2⟩ := (State.remove_freed_announces r s).1 (by omega) ho
  obtain ⟨h3, -⟩ := (State.remove_freed_announces u (s.remove .freed r)).1 (by rw [h1]; simp; omega) h2
  rw [h3, h1, List.append_assoc]
  rfl

theorem State.retireIfEmpty_dirtyList (e : Nat) (s : State) :
    ∀ x ∈ (s.retireIfEmpty .freed e).dirtyList, x ∈ s.dirtyList := by
  rcases State.retireIfEmpty_cases .freed e s with ⟨-, h⟩ | ⟨r, -, -, h⟩ <;> rw [h]
  · exact fun _ => id
  · intro x hx
    rw [State.remove_eq, State.settleSlot_eq, State.returnHeat_eq] at hx
    have hb := State.body_dirtyList (State.announced_body .freed r.slot s)
    have hx' : x ∈ without r.extent (State.dirtyList (if SlotFate.freed.announced then s.produceRetire r.slot else s)) := hx
    rw [hb] at hx'
    exact ((mem_without _ _ _).1 hx').1

theorem State.retireEmpties_dirtyList (es : List Nat) (s : State) :
    ∀ x ∈ (s.retireEmpties es).dirtyList, x ∈ s.dirtyList := by
  unfold State.retireEmpties
  generalize (s.records.map (·.extent)).filter (fun e => e ∈ es) = l
  induction l generalizing s with
  | nil => exact fun _ => id
  | cons e l ih => exact fun x hx => State.retireIfEmpty_dirtyList e s x (ih _ x hx)

end Sys2Proof.Machine
end

section
/-! PROOFS. DONE: the end of a route and of its holds, and the losses of a failed WRITE. -/

namespace Sys2Proof.Machine

/-! ### The taking of a DONE -/

/-- The state in which a DONE is answered. -/
def State.doned (tag : Nat) (s : State) : State :=
  { s with front := { s.front with fifo := s.front.fifo.tail, out := s.front.out ++ [.doneAnswer .ok tag] } }

/-- What a DONE of a tag with an entry does (R67). -/
theorem exec_done_ends {s : State} {tag outcome : Nat} {x : RouteEntry} {ws : List Word} (hv : s.service = .serving)
    (ht : tag < 32) (ho : s.offered .front (.done tag outcome) = some ws) (hout : outcome ≤ 1)
    (hx : s.routes.find? (fun y => y.tag == tag) = some x) :
    exec (.done tag outcome) s = .next (((s.doned tag).endRoute x (outcome == 1)).advance .front) := by
  have h1 : exec (.done tag outcome) s = .next (((s.popFifo .front).takeDone tag outcome).advance .front) :=
    takeRequest_offered _ ho
  have h2 : (s.popFifo .front).isServing = true := by simp [State.isServing, hv]
  have h3 : (s.popFifo .front).routes.find? (fun y => y.tag == tag) = some x := hx
  have hroom : (s.popFifo .front).hasRoom .front 1 = true := by
    rw [State.hasRoom_popFifo]
    exact State.hasRoom_of_offered ho
  have h4 : (s.popFifo .front).place .front (.doneAnswer .ok tag) = s.doned tag := State.place_of_room _ hroom
  rw [h1, State.takeDone, h2, if_neg (by simp), if_neg (not_not.2 ⟨ht, hout⟩), h3]
  dsimp only
  rw [h4]

/-- A DONE of a tag without an entry (R67). -/
theorem exec_done_unknown {s : State} {tag outcome : Nat} {ws : List Word} (hv : s.service = .serving) (ht : tag < 32)
    (hout : outcome < 2) (ho : s.offered .front (.done tag outcome) = some ws)
    (hx : s.routes.find? (fun y => y.tag == tag) = none) :
    exec (.done tag outcome) s = .next (s.answered .front (.doneAnswer .unknownTag tag)) := by
  refine takeRequest_answers _ _ ho ?_
  have h2 : (s.popFifo .front).isServing = true := by simp [State.isServing, hv]
  have h3 : (s.popFifo .front).routes.find? (fun y => y.tag == tag) = none := hx
  rw [State.takeDone, h2, if_neg (by simp), if_neg (not_not.2 ⟨ht, Nat.le_of_lt_succ hout⟩), h3]

/-! ### The end of an entry -/

/-- The state without an entry, its losses counted. -/
def State.unrouted (tag : Nat) (s : State) : State := { s with routes := s.routes.filter (fun y => y.tag ≠ tag) }

/-- The ends of an entry's holds, and of the event. -/
def State.releaseHolds (x : RouteEntry) (s : State) : State :=
  (if x.disk then (s.retireEmpties x.extents).armAdvice else s.retireEmpties x.extents).finish

theorem State.endRoute_kept {s : State} {x : RouteEntry} {failed : Bool} (h : (failed && x.kind == .write) = false) :
    s.endRoute x failed = (s.unrouted x.tag).releaseHolds x := by
  unfold State.endRoute
  rw [if_neg (by simp [h])]
  rfl

theorem State.endRoute_failed {s : State} {x : RouteEntry} (h : x.kind = .write) :
    s.endRoute x true = ((s.failEntry x).unrouted x.tag).releaseHolds x := by
  unfold State.endRoute
  rw [if_pos (by simp [h])]
  rfl

/-- An advice timer armed at the end of holds is all that an entry with the disk flag changes there. -/
theorem State.releaseHolds_ends (x : RouteEntry) (s : State) :
    ∃ w : State, w = { s.retireEmpties x.extents with adviceTimer := w.adviceTimer } ∧
      w.adviceTimer = (if x.disk then (s.retireEmpties x.extents).armAdvice else s.retireEmpties x.extents).adviceTimer ∧
      w.Ends (s.releaseHolds x) := by
  refine ⟨if x.disk then (s.retireEmpties x.extents).armAdvice else s.retireEmpties x.extents, ?_, rfl, .finish _⟩
  split
  · exact State.armAdvice_eq _
  · rfl

section
variable (x : RouteEntry) (s : State)

theorem State.releaseHolds_routes : (s.releaseHolds x).routes = s.routes := by
  obtain ⟨w, hw, -, h⟩ := State.releaseHolds_ends x s
  rw [h.routes, hw]
  exact (State.unremoved_routes (State.retireEmpties_unremoved _ _) : (s.retireEmpties x.extents).routes = _)

theorem State.releaseHolds_contexts : (s.releaseHolds x).contexts = s.contexts := by
  obtain ⟨w, hw, -, h⟩ := State.releaseHolds_ends x s
  rw [h.contexts, hw]
  exact (State.unremoved_contexts (State.retireEmpties_unremoved _ _) : (s.retireEmpties x.extents).contexts = _)

theorem State.releaseHolds_lostSegments : (s.releaseHolds x).stats.lostSegments = s.stats.lostSegments := by
  obtain ⟨w, hw, -, h⟩ := State.releaseHolds_ends x s
  rw [h.lostSegments, hw]
  exact congrArg Stats.lostSegments
    (State.unremoved_stats (State.retireEmpties_unremoved _ _) : (s.retireEmpties x.extents).stats = _)

theorem State.releaseHolds_dirtyList : ∀ e ∈ (s.releaseHolds x).dirtyList, e ∈ s.dirtyList := by
  obtain ⟨w, hw, -, h⟩ := State.releaseHolds_ends x s
  rw [h.dirtyList, hw]
  exact State.retireEmpties_dirtyList _ _

/-- The ends of holds retire the records they leave empty, and leave every other extent's segments. -/
theorem State.releaseHolds_segmentsOf (e : Nat) :
    (s.releaseHolds x).segmentsOf e = if e ∈ x.extents ∧ s.retires e = true then none else s.segmentsOf e := by
  obtain ⟨w, hw, -, h⟩ := State.releaseHolds_ends x s
  rw [h.segmentsOf, hw]
  show (s.retireEmpties x.extents).segmentsOf e = _
  have hr := State.residentOf_retireEmpties x.extents s e
  split
  · rename_i k
    rw [if_pos k] at hr
    exact State.segmentsOf_eq_none.2 hr
  · rename_i k
    rw [if_neg k] at hr
    simp only [State.segmentsOf, hr]

/-- What the ends of holds place stands behind what their retirements placed. -/
theorem State.releaseHolds_grows :
    (s.retireEmpties x.extents).flash.out <+: (s.releaseHolds x).flash.out ∧
      s.front.out <+: (s.releaseHolds x).front.out ∧ (s.releaseHolds x).free = (s.retireEmpties x.extents).free ∧
      (s.releaseHolds x).flashOwed = (s.retireEmpties x.extents).flashOwed := by
  obtain ⟨w, hw, -, h⟩ := State.releaseHolds_ends x s
  have hf := h.keeps.front.out
  have hl := h.keeps.flash.out
  rw [h.free, h.flashOwed, hw]
  rw [hw] at hf hl
  refine ⟨hl, ?_, rfl, rfl⟩
  have : (s.retireEmpties x.extents).front.out = s.front.out :=
    congrArg Link.out (State.unremoved_front (State.retireEmpties_unremoved _ _))
  rw [← this]
  exact hf

end

theorem RouteEntry.mem_extents {x : RouteEntry} {e : Nat} :
    e ∈ x.extents ↔ e = x.first ∨ e = (x.second.map (·.1)).getD x.first := by
  cases h : x.second with
  | none => simp [RouteEntry.extents, h]
  | some y => simp [RouteEntry.extents, h]

/-- Whether an extent is retired once an entry has left the table. -/
theorem State.retires_unrouted {s : State} {tag e : Nat} {r : Resident} (hr : s.residentOf e = some r) :
    (s.unrouted tag).retires e = true ↔
      r.isEmpty = true ∧ r.state = .resident ∧ ∀ y ∈ s.routes, y.tag ≠ tag → y.touches e = false := by
  have hr' : (s.unrouted tag).residentOf e = some r := hr
  simp only [State.retires, hr', Bool.and_eq_true, beq_iff_eq, Bool.not_eq_true', and_assoc]
  refine and_congr_right fun _ => and_congr_right fun _ => ?_
  simp only [State.held, State.unrouted, List.any_eq_false, List.mem_filter, decide_eq_true_eq, Bool.not_eq_true,
    and_imp]

theorem State.retires_unrouted_doned {s : State} {tag e : Nat} {r : Resident} (hr : s.residentOf e = some r) :
    ((s.doned tag).unrouted tag).retires e = true ↔
      r.isEmpty = true ∧ r.state = .resident ∧ ∀ y ∈ s.routes, y.tag ≠ tag → y.touches e = false :=
  State.retires_unrouted (s := s.doned tag) hr

theorem State.retires_of_nonempty {s : State} {e : Nat} (h : ∀ r, s.residentOf e = some r → r.isEmpty = false) :
    s.retires e = false := by
  cases hr : s.residentOf e with
  | none => exact State.retires_of_none hr
  | some r => simp [State.retires, hr, h r hr]

/-- The advice timer once an entry ends that retires nothing (R147). -/
theorem State.releaseHolds_adviceTimer {x : RouteEntry} {s : State} (h : ∀ e ∈ x.extents, s.retires e = false)
    (hv : s.service = .serving) :
    (s.releaseHolds x).adviceTimer =
      if x.disk = true ∧ s.spindle = .up ∧ s.adviceSent = false ∧ s.settings.adviceDelay ≠ 0 then
        some s.settings.adviceDelay
      else s.adviceTimer := by
  obtain ⟨w, -, hw, he⟩ := State.releaseHolds_ends x s
  rw [he.adviceTimer, hw, State.retireEmpties_of_kept h]
  unfold State.armAdvice State.upPeriod State.isServing
  rw [hv]
  by_cases h1 : x.disk = true <;> by_cases h2 : s.spindle = .up <;> by_cases h3 : s.adviceSent = false <;>
    by_cases h4 : s.settings.adviceDelay = 0 <;> simp [h1, h2, h3, h4]

/-! ### The losses of a failed WRITE -/

/-- The segments of an extent that a failed WRITE loses: those routed to flash that are still valid (R69). -/
def State.lostOf (s : State) (y : Nat × SegSet) : SegSet :=
  match s.residentOf y.1 with
  | none => 0#32
  | some r => y.2 &&& r.valid

/-- The LOST_MARK of an extent of a failed WRITE, none where nothing is lost (R69). -/
def State.lostMarkOf (s : State) (y : Nat × SegSet) : List Outbound :=
  match s.residentOf y.1 with
  | none => []
  | some r => if s.lostOf y = 0#32 then [] else [.lostMark r.slot (s.lostOf y)]

theorem State.lostOf_congr {s t : State} {y : Nat × SegSet} (h : t.residentOf y.1 = s.residentOf y.1) :
    t.lostOf y = s.lostOf y ∧ t.lostMarkOf y = s.lostMarkOf y := by
  have h1 : t.lostOf y = s.lostOf y := by simp only [State.lostOf, h]
  exact ⟨h1, by simp only [State.lostMarkOf, h, h1]⟩

theorem State.lostOf_resident {s : State} {y : Nat × SegSet} {r : Resident} (h : s.residentOf y.1 = some r) :
    s.lostOf y = y.2 &&& r.valid := by
  simp [State.lostOf, h]

theorem segLess_zero (a : SegSet) : segLess a 0#32 = a :=
  (BitVec.and_allOnes : a &&& BitVec.allOnes 32 = a)

theorem segCount_zero : segCount 0#32 = 0 := by decide

/-- What the loss at one extent does (R69). -/
structure State.Loses (s t : State) (y : Nat × SegSet) : Prop where
  others : ∀ e, e ≠ y.1 → t.residentOf e = s.residentOf e
  resident : ∀ r, s.residentOf y.1 = some r →
    t.residentOf y.1 = some (if s.lostOf y = 0#32 then r else (r.lose (s.lostOf y)).settled)
  out : t.flash.out = s.flash.out ++ s.lostMarkOf y
  lost : t.stats.lostSegments =
    if s.lostOf y = 0#32 then s.stats.lostSegments else min (s.stats.lostSegments + segCount (s.lostOf y)) 4294967295
  dirtyList : ∀ e ∈ t.dirtyList, e ≠ y.1 → e ∈ s.dirtyList
  clean : ∀ r, s.residentOf y.1 = some r → s.lostOf y ≠ 0#32 → segLess r.dirty (s.lostOf y) = 0#32 → y.1 ∉ t.dirtyList
  contexts : t.contexts = s.contexts
  routes : t.routes = s.routes
  front : t.front = s.front

theorem State.failWrite_loses (y : Nat × SegSet) (s : State) (hl : s.flash.out.length < 16) :
    s.Loses (s.failWrite y.1 y.2) y := by
  have same (h : s.lostOf y = 0#32) (hm : s.lostMarkOf y = []) : s.Loses s y :=
    ⟨fun _ _ => rfl, fun r hr => by rw [if_pos h, hr], by rw [hm, List.append_nil], by rw [if_pos h],
      fun _ h _ => h, fun _ _ k => absurd h k, rfl, rfl, rfl⟩
  cases hr : s.residentOf y.1 with
  | none =>
    have h : s.failWrite y.1 y.2 = s := by simp only [State.failWrite, hr]
    rw [h]
    exact same (by simp [State.lostOf, hr]) (by simp [State.lostMarkOf, hr])
  | some r =>
    have hg := State.lostOf_resident hr
    by_cases h0 : s.lostOf y = 0#32
    · have h : s.failWrite y.1 y.2 = s := by
        simp only [State.failWrite, hr]
        rw [if_pos (hg ▸ h0)]
      rw [h]
      exact same h0 (by simp [State.lostMarkOf, hr, h0])
    · have h : s.failWrite y.1 y.2 = (s.store .tail (r.lose (s.lostOf y))).markLost r.slot (s.lostOf y) := by
        simp only [State.failWrite, hr, ← hg]
        rw [if_neg h0]
      have hre : r.extent = y.1 := State.residentOf_extent hr
      have hext : (r.lose (s.lostOf y)).extent = y.1 := hre
      obtain ⟨h1, h2, h3, h4, h5⟩ :=
        State.markLost_unnoticed (s := s.store .tail (r.lose (s.lostOf y))) r.slot (s.lostOf y) hl
      have hdl := State.store_dirtyList .tail (r.lose (s.lostOf y)) s
      have hd : ((s.store .tail (r.lose (s.lostOf y))).markLost r.slot (s.lostOf y)).dirtyList =
          (s.store .tail (r.lose (s.lostOf y))).dirtyList := State.place_dirtyList (s.store .tail _) _ _
      have hmark : s.lostMarkOf y = [.lostMark r.slot (s.lostOf y)] := by simp [State.lostMarkOf, hr, h0]
      rw [h]
      refine ⟨fun e he => ?_, fun r' hr' => ?_, ?_, ?_, fun e he hne => ?_, fun r' hr' _ hz => ?_, h2.trans rfl, ?_, h3⟩
      · rw [State.residentOf_congr h1]
        exact State.residentOf_store_of_ne .tail _ s (hext ▸ he)
      · rw [hr] at hr'
        cases hr'
        rw [State.residentOf_congr h1, if_neg h0, ← hext]
        exact State.residentOf_store_same .tail (hext ▸ hr)
      · rw [h4, hmark]
        rfl
      · rw [h5, if_neg h0]
        rfl
      · rw [hd, hdl, hext] at he
        split at he
        · exact ((mem_without _ _ _).1 he).1
        · split at he
          · exact he
          · rcases List.mem_append.1 he with he | he
            · exact he
            · exact absurd (List.mem_singleton.1 he) hne
      · rw [hr] at hr'
        cases hr'
        rw [hd, hdl, hext, if_pos (show (r.lose (s.lostOf y)).dirty = 0#32 from hz)]
        simp
      · exact State.place_routes (s.store .tail _) _ _

/-- The extents of an entry with the segments its answer routed to flash. -/
def RouteEntry.sets (x : RouteEntry) : List (Nat × SegSet) := (x.first, x.firstFlash) :: x.second.toList

theorem RouteEntry.extents_eq (x : RouteEntry) : x.extents = x.sets.map (·.1) := by
  cases h : x.second <;> simp [RouteEntry.extents, RouteEntry.sets, h]

theorem State.failEntry_eq (x : RouteEntry) (s : State) :
    s.failEntry x = x.sets.foldl (fun t y => t.failWrite y.1 y.2) s := by
  cases h : x.second <;> simp [State.failEntry, RouteEntry.sets, h]

/-- What the losses at some extents, one after the other, do (R69). -/
structure State.LosesAll (s t : State) (l : List (Nat × SegSet)) : Prop where
  others : ∀ e, e ∉ l.map (·.1) → t.residentOf e = s.residentOf e
  resident : ∀ y ∈ l, ∀ r, s.residentOf y.1 = some r →
    t.residentOf y.1 = some (if s.lostOf y = 0#32 then r else (r.lose (s.lostOf y)).settled)
  out : t.flash.out = s.flash.out ++ l.flatMap s.lostMarkOf
  lost : s.stats.lostSegments ≤ 4294967295 ∨ (∃ y ∈ l, s.lostOf y ≠ 0#32) →
    t.stats.lostSegments = min (s.stats.lostSegments + (l.map fun y => segCount (s.lostOf y)).sum) 4294967295
  dirtyList : ∀ e ∈ t.dirtyList, e ∉ l.map (·.1) → e ∈ s.dirtyList
  clean : ∀ y ∈ l, ∀ r, s.residentOf y.1 = some r → s.lostOf y ≠ 0#32 → segLess r.dirty (s.lostOf y) = 0#32 →
    y.1 ∉ t.dirtyList
  contexts : t.contexts = s.contexts
  routes : t.routes = s.routes
  front : t.front = s.front

theorem State.loses_all {l : List (Nat × SegSet)} (hn : (l.map (·.1)).Nodup) (s : State)
    (hl : s.flash.out.length + l.length ≤ 16) : s.LosesAll (l.foldl (fun t y => t.failWrite y.1 y.2) s) l := by
  induction l generalizing s with
  | nil =>
    refine ⟨fun _ _ => rfl, nofun, by simp, fun h => ?_, fun _ h _ => h, nofun, rfl, rfl, rfl⟩
    rcases h with h | ⟨y, hy, -⟩
    · simp [h]
    · cases hy
  | cons y l ih =>
    rw [List.map_cons, List.nodup_cons] at hn
    obtain ⟨hy, hn'⟩ := hn
    rw [List.length_cons] at hl
    have h := State.failWrite_loses y s (by omega)
    rw [List.foldl_cons]
    generalize s.failWrite y.1 y.2 = u at h
    have hout : u.flash.out.length + l.length ≤ 16 := by
      have : (s.lostMarkOf y).length ≤ 1 := by
        unfold State.lostMarkOf
        split
        · simp
        · split <;> simp
      rw [h.out, List.length_append]
      omega
    have k := ih hn' u hout
    have hne (z : Nat × SegSet) (hz : z ∈ l) : z.1 ≠ y.1 := fun e => hy (e ▸ List.mem_map.2 ⟨z, hz, rfl⟩)
    have hres (z : Nat × SegSet) (hz : z ∈ l) : u.residentOf z.1 = s.residentOf z.1 := h.others z.1 (hne z hz)
    have hlost (z : Nat × SegSet) (hz : z ∈ l) : u.lostOf z = s.lostOf z := (State.lostOf_congr (hres z hz)).1
    have hmark (z : Nat × SegSet) (hz : z ∈ l) : u.lostMarkOf z = s.lostMarkOf z := (State.lostOf_congr (hres z hz)).2
    refine ⟨fun e he => ?_, fun z hz r hr => ?_, ?_, fun hb => ?_, fun e he hne' => ?_, fun z hz r hr h1 h2 => ?_,
      k.contexts.trans h.contexts, k.routes.trans h.routes, k.front.trans h.front⟩
    · rw [List.map_cons, List.mem_cons, not_or] at he
      exact (k.others e he.2).trans (h.others e he.1)
    · rcases List.mem_cons.1 hz with rfl | hz
      · exact (k.others z.1 hy).trans (h.resident r hr)
      · rw [← hlost z hz]
        exact k.resident z hz r ((hres z hz).trans hr)
    · rw [k.out, h.out, List.append_assoc, List.flatMap_cons, List.flatMap_congr hmark]
    · have hmap : l.map (fun z => segCount (u.lostOf z)) = l.map (fun z => segCount (s.lostOf z)) :=
        List.map_congr_left fun z hz => by rw [hlost z hz]
      have hu := h.lost
      rw [List.map_cons, List.sum_cons]
      by_cases h0 : s.lostOf y = 0#32
      · rw [if_pos h0] at hu
        rw [k.lost ?_, hmap, hu, h0, segCount_zero, Nat.zero_add]
        rcases hb with hb | ⟨z, hz, hz0⟩
        · exact .inl (hu ▸ hb)
        · rcases List.mem_cons.1 hz with rfl | hz
          · exact absurd h0 hz0
          · exact .inr ⟨z, hz, (hlost z hz).symm ▸ hz0⟩
      · rw [if_neg h0] at hu
        rw [k.lost (.inl (by rw [hu]; exact Nat.min_le_right _ _)), hmap, hu]
        omega
    · rw [List.map_cons, List.mem_cons, not_or] at hne'
      exact h.dirtyList e (k.dirtyList e he hne'.2) hne'.1
    · rcases List.mem_cons.1 hz with rfl | hz
      · exact fun hd => h.clean r hr h1 h2 (k.dirtyList z.1 hd hy)
      · rw [← hlost z hz] at h1 h2
        exact k.clean z hz r ((hres z hz).trans hr) h1 h2

/-! ### DONE OK, and DONE FAILED of a READ or a TRIM -/

/-- The end of an entry whose records stay (R68 to R70). -/
theorem done_keeps {s : State} {tag : Nat} {x : RouteEntry} (hv : s.service = .serving)
    (he : ∀ e ∈ x.extents, ∀ r, s.residentOf e = some r → r.isEmpty = false) :
    let t := ((s.doned tag).unrouted tag).releaseHolds x
    t.routes = s.routes.filter (fun y => y.tag ≠ tag) ∧
      s.front.out ++ [.doneAnswer .ok tag] <+: t.front.out ∧ (∀ e, t.segmentsOf e = s.segmentsOf e) ∧
      t.contexts = s.contexts ∧ t.free = s.free ∧ t.fences = s.fences ∧ t.watch = s.watch ∧ t.promo = s.promo ∧
      t.clean = s.clean ∧ t.dirtyList = s.dirtyList ∧
      t.adviceTimer =
        (if x.disk = true ∧ s.spindle = .up ∧ s.adviceSent = false ∧ s.settings.adviceDelay ≠ 0 then
          some s.settings.adviceDelay
        else s.adviceTimer) := by
  intro t
  have hkept : ∀ e ∈ x.extents, ((s.doned tag).unrouted tag).retires e = false := fun e h =>
    State.retires_of_nonempty (he e h)
  obtain ⟨w, hw, -, hfin⟩ := State.releaseHolds_ends x ((s.doned tag).unrouted tag)
  rw [State.retireEmpties_of_kept hkept] at hw
  refine ⟨State.releaseHolds_routes _ _, (State.releaseHolds_grows x ((s.doned tag).unrouted tag)).2.1, fun e => ?_,
    State.releaseHolds_contexts _ _, ?_, ?_, ?_, ?_, ?_, ?_, State.releaseHolds_adviceTimer hkept hv⟩
  · show State.segmentsOf (State.releaseHolds _ _) e = _
    rw [State.releaseHolds_segmentsOf, if_neg]
    · rfl
    · rintro ⟨k1, k2⟩
      rw [hkept e k1] at k2
      cases k2
  · exact hfin.free.trans (by rw [hw]; rfl)
  · exact hfin.fences.trans (by rw [hw]; rfl)
  · exact hfin.watch.trans (by rw [hw]; rfl)
  · exact hfin.promo.trans (by rw [hw]; rfl)
  · exact hfin.clean.trans (by rw [hw]; rfl)
  · exact hfin.dirtyList.trans (by rw [hw]; rfl)

theorem RouteEntry.tag_of_find {l : List RouteEntry} {tag : Nat} {x : RouteEntry}
    (h : l.find? (fun y => y.tag == tag) = some x) : x.tag = tag := by
  simpa using List.find?_some h

/-- What a DONE OK does (R68). -/
theorem exec_done_ok {s : State} {tag : Nat} {x : RouteEntry} {ws : List Word} (hv : s.service = .serving)
    (ht : tag < 32) (ho : s.offered .front (.done tag 0) = some ws)
    (hx : s.routes.find? (fun y => y.tag == tag) = some x) :
    exec (.done tag 0) s = .next ((((s.doned tag).unrouted tag).releaseHolds x).advance .front) := by
  rw [exec_done_ends hv ht ho (by omega) hx, State.endRoute_kept (by rfl), RouteEntry.tag_of_find hx]

end Sys2Proof.Machine

open Sys2Proof Sys2Proof.Machine in
/-- Settles O21: the losses of a failed WRITE at its extents, then the retirements its holds kept waiting, in slot
order, then the end of the event. -/
theorem aDoneEndsTheRouteAndItsHolds : Obligations.ADoneEndsTheRouteAndItsHolds := by
  refine ⟨⟨?_, ?_, ?_, ?_⟩, ?_, ?_, ?_⟩
  · intro s tag x ws hv ht ho hx he
    exact ⟨_, exec_done_ok hv ht ho hx, done_keeps hv he⟩
  · intro s tag x r ws hv ht ho hx h2 hr hempty hst hno howed
    have hret := (State.retires_unrouted_doned (tag := tag) hr).2 ⟨hempty, hst, hno⟩
    have hes : ∀ y, y ∈ x.extents ↔ y = x.first ∨ y = x.first := by simp [RouteEntry.mem_extents, h2]
    have hone : ((s.doned tag).unrouted tag).retireEmpties x.extents = ((s.doned tag).unrouted tag).remove .freed r := by
      have h1 := State.retireIfEmpty_of_retired (f := .freed) (s := (s.doned tag).unrouted tag) hr hret
      have h3 := State.retireIfEmpty_of_kept (f := .freed)
        (State.retires_retireIfEmpty_same .freed x.first ((s.doned tag).unrouted tag))
      rw [← h1, ← h3]
      rcases State.retireEmpties_pair hes ((s.doned tag).unrouted tag) with k | k <;> exact k
    obtain ⟨hout, -, hfree, -⟩ := State.releaseHolds_grows x ((s.doned tag).unrouted tag)
    rw [hone] at hout hfree
    obtain ⟨hplaced, -⟩ := (State.remove_freed_announces r ((s.doned tag).unrouted tag)).1
      (by have := State.flashRoom_of_offered ho; exact (by omega : s.flash.out.length < 16)) howed
    refine ⟨_, exec_done_ok hv ht ho hx, State.releaseHolds_routes _ _, ?_,
      hfree.trans (State.remove_freed_free _ _), hplaced ▸ hout⟩
    refine (State.releaseHolds_segmentsOf x _ x.first).trans (if_pos ⟨(hes _).2 (.inl rfl), hret⟩)
  · intro s tag e x r ws hv ht ho hx hmem hr
    have hiff := State.retires_unrouted_doned (tag := tag) hr
    have hseg := State.releaseHolds_segmentsOf x ((s.doned tag).unrouted tag)
    obtain ⟨hout, -, hfree, howed⟩ := State.releaseHolds_grows x ((s.doned tag).unrouted tag)
    refine ⟨_, exec_done_ok hv ht ho hx, State.releaseHolds_routes _ _,
      fun y hy => (hseg y).trans (if_neg fun k => hy k.1), fun hk => ?_, fun hk => ?_⟩
    · have hret := hiff.2 hk
      obtain ⟨b, hes⟩ : ∃ b, ∀ y, y ∈ x.extents ↔ y = e ∨ y = b := by
        rcases RouteEntry.mem_extents.1 hmem with rfl | rfl
        · exact ⟨_, fun y => RouteEntry.mem_extents⟩
        · exact ⟨x.first, fun y => RouteEntry.mem_extents.trans or_comm⟩
      obtain ⟨h1, h2, h3⟩ := State.retireEmpties_announces (s := (s.doned tag).unrouted tag) hes hr hret
        (State.flashRoom_of_offered ho : s.flash.out.length + 2 ≤ 16)
      exact ⟨(hseg e).trans (if_pos ⟨hmem, hret⟩), hfree.symm ▸ h1, fun k => hout.subset (h2 k), fun k => howed.symm ▸ h3 k⟩
    · refine (hseg e).trans (if_neg fun k => ?_)
      obtain ⟨h1, h2, h3⟩ := hiff.1 k.2
      rcases hk with k | k | ⟨y, hy1, hy2, hy3⟩
      · rw [h1] at k
        cases k
      · exact k h2
      · rw [h3 y hy1 hy2] at hy3
        cases hy3
  · intro s tag e a x r u ws hv ht hasc ho hx h2 hne hno1 hno2 hr hu hr1 hr2 hu1 hu2 howed
    have hret1 := (State.retires_unrouted_doned (tag := tag) hr).2 ⟨hr1, hr2, hno1⟩
    have hret2 := (State.retires_unrouted_doned (tag := tag) hu).2 ⟨hu1, hu2, hno2⟩
    have hes : ∀ y, y ∈ x.extents ↔ y = x.first ∨ y = e := by simp [RouteEntry.mem_extents, h2]
    have hseg := State.releaseHolds_segmentsOf x ((s.doned tag).unrouted tag)
    obtain ⟨hout, -, -, -⟩ := State.releaseHolds_grows x ((s.doned tag).unrouted tag)
    refine ⟨_, exec_done_ok hv ht ho hx, (hseg _).trans (if_pos ⟨(hes _).2 (.inl rfl), hret1⟩),
      (hseg _).trans (if_pos ⟨(hes _).2 (.inr rfl), hret2⟩), ?_⟩
    have hroom := State.flashRoom_of_offered ho
    rcases Nat.le_total r.slot u.slot with hle | hle
    · rw [min_eq_left hle, max_eq_right hle]
      have := State.retireEmpties_two (s := (s.doned tag).unrouted tag) hes hasc.records hr hu hne.symm hle hret1 hret2
        hroom howed
      exact this ▸ hout
    · rw [min_eq_right hle, max_eq_left hle]
      have := State.retireEmpties_two (s := (s.doned tag).unrouted tag) (fun y => (hes y).trans or_comm) hasc.records hu
        hr hne hle hret2 hret1 hroom howed
      exact this ▸ hout
  · intro s tag x ws hv ht ho hx hk hne sets gone
    have hexec := exec_done_ends hv ht ho (by omega) hx
    rw [show ((1 : Nat) == 1) = true from rfl, State.endRoute_failed hk, RouteEntry.tag_of_find hx] at hexec
    have hnodup : (x.sets.map (·.1)).Nodup := by
      cases h2 : x.second with
      | none => simp [RouteEntry.sets, h2]
      | some y =>
        have : x.first ≠ y.1 := fun k => hne y.2 (by rw [h2, k])
        simp [RouteEntry.sets, h2, this]
    have hlen : x.sets.length ≤ 2 := by
      cases h2 : x.second <;> simp [RouteEntry.sets, h2]
    have hroom := State.flashRoom_of_offered ho
    have h := State.loses_all hnodup (s.doned tag) (show s.flash.out.length + _ ≤ 16 by omega)
    rw [← State.failEntry_eq] at h
    generalize (s.doned tag).failEntry x = u at h hexec
    have hseg := State.releaseHolds_segmentsOf x (u.unrouted tag)
    obtain ⟨hout, hfront, -, -⟩ := State.releaseHolds_grows x (u.unrouted tag)
    have hlost := h.lost
    refine ⟨_, hexec, (State.releaseHolds_routes _ _).trans ?_, ?_, fun y hy r hr hg => ⟨?_, fun h1 h2 hd => ?_⟩,
      fun e he => ?_, (State.releaseHolds_contexts _ _).trans h.contexts, ?_, fun hb => ?_⟩
    · show u.routes.filter _ = _
      rw [h.routes]
      rfl
    · have : u.front.out = s.front.out ++ [.doneAnswer .ok tag] := congrArg Link.out h.front
      exact this ▸ hfront
    · have hu := h.resident y hy r hr
      have hlo : (s.doned tag).lostOf y = gone y := rfl
      rw [hlo] at hu
      refine (hseg y.1).trans ?_
      rw [if_neg]
      · show u.segmentsOf y.1 = _
        rw [State.segmentsOf_of_resident hu]
        split
        · rename_i h0
          rw [h0]
          rw [segLess_zero, segLess_zero, BitVec.or_zero]
        · simp [Resident.lose]
      · rintro ⟨-, k⟩
        have hu' : (u.unrouted tag).residentOf y.1 = _ := hu
        rw [State.retires_of_nonempty] at k
        · cases k
        · intro r' hr'
          rw [hu'] at hr'
          cases hr'
          rw [← Bool.not_eq_true, Resident.isEmpty_iff, not_and]
          by_cases h0 : gone y = 0#32
          · rw [if_pos h0]
            have h1 := hg.resolve_left (not_not.2 h0)
            rw [← Bool.not_eq_true, Resident.isEmpty_iff, not_and] at h1
            exact h1
          · rw [if_neg h0, Resident.settled_lost]
            exact fun _ => or_ne_zero_right h0
    · exact h.clean y hy r hr h1 h2 (State.releaseHolds_dirtyList x (u.unrouted tag) _ hd)
    · refine (hseg e).trans ?_
      rw [if_neg fun k => he k.1]
      rw [RouteEntry.extents_eq] at he
      simp only [State.segmentsOf]
      rw [show (u.unrouted tag).residentOf e = _ from h.others e he]
      rfl
    · have h1 : u.flash.out = s.flash.out ++ x.sets.flatMap (s.doned tag).lostMarkOf := h.out
      have h2 : u.flash.out <+: ((u.unrouted tag).retireEmpties x.extents).flash.out :=
        (State.Becomes.retireEmpties (L := licenceOf .frontLinkReset) x.extents (u.unrouted tag) rfl).keeps.flash.out
      exact h1 ▸ h2.trans hout
    · exact (State.releaseHolds_lostSegments _ _).trans (hlost hb)
  · intro s tag x ws hv ht ho hx hk he
    have hexec := exec_done_ends hv ht ho (by omega) hx
    rw [State.endRoute_kept (by simp [hk]), RouteEntry.tag_of_find hx] at hexec
    obtain ⟨h1, h2, h3, -⟩ := done_keeps (tag := tag) hv he
    exact ⟨_, hexec, h1, h2, h3⟩
  · intro s tag outcome ws hv ht hout ho hx
    exact exec_done_unknown hv ht hout ho hx

end

section
/-! PROOFS. A read of a queue with records owed to its port. -/

namespace Sys2Proof.Machine

/-! ### What a read leaves, and what is owed first -/

theorem exec_recordRead {s : State} {p : Port} {r : Outbound} {rs : List Outbound} (h : (s.link p).out = r :: rs) :
    exec (.recordRead p) s = .next ((s.setLink p { s.link p with out := rs, driven := r.words }).placeOwed p) := by
  show Host.Outcome.next (s.recordRead p) = _
  have hf : (s.link p).frame = r.words := by simp [Link.frame, h]
  rw [State.recordRead, if_neg (by simp [h]), State.readOut, hf, h]
  rfl

theorem State.owedGrant_setLink (s : State) (p q : Port) (l : Link) : (s.setLink q l).owedGrant p = s.owedGrant p := by
  cases q <;> rfl

theorem State.hasRoom_setLink {s : State} {p : Port} {l : Link} (h : l.out.length < 16) :
    (s.setLink p l).hasRoom p 1 = true :=
  State.hasRoom_of_lt (by rw [State.link_setLink]; exact h)

/-- A record placed on a link just set. -/
theorem State.place_setLink {s : State} {p : Port} {l : Link} (r : Outbound) (h : l.out.length < 16) :
    (s.setLink p l).place p r = s.setLink p { l with out := l.out ++ [r] } := by
  rw [State.place_of_room r (State.hasRoom_setLink h), State.link_setLink]
  cases p <;> rfl

/-- The lowest entry whose grant is owed to a port. -/
theorem State.owedGrant_of {s : State} {p : Port} {i : Fin 8} {c : ClaimEntry} (h : s.claims[i] = some c)
    (hs : c.standing = .owned p true)
    (hl : ∀ j : Fin 8, j < i → ∀ d, s.claims[j] = some d → d.standing ≠ .owned p true) : s.owedGrant p = some i := by
  have hi : ((s.claims[i].map (·.standing)) == some (.owned p true)) = true := by simp [h, hs]
  have hj (j : Fin 8) (k : j < i) : ((s.claims[j].map (·.standing)) == some (.owned p true)) = false := by
    cases hd : s.claims[j] with
    | none => simp
    | some d => simpa using hl j k d hd
  have h0 := hj 0
  have h1 := hj 1
  have h2 := hj 2
  have h3 := hj 3
  have h4 := hj 4
  have h5 := hj 5
  have h6 := hj 6
  unfold State.owedGrant allClaims
  fin_cases i <;> simp_all

theorem State.placeOwed_grant {s : State} {p : Port} {i : Fin 8} (h : s.owedGrant p = some i) :
    s.placeOwed p = s.placeGrant p i := by
  simp only [State.placeOwed, h]

theorem State.placeOwed_front {s : State} (h : s.owedGrant .front = none) : s.placeOwed .front = s.placeFrontOwed := by
  rw [State.placeOwed, h]

theorem State.placeOwed_flash {s : State} (h : s.owedGrant .flash = none) :
    s.placeOwed .flash = State.placeFlashOwed (s.flashOwed.length + 1) s := by
  rw [State.placeOwed, h]

theorem State.placeOwed_disk {s : State} (h : s.owedGrant .disk = none) :
    s.placeOwed .disk = State.placeDiskOwed (s.diskOwed.length + 1) s := by
  rw [State.placeOwed, h]

/-- The read of a port that is owed a grant (R87). -/
theorem exec_recordRead_grant {s : State} {p : Port} {r : Outbound} {rs : List Outbound} {i : Fin 8} {c : ClaimEntry}
    (h : (s.link p).out = r :: rs) (hl : rs.length < 16) (hc : s.claims[i] = some c) (hs : c.standing = .owned p true)
    (hj : ∀ j : Fin 8, j < i → ∀ d, s.claims[j] = some d → d.standing ≠ .owned p true) :
    exec (.recordRead p) s =
      .next { s.setLink p { s.link p with out := rs ++ [.claimGranted c.extent], driven := r.words } with
        claims := s.claims.set i (some { c with standing := .owned p false }) } := by
  have hg : (s.setLink p { s.link p with out := rs, driven := r.words }).owedGrant p = some i := by
    rw [State.owedGrant_setLink]
    exact State.owedGrant_of hc hs hj
  have hc' : (s.setLink p { s.link p with out := rs, driven := r.words }).claims[i] = some c := by
    cases p <;> exact hc
  rw [exec_recordRead h, State.placeOwed_grant hg, State.placeGrant, hc']
  dsimp only
  rw [State.place_setLink _ hl]
  cases p <;> rfl

/-! ### One turn of the flash port's owed records -/

section
variable {s : State} {n : Nat} {os : List FlashOwed}

theorem State.placeFlashOwed_nil (h : s.flashOwed = []) : State.placeFlashOwed n s = s := by
  cases n with
  | zero => rfl
  | succ n => simp only [State.placeFlashOwed, h]

theorem State.placeFlashOwed_retire {k : Nat} (h : s.flashOwed = .retire k :: os) :
    State.placeFlashOwed (n + 1) s = State.place .flash (.retireSlot k) { s with flashOwed := os } := by
  simp only [State.placeFlashOwed, h]

theorem State.placeFlashOwed_mark {c : Fin 4} {k : Nat} {a : SegSet} (h : s.flashOwed = .mark c :: os)
    (hc : s.contexts[c] = .marking k a) :
    State.placeFlashOwed (n + 1) s =
      (State.place .flash (.cleanMark k a) { s with flashOwed := os }).setContext c .idle := by
  simp only [State.placeFlashOwed, h, hc]

theorem State.placeFlashOwed_order {c : Fin 4} (h : s.flashOwed = .order c :: os)
    (he : State.orderEmpty { s with flashOwed := os } c = false) :
    State.placeFlashOwed (n + 1) s = State.placeOrder c { s with flashOwed := os } := by
  simp only [State.placeFlashOwed, h, he, Bool.false_eq_true, if_false]

theorem State.placeFlashOwed_completes {c : Fin 4} (h : s.flashOwed = .order c :: os)
    (he : State.orderEmpty { s with flashOwed := os } c = true) :
    State.placeFlashOwed (n + 1) s =
      if (State.placeOrder c { s with flashOwed := os }).finish.hasRoom .flash 1 then
        State.placeFlashOwed n (State.placeOrder c { s with flashOwed := os }).finish
      else (State.placeOrder c { s with flashOwed := os }).finish := by
  simp only [State.placeFlashOwed, h, he, if_true]

end

/-! ### One turn of the disk port's owed records -/

section
variable {s : State} {n : Nat} {os : List DiskOwed}

theorem State.placeDiskOwed_demand {d : Reason} (h : s.diskOwed = .demand d :: os) :
    State.placeDiskOwed (n + 1) s = State.placeDemand d { s with diskOwed := os } := by
  simp only [State.placeDiskOwed, h]

theorem State.placeDiskOwed_advice (h : s.diskOwed = .advice :: os) :
    State.placeDiskOwed (n + 1) s = State.place .disk .spinDownAdvice { s with diskOwed := os } := by
  simp only [State.placeDiskOwed, h]

theorem State.placeDiskOwed_order {c : Fin 4} (h : s.diskOwed = .order c :: os)
    (he : State.orderEmpty { s with diskOwed := os } c = false) :
    State.placeDiskOwed (n + 1) s = State.placeOrder c { s with diskOwed := os } := by
  simp only [State.placeDiskOwed, h, he, Bool.false_eq_true, if_false]

theorem State.placeDiskOwed_completes {c : Fin 4} (h : s.diskOwed = .order c :: os)
    (he : State.orderEmpty { s with diskOwed := os } c = true) :
    State.placeDiskOwed (n + 1) s =
      if (State.placeOrder c { s with diskOwed := os }).finish.hasRoom .disk 1 then
        State.placeDiskOwed n (State.placeOrder c { s with diskOwed := os }).finish
      else (State.placeOrder c { s with diskOwed := os }).finish := by
  simp only [State.placeDiskOwed, h, he, if_true]

end

/-! ### The placing of an order -/

section
variable {s : State} {c : Fin 4}

theorem State.orderEmpty_fill {m : FillMove} (h : s.contexts[c] = .fill m) :
    s.orderEmpty c = (m.validate == 0#32) := by
  simp only [State.orderEmpty, h]
  rfl

theorem State.orderEmpty_flush {m : FlushMove} (h : s.contexts[c] = .flush m) :
    s.orderEmpty c = (m.orderSet (s.dirtyOf m.extent) == 0#32) := by
  simp only [State.orderEmpty, h]

theorem State.placeOrder_fill {m : FillMove} (h : s.contexts[c] = .fill m) (hm : m.validate ≠ 0#32) :
    s.placeOrder c = s.issue m.orderPort (m.orderRecord s.tickets c) c
      (.fill { m with order := .placed s.tickets s.settings.orderTimeout }) := by
  simp only [State.placeOrder, h]
  exact if_neg hm

theorem State.placeOrder_flush {m : FlushMove} (h : s.contexts[c] = .flush m)
    (hm : m.orderSet (s.dirtyOf m.extent) ≠ 0#32) :
    s.placeOrder c = s.issue m.orderPort (m.orderRecord s.tickets c (s.dirtyOf m.extent)) c
      (.flush (m.afterPlacing s.tickets s.settings.orderTimeout (s.dirtyOf m.extent))) := by
  simp only [State.placeOrder, h]
  exact if_neg hm

theorem State.placeOrder_completeFill {m : FillMove} (h : s.contexts[c] = .fill m) (hm : m.validate = 0#32) :
    s.placeOrder c = s.completeFill c m := by
  simp only [State.placeOrder, h]
  exact if_pos hm

theorem State.placeOrder_completeFlush {m : FlushMove} (h : s.contexts[c] = .flush m)
    (hm : m.orderSet (s.dirtyOf m.extent) = 0#32) : s.placeOrder c = s.completeFlush c m := by
  simp only [State.placeOrder, h]
  exact if_pos hm

end

/-- The advice timer re-armed with a full period (R147). -/
def State.rearmed (s : State) : Option Nat :=
  if s.service = .serving ∧ s.spindle = .up ∧ s.adviceSent = false ∧ s.settings.adviceDelay ≠ 0 then
    some s.settings.adviceDelay
  else s.adviceTimer

theorem State.armAdvice_rearmed (s : State) : s.armAdvice = { s with adviceTimer := s.rearmed } := by
  have hiff : (s.upPeriod && !s.adviceSent && s.settings.adviceDelay != 0) = true ↔
      s.service = .serving ∧ s.spindle = .up ∧ s.adviceSent = false ∧ s.settings.adviceDelay ≠ 0 := by
    simp [State.upPeriod, State.isServing, and_assoc]
  unfold State.armAdvice State.rearmed
  by_cases h : s.service = .serving ∧ s.spindle = .up ∧ s.adviceSent = false ∧ s.settings.adviceDelay ≠ 0
  · rw [if_pos (hiff.2 h), if_pos h]
  · rw [if_neg (mt hiff.1 h), if_neg h]

/-- What a read leaves of the front port, of the flash port, and of the disk port. -/
def State.frontRead (r : Outbound) (rs : List Outbound) (s : State) : State :=
  { s with front := { s.front with out := rs, driven := r.words } }

def State.flashRead (r : Outbound) (rs : List Outbound) (os : List FlashOwed) (s : State) : State :=
  { s with flash := { s.flash with out := rs, driven := r.words }, flashOwed := os }

def State.diskRead (r : Outbound) (rs : List Outbound) (os : List DiskOwed) (s : State) : State :=
  { s with disk := { s.disk with out := rs, driven := r.words }, diskOwed := os }

theorem exec_recordRead_front {s : State} {r : Outbound} {rs : List Outbound} (h : s.front.out = r :: rs)
    (hg : s.owedGrant .front = none) : exec (.recordRead .front) s = .next (s.frontRead r rs).placeFrontOwed := by
  rw [exec_recordRead (p := .front) h, State.placeOwed_front (by rw [State.owedGrant_setLink, hg])]
  rfl

theorem exec_recordRead_flash {s : State} {r : Outbound} {rs : List Outbound} (h : s.flash.out = r :: rs)
    (hg : s.owedGrant .flash = none) :
    exec (.recordRead .flash) s = .next (State.placeFlashOwed (s.flashOwed.length + 1) (s.flashRead r rs s.flashOwed)) := by
  rw [exec_recordRead (p := .flash) h, State.placeOwed_flash (by rw [State.owedGrant_setLink, hg])]
  rfl

theorem exec_recordRead_disk {s : State} {r : Outbound} {rs : List Outbound} (h : s.disk.out = r :: rs)
    (hg : s.owedGrant .disk = none) :
    exec (.recordRead .disk) s = .next (State.placeDiskOwed (s.diskOwed.length + 1) (s.diskRead r rs s.diskOwed)) := by
  rw [exec_recordRead (p := .disk) h, State.placeOwed_disk (by rw [State.owedGrant_setLink, hg])]
  rfl

theorem State.place_frontRead {s : State} {r x : Outbound} {rs : List Outbound} (h : rs.length < 16) :
    (s.frontRead r rs).place .front x = { s with front := { s.front with out := rs ++ [x], driven := r.words } } :=
  State.place_of_room x (State.hasRoom_of_lt (p := .front) h)

theorem State.place_flashRead {s : State} {r x : Outbound} {rs : List Outbound} {os : List FlashOwed}
    (h : rs.length < 16) :
    (s.flashRead r rs os).place .flash x =
      { s with flash := { s.flash with out := rs ++ [x], driven := r.words }, flashOwed := os } :=
  State.place_of_room x (State.hasRoom_of_lt (p := .flash) h)

theorem State.place_diskRead {s : State} {r x : Outbound} {rs : List Outbound} {os : List DiskOwed}
    (h : rs.length < 16) :
    (s.diskRead r rs os).place .disk x =
      { s with disk := { s.disk with out := rs ++ [x], driven := r.words }, diskOwed := os } :=
  State.place_of_room x (State.hasRoom_of_lt (p := .disk) h)

/-- An order issued on the flash port just read. -/
theorem State.issue_flashRead {s : State} {r x : Outbound} {rs : List Outbound} {os : List FlashOwed} (c : Fin 4)
    (y : Context) (h : rs.length < 16) :
    (s.flashRead r rs os).issue .flash x c y =
      { s with
        flash := { s.flash with out := rs ++ [x], driven := r.words }
        flashOwed := os, tickets := (s.tickets + 1) % 65536, contexts := s.contexts.set c y } := by
  unfold State.issue
  rw [State.place_flashRead h]
  rfl

/-- An order issued on the disk port just read re-arms the advice timer (R147). -/
theorem State.issue_diskRead {s : State} {r x : Outbound} {rs : List Outbound} {os : List DiskOwed} (c : Fin 4)
    (y : Context) (h : rs.length < 16) :
    (s.diskRead r rs os).issue .disk x c y =
      { s with
        disk := { s.disk with out := rs ++ [x], driven := r.words }
        diskOwed := os, tickets := (s.tickets + 1) % 65536, adviceTimer := s.rearmed
        contexts := s.contexts.set c y } := by
  unfold State.issue
  rw [State.place_diskRead h, if_pos rfl]
  exact State.armAdvice_rearmed _

end Sys2Proof.Machine
end

section
/-! PROOFS. The completion of a move whose order's set has become empty, at a read, and the turns that follow it. -/

namespace Sys2Proof.Machine

/-! ### The completion of a move -/

theorem State.completeFill_unremoved (c : Fin 4) (m : FillMove) (s : State) :
    (s.completeFill c m).unremoved = (s.filled c).unremoved := by
  cases h : s.residentOf m.extent with
  | none =>
    have h' : (s.filled c).residentOf m.extent = none := h
    show State.unremoved (match (s.filled c).residentOf m.extent with
      | none => s.filled c
      | some r => (s.filled c).endRecord .freed { r with valid := r.valid ||| m.validate }) = _
    rw [h']
  | some r =>
    rw [State.completeFill_eq c h]
    exact (State.retireIfEmpty_unremoved _ _ _).trans rfl

/-- A FLUSH's completion, by its record: stored with its cleaned set, marked, and retired where it is empty. -/
theorem State.completeFlush_cases (c : Fin 4) (m : FlushMove) (s : State) :
    s.completeFlush c m = s.flushed c ∨ ∃ r, s.residentOf m.extent = some r ∧
      s.completeFlush c m =
        State.retireIfEmpty .freed m.extent
          (if m.cleaned r.dirty = 0#32 then (s.flushed c).store .tail (r.cleanedBy (m.cleaned r.dirty))
          else ((s.flushed c).store .tail (r.cleanedBy (m.cleaned r.dirty))).produceMark c m.slot (m.cleaned r.dirty)) := by
  have hdef : s.completeFlush c m = (match (s.flushed c).residentOf m.extent with
    | none => s.flushed c
    | some r => State.retireIfEmpty .freed m.extent
      (if m.cleaned r.dirty = 0#32 then (s.flushed c).store .tail (r.cleanedBy (m.cleaned r.dirty))
        else ((s.flushed c).store .tail (r.cleanedBy (m.cleaned r.dirty))).produceMark c m.slot (m.cleaned r.dirty))) := rfl
  rw [hdef]
  cases h : s.residentOf m.extent with
  | none =>
    have h' : (s.flushed c).residentOf m.extent = none := h
    rw [h']
    exact .inl rfl
  | some r =>
    have h' : (s.flushed c).residentOf m.extent = some r := h
    rw [h']
    exact .inr ⟨r, rfl, rfl⟩

/-- What a move's completion leaves: its context holds no move, the others stand, and so do the tickets, the claims,
and the front and the disk port's links. -/
structure State.Completes (c : Fin 4) (s t : State) : Prop where
  own : t.contexts[c].extentInMove = none
  others : ∀ d, d ≠ c → t.contexts[d] = s.contexts[d]
  tickets : t.tickets = s.tickets
  claims : t.claims = s.claims
  disk : t.disk = s.disk
  diskOwed : t.diskOwed = s.diskOwed

theorem State.Completes.of_unremoved {c : Fin 4} {s t u : State} (h : s.Completes c t) (k : u.unremoved = t.unremoved) :
    s.Completes c u := by
  have hc := State.unremoved_contexts k
  exact ⟨by rw [hc]; exact h.own, fun d hd => by rw [hc]; exact h.others d hd,
    (State.unremoved_tickets k).trans h.tickets, (State.unremoved_claims k).trans h.claims,
    (State.unremoved_disk k).trans h.disk, (State.unremoved_diskOwed k).trans h.diskOwed⟩

/-- A change of the context of the move, to one without a move. -/
theorem State.Completes.of_contexts {c : Fin 4} {s t : State} {x : Context} (hx : x.extentInMove = none)
    (h : t.contexts = s.contexts.set c x) (tickets : t.tickets = s.tickets) (claims : t.claims = s.claims)
    (disk : t.disk = s.disk) (diskOwed : t.diskOwed = s.diskOwed) : s.Completes c t := by
  refine ⟨?_, fun d hd => ?_, tickets, claims, disk, diskOwed⟩
  · rw [h, set_getElem_fin, if_pos rfl]
    exact hx
  · rw [h, set_getElem_fin, if_neg hd]

theorem State.completes_fill (c : Fin 4) (m : FillMove) (s : State) : s.Completes c (s.completeFill c m) :=
  (State.Completes.of_contexts (t := s.filled c) (x := .idle) rfl rfl rfl rfl rfl rfl).of_unremoved
    (State.completeFill_unremoved c m s)

theorem State.produceMark_completes (c : Fin 4) (n : Nat) (a : SegSet) (s : State) :
    s.Completes c (s.produceMark c n a) := by
  unfold State.produceMark
  split
  · refine State.Completes.of_contexts (x := .idle) rfl (congrArg (·.set c .idle) (State.place_contexts s _ _))
      (State.place_tickets s _ _) (State.place_claims s _ _) ?_ (State.place_diskOwed s _ _)
    exact State.link_place_of_ne (p := .flash) (q := .disk) _ s (by simp)
  · exact State.Completes.of_contexts (x := .marking n a) rfl rfl rfl rfl rfl rfl

theorem State.completes_flush (c : Fin 4) (m : FlushMove) (s : State) : s.Completes c (s.completeFlush c m) := by
  have h0 : s.Completes c (s.flushed c) := .of_contexts (x := .idle) rfl rfl rfl rfl rfl rfl
  rcases State.completeFlush_cases c m s with h | ⟨r, -, h⟩ <;> rw [h]
  · exact h0
  · refine State.Completes.of_unremoved ?_ (State.retireIfEmpty_unremoved _ _ _)
    have h1 : s.Completes c ((s.flushed c).store .tail (r.cleanedBy (m.cleaned r.dirty))) := h0.of_unremoved rfl
    split
    · exact h1
    · have h2 := State.produceMark_completes c m.slot (m.cleaned r.dirty)
        ((s.flushed c).store .tail (r.cleanedBy (m.cleaned r.dirty)))
      exact ⟨h2.own, fun d hd => (h2.others d hd).trans (h1.others d hd), h2.tickets.trans h1.tickets,
        h2.claims.trans h1.claims, h2.disk.trans h1.disk, h2.diskOwed.trans h1.diskOwed⟩

/-- The placing of an order whose set is empty completes its move (R111, R118). -/
theorem State.placeOrder_completes {s : State} {c : Fin 4} (h : s.orderEmpty c = true) :
    s.Completes c (s.placeOrder c) := by
  cases hc : s.contexts[c] with
  | idle => simp [State.orderEmpty, hc] at h
  | marking n a => simp [State.orderEmpty, hc] at h
  | fill m =>
    rw [State.orderEmpty_fill hc, beq_iff_eq] at h
    rw [State.placeOrder_completeFill hc h]
    exact State.completes_fill c m s
  | flush m =>
    rw [State.orderEmpty_flush hc, beq_iff_eq] at h
    rw [State.placeOrder_completeFlush hc h]
    exact State.completes_flush c m s

theorem State.issue_contexts (p : Port) (x : Outbound) (c : Fin 4) (y : Context) (s : State) :
    (s.issue p x c y).contexts = s.contexts.set c y := by
  unfold State.issue
  dsimp only
  split
  · rw [State.armAdvice_rearmed]
    exact congrArg (·.set c y) (State.place_contexts s _ _)
  · exact congrArg (·.set c y) (State.place_contexts s _ _)

/-- The placing of an order changes no context without a move. -/
theorem State.placeOrder_unmoved {s : State} {c d : Fin 4} (h : s.contexts[c].extentInMove = none) :
    (s.placeOrder d).contexts[c] = s.contexts[c] := by
  by_cases hd : c = d
  · subst hd
    cases hc : s.contexts[c] with
    | idle => simp only [State.placeOrder, hc]
    | marking n a => simp only [State.placeOrder, hc]
    | fill m =>
      rw [hc] at h
      cases h
    | flush m =>
      rw [hc] at h
      cases h
  · cases he : s.orderEmpty d with
    | true => exact (State.placeOrder_completes he).others c hd
    | false =>
      cases hc : s.contexts[d] with
      | idle => simp only [State.placeOrder, hc]
      | marking n a => simp only [State.placeOrder, hc]
      | fill m =>
        rw [State.orderEmpty_fill hc, beq_eq_false_iff_ne] at he
        rw [State.placeOrder_fill hc he, State.issue_contexts, set_getElem_fin, if_neg hd]
      | flush m =>
        rw [State.orderEmpty_flush hc, beq_eq_false_iff_ne] at he
        rw [State.placeOrder_flush hc he, State.issue_contexts, set_getElem_fin, if_neg hd]

/-! ### The turns after a completion -/

/-- A held mark whose context holds none is passed over. -/
theorem State.placeFlashOwed_unmarked {s : State} {c : Fin 4} {n : Nat} {os : List FlashOwed}
    (h : s.flashOwed = .mark c :: os) (hc : ∀ k a, s.contexts[c] ≠ .marking k a) :
    State.placeFlashOwed (n + 1) s = State.placeFlashOwed n { s with flashOwed := os } := by
  simp only [State.placeFlashOwed, h]
  cases hd : s.contexts[c] with
  | marking k a => exact absurd hd (hc k a)
  | idle => rfl
  | fill m => rfl
  | flush m => rfl

theorem State.placeFlashOwed_idle {c : Fin 4} (n : Nat) {s : State} (h : s.contexts[c] = .idle) :
    (State.placeFlashOwed n s).contexts[c] = .idle := by
  induction n generalizing s with
  | zero => exact h
  | succ n ih =>
    have hplace (d : Fin 4) (os : List FlashOwed) :
        (State.placeOrder d { s with flashOwed := os }).contexts[c] = .idle :=
      (State.placeOrder_unmoved (s := { s with flashOwed := os }) (by
        show s.contexts[c].extentInMove = none
        rw [h]
        rfl)).trans h
    cases ho : s.flashOwed with
    | nil => rw [State.placeFlashOwed_nil ho, h]
    | cons o os =>
      cases o with
      | retire k =>
        rw [State.placeFlashOwed_retire ho, State.place_contexts]
        exact h
      | mark d =>
        cases hd : s.contexts[d] with
        | marking k a =>
          rw [State.placeFlashOwed_mark ho hd, State.contexts_setContext, State.place_contexts, set_getElem_fin]
          split
          · rfl
          · exact h
        | idle => rw [State.placeFlashOwed_unmarked ho (by simp [hd]), ih (s := { s with flashOwed := os }) h]
        | fill m => rw [State.placeFlashOwed_unmarked ho (by simp [hd]), ih (s := { s with flashOwed := os }) h]
        | flush m => rw [State.placeFlashOwed_unmarked ho (by simp [hd]), ih (s := { s with flashOwed := os }) h]
      | order d =>
        cases he : State.orderEmpty { s with flashOwed := os } d with
        | false => rw [State.placeFlashOwed_order ho he, hplace d os]
        | true =>
          have hf : (State.finish (State.placeOrder d { s with flashOwed := os })).contexts[c] = .idle := by
            rw [(State.Ends.finish _).contexts]
            exact hplace d os
          rw [State.placeFlashOwed_completes ho he]
          split
          · exact ih hf
          · exact hf

theorem State.placeDemand_contexts (r : Reason) (s : State) : (s.placeDemand r).contexts = s.contexts :=
  State.place_contexts s _ _

theorem State.placeDiskOwed_unmoved {c : Fin 4} (n : Nat) {s : State} (h : s.contexts[c].extentInMove = none) :
    (State.placeDiskOwed n s).contexts[c] = s.contexts[c] := by
  induction n generalizing s with
  | zero => rfl
  | succ n ih =>
    have hplace (d : Fin 4) (os : List DiskOwed) :
        (State.placeOrder d { s with diskOwed := os }).contexts[c] = s.contexts[c] :=
      State.placeOrder_unmoved (s := { s with diskOwed := os }) h
    cases ho : s.diskOwed with
    | nil =>
      have : State.placeDiskOwed (n + 1) s = s := by simp only [State.placeDiskOwed, ho]
      rw [this]
    | cons o os =>
      cases o with
      | demand r => rw [State.placeDiskOwed_demand ho, State.placeDemand_contexts]
      | advice => rw [State.placeDiskOwed_advice ho, State.place_contexts]
      | order d =>
        cases he : State.orderEmpty { s with diskOwed := os } d with
        | false => rw [State.placeDiskOwed_order ho he, hplace d os]
        | true =>
          have hf : (State.finish (State.placeOrder d { s with diskOwed := os })).contexts[c] = s.contexts[c] := by
            rw [(State.Ends.finish _).contexts]
            exact hplace d os
          rw [State.placeDiskOwed_completes ho he]
          split
          · rw [ih (by rw [hf]; exact h), hf]
          · exact hf

/-! ### What a completion at the flash port places -/

/-- What the end of a record does to the flash port's queue: its RETIRE_SLOT is placed, or owed last. -/
structure State.Settles (s t : State) : Prop where
  unremoved : t.unremoved = s.unremoved
  placed : s.flash.out.length < 16 → s.flashOwed = [] → t.flashOwed = [] ∧ s.flash.out <+: t.flash.out
  owed : s.flashOwed ≠ [] → t.flash.out = s.flash.out ∧ s.flashOwed <+: t.flashOwed

theorem State.Settles.of {s t : State} (h : t.unremoved = s.unremoved) (hf : t.flash = s.flash)
    (ho : t.flashOwed = s.flashOwed) : s.Settles t :=
  ⟨h, fun _ k => ⟨ho.trans k, by rw [hf]⟩, fun _ => ⟨by rw [hf], by rw [ho]⟩⟩

theorem State.retireIfEmpty_settles (e : Nat) (s : State) : s.Settles (s.retireIfEmpty .freed e) := by
  rcases State.retireIfEmpty_cases .freed e s with ⟨-, h⟩ | ⟨r, -, -, h⟩ <;> rw [h]
  · exact .of rfl rfl rfl
  · obtain ⟨h1, h2⟩ := State.remove_freed_announces r s
    refine ⟨State.remove_unremoved _ _ _, fun k1 k2 => ⟨(h1 k1 k2).2, ?_⟩, fun k => ⟨(h2 (.inr k)).1, ?_⟩⟩
    · rw [(h1 k1 k2).1]
      exact List.prefix_append _ _
    · rw [(h2 (.inr k)).2]
      exact List.prefix_append _ _

theorem State.Settles.of_same {s t u : State} (h : s.Settles t) (hf : s.flash = u.flash)
    (ho : s.flashOwed = u.flashOwed) (hu : s.unremoved = u.unremoved) : u.Settles t := by
  refine ⟨h.unremoved.trans hu, ?_, ?_⟩
  · rw [← hf, ← ho]
    exact h.placed
  · rw [← hf, ← ho]
    exact h.owed

theorem State.completeFill_settles (c : Fin 4) (m : FillMove) (s : State) :
    (s.filled c).Settles (s.completeFill c m) := by
  cases h : s.residentOf m.extent with
  | none =>
    have h' : (s.filled c).residentOf m.extent = none := h
    have : s.completeFill c m = s.filled c := by
      show (match (s.filled c).residentOf m.extent with
        | none => s.filled c
        | some r => (s.filled c).endRecord .freed { r with valid := r.valid ||| m.validate }) = _
      rw [h']
    rw [this]
    exact .of rfl rfl rfl
  | some r =>
    rw [State.completeFill_eq c h]
    exact (State.retireIfEmpty_settles r.extent ((s.filled c).store .tail
      { r with valid := r.valid ||| m.validate, state := .resident })).of_same rfl rfl rfl

/-- A FLUSH that cleans nothing completes without a mark. -/
theorem State.completeFlush_settles {c : Fin 4} {m : FlushMove} {s : State}
    (h : ∀ r, s.residentOf m.extent = some r → m.cleaned r.dirty = 0#32) :
    (s.flushed c).Settles (s.completeFlush c m) := by
  rcases State.completeFlush_cases c m s with h1 | ⟨r, hr, h1⟩ <;> rw [h1]
  · exact .of rfl rfl rfl
  · rw [if_pos (h r hr)]
    exact (State.retireIfEmpty_settles m.extent
      ((s.flushed c).store .tail (r.cleanedBy (m.cleaned r.dirty)))).of_same rfl rfl rfl

/-- Nothing is cleaned of a FLUSH whose first order's set is empty. -/
theorem FlushMove.cleaned_eq_zero {m : FlushMove} {a : SegSet} (h : m.work &&& a = 0#32) : m.cleaned a = 0#32 := by
  refine BitVec.eq_of_getLsbD_eq fun k hk => ?_
  have hb := congrArg (·.getLsbD k) h
  simp only [BitVec.getLsbD_and, BitVec.getLsbD_zero] at hb
  simp only [FlushMove.cleaned, segLess, BitVec.getLsbD_and, BitVec.getLsbD_zero]
  cases hw : m.work.getLsbD k <;> cases ha : a.getLsbD k <;> simp_all

/-- The completion of a move whose order is one of the flash port. -/
theorem State.placeOrder_settles {s : State} {c : Fin 4}
    (h : (∃ m, s.contexts[c] = .fill m ∧ m.phase = .writing ∧ m.validate = 0#32) ∨
      (∃ m, s.contexts[c] = .flush m ∧ m.phase = .reading ∧ m.work &&& s.dirtyOf m.extent = 0#32)) :
    s.orderEmpty c = true ∧ ∃ u : State, u.Settles (s.placeOrder c) ∧ u.flash = s.flash ∧ u.flashOwed = s.flashOwed ∧
      u.contexts = s.contexts.set c .idle ∧ u.tickets = s.tickets ∧ u.claims = s.claims := by
  rcases h with ⟨m, hc, -, hm⟩ | ⟨m, hc, hp, hm⟩
  · refine ⟨by rw [State.orderEmpty_fill hc, hm]; rfl, s.filled c, ?_, rfl, rfl, rfl, rfl, rfl⟩
    rw [State.placeOrder_completeFill hc hm]
    exact State.completeFill_settles c m s
  · have hset : m.orderSet (s.dirtyOf m.extent) = 0#32 := by
      rw [← hm]
      simp only [FlushMove.orderSet, hp]
    refine ⟨by rw [State.orderEmpty_flush hc, hset]; rfl, s.flushed c, ?_, rfl, rfl, rfl, rfl, rfl⟩
    rw [State.placeOrder_completeFlush hc hset]
    refine State.completeFlush_settles fun r hr => FlushMove.cleaned_eq_zero ?_
    rw [← hm]
    simp only [State.dirtyOf, hr]

/-! ### What a completion at the disk port leaves owed -/

theorem State.produceDemand_owed {s : State} {r : Reason} (h : s.diskOwed ≠ []) :
    s.produceDemand r = { s with diskOwed := s.diskOwed ++ [.demand r] } := by
  unfold State.produceDemand
  rw [if_neg]
  simp [h]

/-- The demands at an event's end place nothing on the disk link while something else is owed to it (R176). -/
theorem State.demandFor_disk {s : State} {o : DiskOwed} (ho : o.isDemand = false) (h : o ∈ s.diskOwed) (r : Reason) :
    (s.demandFor r).disk = s.disk ∧ o ∈ (s.demandFor r).diskOwed := by
  unfold State.demandFor
  split
  · split
    · rw [State.produceDemand_owed (List.ne_nil_of_mem h : (s.setDemand r true).diskOwed ≠ [])]
      exact ⟨rfl, List.mem_append_left _ h⟩
    · exact ⟨rfl, h⟩
  · refine ⟨rfl, (mem_without _ _ _).2 ⟨h, fun k => ?_⟩⟩
    rw [k] at ho
    cases ho

theorem State.demandAll_disk {s : State} {o : DiskOwed} (ho : o.isDemand = false) (h : o ∈ s.diskOwed) :
    s.demandAll.disk = s.disk := by
  obtain ⟨h1, k1⟩ := State.demandFor_disk ho h .dirtyCeiling
  obtain ⟨h2, k2⟩ := State.demandFor_disk ho k1 .drain
  obtain ⟨h3, -⟩ := State.demandFor_disk ho k2 .fill
  exact h3.trans (h2.trans h1)

/-- The end of an event leaves the disk link where no entry is pending for the disk port and something other than a
demand is owed to it. -/
theorem State.finish_disk {s : State} {o : DiskOwed} (ho : o.isDemand = false) (h : o ∈ s.diskOwed)
    (hc : ∀ (i : Fin 8) c, s.claims[i] = some c → c.standing ≠ .pending .disk) : s.finish.disk = s.disk := by
  by_cases hv : s.service = .serving
  · rw [State.finish_serving hv]
    have hg := State.grantAll_link hc
    have hgo := (State.Ends.grantAll s).mem_diskOwed ho h
    generalize s.grantAll = u at hg hgo
    have heo := (State.Ends.endDrain u).mem_diskOwed ho hgo
    have hel := State.endDrain_link (p := .disk) (by simp) u
    generalize u.endDrain = v at heo hel
    exact (State.demandAll_disk ho (s := v.compareUrgent) heo).trans (hel.trans hg)
  · rw [State.finish_unserved hv]

/-- A turn of the disk port's owed records of which only demands are left. -/
theorem State.placeDiskOwed_demands {n : Nat} {s : State} (h : ∀ o ∈ s.diskOwed, o.isDemand = true) :
    (State.placeDiskOwed n s).tickets = s.tickets ∧ s.disk.out <+: (State.placeDiskOwed n s).disk.out := by
  cases n with
  | zero => exact ⟨rfl, List.prefix_rfl⟩
  | succ n =>
    cases ho : s.diskOwed with
    | nil =>
      have : State.placeDiskOwed (n + 1) s = s := by simp only [State.placeDiskOwed, ho]
      rw [this]
      exact ⟨rfl, List.prefix_rfl⟩
    | cons o os =>
      have hd := h o (by rw [ho]; simp)
      cases o with
      | demand r =>
        rw [State.placeDiskOwed_demand ho]
        refine ⟨State.place_tickets { s with diskOwed := os } _ _, ?_⟩
        exact (State.place_keeps .disk (.spinUpDemand r) { s with diskOwed := os }).disk.out
      | order c => cases hd
      | advice => cases hd

end Sys2Proof.Machine

open Sys2Proof Sys2Proof.Machine in
/-- Settles O7: each kind of owed record takes one turn; a completion takes the turn of an order whose set is empty,
and the end of its event leaves the links of the ports that wait for no grant. -/
theorem aReadGivesItsPlaceToTheFirstOwedRecord : Obligations.AReadGivesItsPlaceToTheFirstOwedRecord := by
  refine ⟨fun s p r rs i c h hl hc hs hj => exec_recordRead_grant h hl hc hs hj, ⟨?_, ?_⟩, ?_, ?_, ?_, ?_, ?_, ?_, ?_, ?_, ?_⟩
  · intro s r rs n h hl hg hd
    have hd' : (s.frontRead r rs).drainedOwed = some n := hd
    rw [exec_recordRead_front h hg, State.placeFrontOwed, hd']
    dsimp only
    rw [State.place_frontRead hl]
  · intro s r rs x a h hl hg hd hx
    have hd' : (s.frontRead r rs).drainedOwed = none := hd
    have hx' : (s.frontRead r rs).records.find? (fun y => y.owed != .absent) = some x := hx
    rw [exec_recordRead_front h hg, State.placeFrontOwed, hd', hx']
    refine ⟨fun hk => ?_, fun hk => ?_⟩ <;> simp only [State.placeNotice, hk, State.place_frontRead hl] <;> rfl
  · intro s r rs n os h hl hg ho
    rw [exec_recordRead_flash h hg, State.placeFlashOwed_retire (s := s.flashRead r rs s.flashOwed) ho]
    exact congrArg _ (State.place_flashRead hl)
  · intro s r rs c n a os h hl hg ho hc
    rw [exec_recordRead_flash h hg, State.placeFlashOwed_mark (s := s.flashRead r rs s.flashOwed) ho hc]
    exact congrArg (fun t : State => Host.Outcome.next (t.setContext c .idle)) (State.place_flashRead (os := os) hl)
  · intro s r rs c m os h hl hg ho hc hp hm
    have hc' : (s.flashRead r rs os).contexts[c] = .fill m := hc
    have he : (s.flashRead r rs os).orderEmpty c = false := by
      rw [State.orderEmpty_fill hc', beq_eq_false_iff_ne]
      exact hm
    rw [exec_recordRead_flash h hg, State.placeFlashOwed_order (s := s.flashRead r rs s.flashOwed) ho he]
    refine congrArg _ ((State.placeOrder_fill hc' hm).trans ?_)
    have hport : m.orderPort = .flash := by simp only [FillMove.orderPort, hp]
    rw [hport, State.issue_flashRead _ _ hl]
    simp only [FillMove.orderRecord, hp]
    rfl
  · intro s r rs c m os h hl hg ho hc hp hm a
    have hc' : (s.flashRead r rs os).contexts[c] = .flush m := hc
    have hset : m.orderSet ((s.flashRead r rs os).dirtyOf m.extent) = a := by
      simp only [FlushMove.orderSet, hp]
      rfl
    have he : (s.flashRead r rs os).orderEmpty c = false := by
      rw [State.orderEmpty_flush hc', beq_eq_false_iff_ne, hset]
      exact hm
    rw [exec_recordRead_flash h hg, State.placeFlashOwed_order (s := s.flashRead r rs s.flashOwed) ho he]
    refine congrArg _ ((State.placeOrder_flush hc' (by rw [hset]; exact hm)).trans ?_)
    have hport : m.orderPort = .flash := by simp only [FlushMove.orderPort, hp]
    rw [hport, State.issue_flashRead _ _ hl]
    simp only [FlushMove.orderRecord, FlushMove.afterPlacing, hp, hset]
    rfl
  · intro s r rs c os h hl hg ho timer
    refine ⟨fun m hc hp hm => ?_, fun m hc hp hm => ?_⟩
    · have hc' : (s.diskRead r rs os).contexts[c] = .fill m := hc
      have he : (s.diskRead r rs os).orderEmpty c = false := by
        rw [State.orderEmpty_fill hc', beq_eq_false_iff_ne]
        exact hm
      rw [exec_recordRead_disk h hg, State.placeDiskOwed_order (s := s.diskRead r rs s.diskOwed) ho he]
      refine congrArg _ ((State.placeOrder_fill hc' hm).trans ?_)
      have hport : m.orderPort = .disk := by simp only [FillMove.orderPort, hp]
      rw [hport, State.issue_diskRead _ _ hl]
      simp only [FillMove.orderRecord, hp]
      rfl
    · have hc' : (s.diskRead r rs os).contexts[c] = .flush m := hc
      have hset : m.orderSet ((s.diskRead r rs os).dirtyOf m.extent) = m.carried &&& s.dirtyOf m.extent := by
        simp only [FlushMove.orderSet, hp]
        rfl
      have he : (s.diskRead r rs os).orderEmpty c = false := by
        rw [State.orderEmpty_flush hc', beq_eq_false_iff_ne, hset]
        exact hm
      rw [exec_recordRead_disk h hg, State.placeDiskOwed_order (s := s.diskRead r rs s.diskOwed) ho he]
      refine congrArg _ ((State.placeOrder_flush hc' (by rw [hset]; exact hm)).trans ?_)
      have hport : m.orderPort = .disk := by simp only [FlushMove.orderPort, hp]
      rw [hport, State.issue_diskRead _ _ hl]
      simp only [FlushMove.orderRecord, FlushMove.afterPlacing, hp, hset]
      rfl
  · intro s r rs c os h hl hg ho hclaims hmove
    obtain ⟨he, u, hu, huf, huo, huc, hut, hucl⟩ := State.placeOrder_settles (s := s.flashRead r rs os) hmove
    have hturn := State.placeFlashOwed_completes (n := s.flashOwed.length) (s := s.flashRead r rs s.flashOwed) ho he
    generalize hv : State.placeOrder c { s.flashRead r rs s.flashOwed with flashOwed := os } = v at hturn
    have hv' : (s.flashRead r rs os).placeOrder c = v := hv
    rw [hv'] at hu
    have hvc : v.contexts = s.contexts.set c .idle := (State.unremoved_contexts hu.unremoved).trans huc
    have hvt : v.tickets = s.tickets := (State.unremoved_tickets hu.unremoved).trans hut
    have hvcl : v.claims = s.claims := (State.unremoved_claims hu.unremoved).trans hucl
    have huout : u.flash.out = rs := congrArg Link.out huf
    have hfin := State.Ends.finish v
    have hflash : v.finish.flash = v.flash := State.finish_flash (by rw [hvcl]; exact hclaims)
    have hidle : v.finish.contexts[c] = .idle := by
      rw [hfin.contexts, hvc, set_getElem_fin, if_pos rfl]
    refine ⟨_, exec_recordRead_flash h hg, ?_, fun k => ?_, fun n rest k => ?_⟩
    · rw [hturn]
      split
      · exact State.placeFlashOwed_idle _ hidle
      · exact hidle
    · obtain ⟨h1, h2⟩ := hu.placed (by rw [huout]; exact hl) (huo.trans k)
      have hsame : State.placeFlashOwed (s.flashOwed.length + 1) (s.flashRead r rs s.flashOwed) = v.finish := by
        rw [hturn, State.placeFlashOwed_nil (hfin.flashOwed.trans h1), ite_self]
      rw [hsame, hfin.contexts, hfin.tickets, hflash]
      exact ⟨hvc, hvt, huout ▸ h2⟩
    · obtain ⟨h1, l, h2⟩ := hu.owed (by rw [huo, show (s.flashRead r rs os).flashOwed = os from rfl, k]; simp)
      have hroom : v.finish.hasRoom .flash 1 = true := by
        refine State.hasRoom_of_lt (p := .flash) ?_
        rw [show v.finish.link .flash = v.flash from hflash, h1, huout]
        exact hl
      have hfo : v.finish.flashOwed = .retire n :: (rest ++ l) := by
        rw [hfin.flashOwed, ← h2, huo, show (s.flashRead r rs os).flashOwed = os from rfl, k]
        rfl
      rw [hturn, if_pos hroom, ho, List.length_cons, State.placeFlashOwed_retire hfo]
      have hplaced := State.place_flash_out (s := { v.finish with flashOwed := rest ++ l }) (.retireSlot n)
        (by rw [show State.flash { v.finish with flashOwed := rest ++ l } = v.flash from hflash, h1, huout]; exact hl)
      refine ⟨?_, ?_, ?_, ?_⟩
      · rw [State.place_contexts]
        exact hfin.contexts.trans hvc
      · rw [State.place_tickets]
        exact hfin.tickets.trans hvt
      · rw [hplaced, show State.flash { v.finish with flashOwed := rest ++ l } = v.flash from hflash, h1, huout]
      · rw [State.place_flashOwed]
        exact List.prefix_append _ _
  · intro s r rs c os h hl hg ho hclaims hmove
    have he : (s.diskRead r rs os).orderEmpty c = true := by
      rcases hmove with ⟨m, hc, -, hm⟩ | ⟨m, hc, hp, hm⟩
      · rw [State.orderEmpty_fill (s := s.diskRead r rs os) hc, hm]
        rfl
      · rw [State.orderEmpty_flush (s := s.diskRead r rs os) hc]
        simp only [FlushMove.orderSet, hp, beq_iff_eq]
        exact hm
    have hdone := State.placeOrder_completes he
    have hturn := State.placeDiskOwed_completes (n := s.diskOwed.length) (s := s.diskRead r rs s.diskOwed) ho he
    generalize hv : State.placeOrder c { s.diskRead r rs s.diskOwed with diskOwed := os } = v at hturn
    have hv' : (s.diskRead r rs os).placeOrder c = v := hv
    rw [hv'] at hdone
    have hvt : v.tickets = s.tickets := hdone.tickets
    have hvo : v.diskOwed = os := hdone.diskOwed
    have hvout : v.disk.out = rs := congrArg Link.out hdone.disk
    have hfin := State.Ends.finish v
    have hidle : v.finish.contexts[c].extentInMove = none := by
      rw [hfin.contexts]
      exact hdone.own
    refine ⟨_, exec_recordRead_disk h hg, ?_, fun k => ?_, fun rest k => ?_⟩
    · rw [hturn]
      split
      · rw [State.placeDiskOwed_unmoved _ hidle]
        exact hidle
      · exact hidle
    · have hdem : ∀ o ∈ v.finish.diskOwed, o.isDemand = true := by
        intro o hmem
        by_contra hno
        have := hfin.diskOwed_filter
        rw [hvo, k] at this
        have hin : o ∈ v.finish.diskOwed.filter (fun o => !o.isDemand) := List.mem_filter.2 ⟨hmem, by simpa using hno⟩
        rw [this] at hin
        cases hin
      have hout : rs <+: v.finish.disk.out := hvout ▸ hfin.keeps.disk.out
      rw [hturn]
      split
      · obtain ⟨h1, h2⟩ := State.placeDiskOwed_demands (n := s.diskOwed.length) hdem
        exact ⟨h1.trans (hfin.tickets.trans hvt), hout.trans h2⟩
      · exact ⟨hfin.tickets.trans hvt, hout⟩
    · have hadv : DiskOwed.advice ∈ v.diskOwed := by rw [hvo, k]; simp
      have hcl : v.claims = s.claims := hdone.claims
      have hdisk : v.finish.disk = v.disk := State.finish_disk (by rfl) hadv (by rw [hcl]; exact hclaims)
      have hroom : v.finish.hasRoom .disk 1 = true := by
        refine State.hasRoom_of_lt (p := .disk) ?_
        rw [show v.finish.link .disk = v.disk from hdisk, hvout]
        exact hl
      obtain ⟨l, hfo⟩ : ∃ l, v.finish.diskOwed = .advice :: l := by
        obtain ⟨p, l, h1, h2, -⟩ := hfin.diskOwed
        rw [hvo, k, List.filter_cons_of_pos (h2 _ (by rfl))] at h1
        exact ⟨_, h1⟩
      rw [hturn, if_pos hroom, ho, List.length_cons, State.placeDiskOwed_advice hfo]
      refine ⟨?_, ?_⟩
      · rw [State.place_tickets]
        exact hfin.tickets.trans hvt
      · have hp := State.link_place_same (s := { v.finish with diskOwed := l }) (p := .disk) .spinDownAdvice hroom
        refine (congrArg Link.out hp).trans ?_
        show v.finish.disk.out ++ _ = _
        rw [hdisk, hvout]
  · intro s r rs d os h hl hg ho
    rw [exec_recordRead_disk h hg, State.placeDiskOwed_demand (s := s.diskRead r rs s.diskOwed) ho]
    have hp := State.place_diskRead (s := s) (r := r) (x := .spinUpDemand d) (os := os) hl
    unfold State.placeDemand
    dsimp only
    rw [show State.place .disk (.spinUpDemand d) { s.diskRead r rs s.diskOwed with diskOwed := os } = _ from hp]
    rfl
  · intro s r rs os h hl hg ho
    rw [exec_recordRead_disk h hg, State.placeDiskOwed_advice (s := s.diskRead r rs s.diskOwed) ho]
    exact congrArg _ (State.place_diskRead hl)

end

section
/-! SUPPORT. The start event: which move is tried, the production of its first order, and what a started move leaves. -/

namespace Sys2Proof.Machine

/-! ### The first order of a move -/

/-- A state without what the production of a move's order changes. -/
def State.unordered (s : State) : State :=
  { s with flash := .empty, disk := .empty, contexts := Vector.replicate 4 .idle, tickets := 0, flashOwed := []
           diskOwed := [], adviceTimer := none }

theorem State.issue_unordered {p : Port} (hp : p ≠ .front) (x : Outbound) (c : Fin 4) (y : Context) (s : State) :
    (s.issue p x c y).unordered = s.unordered := by
  have h1 : (s.place p x).unordered = s.unordered := by
    unfold State.place
    split
    · cases p
      · exact absurd rfl hp
      · rfl
      · rfl
    · rfl
  unfold State.issue
  dsimp only
  split
  · rw [State.armAdvice_rearmed]
    exact h1
  · exact h1

theorem State.issue_tickets (p : Port) (x : Outbound) (c : Fin 4) (y : Context) (s : State) :
    (s.issue p x c y).tickets = (s.tickets + 1) % 65536 := by
  have h1 : ((s.place p x).tickets + 1) % Config.wrap16 = (s.tickets + 1) % 65536 := by rw [State.place_tickets]; rfl
  unfold State.issue
  dsimp only
  split
  · rw [State.armAdvice_rearmed]
    exact h1
  · exact h1

theorem State.issue_link (p q : Port) (x : Outbound) (c : Fin 4) (y : Context) (s : State) :
    (s.issue p x c y).link q = (s.place p x).link q := by
  unfold State.issue
  dsimp only
  split
  · rw [State.armAdvice_rearmed]
    cases q <;> rfl
  · cases q <;> rfl

theorem State.issue_owed (p : Port) (x : Outbound) (c : Fin 4) (y : Context) (s : State) :
    (s.issue p x c y).flashOwed = s.flashOwed ∧ (s.issue p x c y).diskOwed = s.diskOwed := by
  unfold State.issue
  dsimp only
  split
  · rw [State.armAdvice_rearmed]
    exact ⟨State.place_flashOwed s p x, State.place_diskOwed s p x⟩
  · exact ⟨State.place_flashOwed s p x, State.place_diskOwed s p x⟩

/-- The production of the first order of a FILL: READ_EXTENT is placed, or pending (R107, R108). -/
structure State.FillOrdered (c : Fin 4) (m : FillMove) (s t : State) : Prop where
  unordered : t.unordered = s.unordered
  flash : t.flash = s.flash
  flashOwed : t.flashOwed = s.flashOwed
  contexts : ∃ o, t.contexts = s.contexts.set c (.fill { m with order := o })
  placed : s.disk.out.length < 16 → s.diskOwed = [] →
    t.contexts = s.contexts.set c (.fill { m with order := .placed s.tickets s.settings.orderTimeout }) ∧
      t.tickets = (s.tickets + 1) % 65536 ∧
      t.disk.out = s.disk.out ++ [.readExtent s.tickets c.val m.extent m.validate]
  pending : 16 ≤ s.disk.out.length ∨ s.diskOwed ≠ [] →
    t.contexts = s.contexts.set c (.fill m) ∧ t.tickets = s.tickets ∧ .order c ∈ t.diskOwed

theorem State.fill_ordered (s : State) (c : Fin 4) {m : FillMove} (hp : m.phase = .reading) (hv : m.validate ≠ 0#32) :
    s.FillOrdered c m ((s.setContext c (.fill m)).produceOrder c) := by
  have hc : (s.setContext c (.fill m)).contexts[c] = .fill m := by
    rw [State.contexts_setContext, set_getElem_fin, if_pos rfl]
  have hport : m.orderPort = .disk := by simp only [FillMove.orderPort, hp]
  have hempty : (s.setContext c (.fill m)).orderEmpty c = false := by
    rw [State.orderEmpty_fill hc, beq_eq_false_iff_ne]
    exact hv
  have hprod : (s.setContext c (.fill m)).produceOrder c =
      if s.hasRoom .disk 1 && s.diskOwed.isEmpty then (s.setContext c (.fill m)).placeOrder c
      else { s.setContext c (.fill m) with diskOwed := s.diskOwed ++ [.order c] } := by
    unfold State.produceOrder
    rw [hc]
    simp only [Context.orderPort, hport, hempty, Bool.false_or]
    rfl
  by_cases h : s.disk.out.length < 16 ∧ s.diskOwed = []
  · obtain ⟨hl, ho⟩ := h
    have hr : s.hasRoom .disk 1 = true := State.hasRoom_of_lt (p := .disk) hl
    rw [hprod, if_pos (by simp [hr, ho]), State.placeOrder_fill hc hv, hport]
    have hset : (s.contexts.set c (.fill m)).set c
        (.fill { m with order := .placed s.tickets s.settings.orderTimeout }) =
        s.contexts.set c (.fill { m with order := .placed s.tickets s.settings.orderTimeout }) := Vector.set_set ..
    have hctx := (State.issue_contexts .disk (m.orderRecord s.tickets c) c
      (.fill { m with order := .placed s.tickets s.settings.orderTimeout }) (s.setContext c (.fill m))).trans hset
    refine ⟨State.issue_unordered (by simp) _ _ _ _, ?_, (State.issue_owed _ _ _ _ _).1, ⟨_, hctx⟩,
      fun _ _ => ⟨hctx, State.issue_tickets _ _ _ _ _, ?_⟩, fun k => ?_⟩
    · refine (State.issue_link .disk .flash _ _ _ _).trans ?_
      exact State.link_place_of_ne (p := .disk) (q := .flash) _ (s.setContext c (.fill m)) (by simp)
    · refine (congrArg Link.out (State.issue_link .disk .disk _ _ _ _)).trans ?_
      refine (congrArg Link.out (State.link_place_same (s := s.setContext c (.fill m)) (p := .disk) _
        (hr : (s.setContext c (.fill m)).hasRoom .disk 1 = true))).trans ?_
      simp only [FillMove.orderRecord, hp]
      rfl
    · rcases k with k | k
      · omega
      · exact absurd ho k
  · have hn : ¬ (s.hasRoom .disk 1 && s.diskOwed.isEmpty) = true := by
      simp only [Bool.and_eq_true, List.isEmpty_iff, not_and]
      intro hr ho
      refine h ⟨?_, ho⟩
      by_contra hl
      rw [State.not_hasRoom_of_le (p := .disk) (not_lt.1 hl)] at hr
      cases hr
    rw [hprod, if_neg hn]
    exact ⟨rfl, rfl, rfl, ⟨m.order, rfl⟩, fun k1 k2 => absurd ⟨k1, k2⟩ h, fun _ => ⟨rfl, rfl, by simp⟩⟩

/-- The production of the first order of a FLUSH: READ_SLOT is placed, or pending. -/
theorem State.flush_ordered (s : State) (c : Fin 4) {m : FlushMove} (hp : m.phase = .reading)
    (hd : m.work &&& s.dirtyOf m.extent ≠ 0#32) :
    ((s.setContext c (.flush m)).produceOrder c).unordered = s.unordered ∧
      ∃ m', ((s.setContext c (.flush m)).produceOrder c).contexts = s.contexts.set c (.flush m') ∧
        m'.extent = m.extent ∧ m'.slot = m.slot ∧ m'.work = m.work := by
  have hc : (s.setContext c (.flush m)).contexts[c] = .flush m := by
    rw [State.contexts_setContext, set_getElem_fin, if_pos rfl]
  have hport : m.orderPort = .flash := by simp only [FlushMove.orderPort, hp]
  have hset : m.orderSet ((s.setContext c (.flush m)).dirtyOf m.extent) ≠ 0#32 := by
    simp only [FlushMove.orderSet, hp]
    exact hd
  have hempty : (s.setContext c (.flush m)).orderEmpty c = false := by
    rw [State.orderEmpty_flush hc, beq_eq_false_iff_ne]
    exact hset
  unfold State.produceOrder
  rw [hc]
  simp only [Context.orderPort, hport, hempty, Bool.false_or]
  split
  · rw [State.placeOrder_flush hc hset, hport]
    refine ⟨State.issue_unordered (by simp) _ _ _ _, _, (State.issue_contexts _ _ _ _ _).trans (Vector.set_set ..), ?_⟩
    simp [FlushMove.afterPlacing, hp]
  · exact ⟨rfl, m, rfl, rfl, rfl, rfl⟩

section
variable {s t : State} (h : t.unordered = s.unordered)
include h

theorem State.unordered_records : t.records = s.records := (congrArg State.records h : t.unordered.records = _)
theorem State.unordered_free : t.free = s.free := (congrArg State.free h : t.unordered.free = _)
theorem State.unordered_promo : t.promo = s.promo := (congrArg State.promo h : t.unordered.promo = _)
theorem State.unordered_clean : t.clean = s.clean := (congrArg State.clean h : t.unordered.clean = _)
theorem State.unordered_watch : t.watch = s.watch := (congrArg State.watch h : t.unordered.watch = _)
theorem State.unordered_stats : t.stats = s.stats := (congrArg State.stats h : t.unordered.stats = _)
theorem State.unordered_residentOf (e : Nat) : t.residentOf e = s.residentOf e :=
  State.residentOf_congr (State.unordered_records h) e
theorem State.unordered_segmentsOf (e : Nat) : t.segmentsOf e = s.segmentsOf e :=
  State.segmentsOf_congr (State.unordered_records h) e

end

/-! ### The end of the event that starts a FILL -/

/-- What the start of a FILL in a state, and the end of its event, leave of that state. -/
structure State.FillStarted (c : Fin 4) (m : FillMove) (s t : State) : Prop where
  lastKind : t.lastKind = .fill
  contexts : ∃ o, t.contexts = s.contexts.set c (.fill { m with order := o })
  placed : s.disk.out.length < 16 → s.diskOwed = [] →
    t.contexts = s.contexts.set c (.fill { m with order := .placed s.tickets s.settings.orderTimeout }) ∧
      t.tickets = (s.tickets + 1) % 65536 ∧
      s.disk.out ++ [.readExtent s.tickets c.val m.extent m.validate] <+: t.disk.out
  pending : 16 ≤ s.disk.out.length ∨ s.diskOwed ≠ [] →
    t.contexts = s.contexts.set c (.fill m) ∧ t.tickets = s.tickets ∧ .order c ∈ t.diskOwed
  segmentsOf : ∀ e, t.segmentsOf e = s.segmentsOf e
  resident : ∀ e r, s.residentOf e = some r → r.drainMark = false → t.residentOf e = some r
  free : t.free = s.free
  promo : t.promo = s.promo
  clean : t.clean = s.clean
  watchOf : ∀ e, t.watchOf e = s.watchOf e
  evictions : t.stats.evictions = s.stats.evictions
  flash : s.flash.out <+: t.flash.out

theorem State.FillOrdered.started {c : Fin 4} {m : FillMove} {s u : State} (h : s.FillOrdered c m u) :
    s.FillStarted c m (State.finish { u with lastKind := .fill }) := by
  have hfin := State.Ends.finish { u with lastKind := .fill }
  have hu := h.unordered
  refine ⟨hfin.lastKind, ?_, fun k1 k2 => ?_, fun k => ?_, fun e => ?_, fun e r hr hm => ?_, ?_, ?_, ?_, fun e => ?_, ?_, ?_⟩
  · obtain ⟨o, ho⟩ := h.contexts
    exact ⟨o, hfin.contexts.trans ho⟩
  · obtain ⟨h1, h2, h3⟩ := h.placed k1 k2
    exact ⟨hfin.contexts.trans h1, hfin.tickets.trans h2, h3 ▸ hfin.keeps.disk.out⟩
  · obtain ⟨h1, h2, h3⟩ := h.pending k
    exact ⟨hfin.contexts.trans h1, hfin.tickets.trans h2, hfin.mem_diskOwed (by rfl) h3⟩
  · exact (hfin.segmentsOf e).trans (State.unordered_segmentsOf hu e)
  · obtain ⟨d, hd, -, hd'⟩ := hfin.residentOf (((State.unordered_residentOf hu e).trans hr : u.residentOf e = some r))
    rw [hd, hd' hm, ← hm]
  · exact hfin.free.trans (State.unordered_free hu : u.free = _)
  · exact hfin.promo.trans (State.unordered_promo hu : u.promo = _)
  · exact hfin.clean.trans (State.unordered_clean hu : u.clean = _)
  · exact (hfin.watchOf e).trans (State.watchOf_congr (State.unordered_watch hu : u.watch = _) e)
  · exact hfin.evictions.trans (congrArg Stats.evictions (State.unordered_stats hu : u.stats = _))
  · have := hfin.keeps.flash.out
    rw [← h.flash]
    exact this

/-! ### Partial and fresh FILLs -/

/-- The move of a partial FILL (R110). -/
def Resident.partialMove (r : Resident) : FillMove :=
  { phase := .reading, fresh := false, extent := r.extent, slot := r.slot, work := ~~~(r.valid ||| r.lost)
    validate := ~~~(r.valid ||| r.lost), order := .pending }

/-- The move of a fresh FILL (R110). -/
def freshMove (e n : Nat) : FillMove :=
  { phase := .reading, fresh := true, extent := e, slot := n, work := SegSet.all, validate := SegSet.all
    order := .pending }

theorem complement_ne_zero {a : SegSet} (h : a ≠ SegSet.all) : ~~~a ≠ 0#32 := by
  intro k
  refine h ?_
  rw [← BitVec.not_not (b := a), k]
  rfl

/-- The start of the FILL of a partial resident. -/
theorem State.startPartialFill_started {s : State} (c : Fin 4) {r : Resident} (hm : r.valid ||| r.lost ≠ SegSet.all) :
    (s.store .tail { r with state := .filling }).FillStarted c r.partialMove
      (State.finish { s.startPartialFill c r with lastKind := .fill }) :=
  (State.fill_ordered (m := r.partialMove) _ c rfl (complement_ne_zero hm)).started

/-- The state in which a fresh FILL's record has entered (R110). -/
def State.freshened (e n : Nat) (s : State) : State := (s.unwatch e).enter (s.freshRecord e n)

/-- The start of a fresh FILL. -/
theorem State.startFreshFill_started (s : State) (c : Fin 4) (e n : Nat) :
    (s.freshened e n).FillStarted c (freshMove e n) (State.finish { s.startFreshFill c e n with lastKind := .fill }) :=
  (State.fill_ordered (m := freshMove e n) _ c rfl (show SegSet.all ≠ 0#32 by decide)).started

section
variable (s : State) (e n : Nat)

theorem State.residentOf_freshened (h : s.residentOf e = none) :
    (s.freshened e n).residentOf e = some (s.freshRecord e n) :=
  State.residentOf_enter_same (s := s.unwatch e) (r := s.freshRecord e n) h

theorem State.segmentsOf_freshened {x : Nat} (h : x ≠ e) : (s.freshened e n).segmentsOf x = s.segmentsOf x := by
  have h1 : (s.freshened e n).residentOf x = s.residentOf x :=
    State.residentOf_enter_of_ne (s.freshRecord e n) (s.unwatch e) h
  simp only [State.segmentsOf, h1]

theorem State.watchOf_freshened : (s.freshened e n).watchOf e = none := by
  have : (s.freshened e n).watch = s.watch.filter (fun w => w.extent ≠ e) := rfl
  simp [State.watchOf, this]

theorem State.promo_freshened : (s.freshened e n).promo = s.promo :=
  if_neg (by decide : ¬ (0#32 : SegSet) ||| 0#32 = SegSet.all)

theorem State.clean_freshened {x : Nat} (h : ∀ b, x ∉ s.clean.get b) (b : Band) : x ∉ (s.freshened e n).clean.get b := by
  intro hx
  rcases (State.mem_fileLists_clean .tail (s.freshRecord e n) _ b x).1 hx with ⟨-, k⟩ | ⟨-, k⟩
  · exact h b k
  · simp [Resident.cleanBand, State.freshRecord] at k

end

/-- The start of the FLUSH of a dirty record, and the end of its event. -/
theorem State.startFlush_started {s : State} (c : Fin 4) {e : Nat} {r : Resident} (hr : s.residentOf e = some r)
    (hd : r.dirty ≠ 0#32) :
    let t := State.finish { s.startFlush c r with lastKind := .flush }
    t.lastKind = .flush ∧ t.segmentsOf e = some (r.slot, .flushing, r.valid, r.dirty, r.lost) ∧
      (∃ m, t.contexts = s.contexts.set c (.flush m) ∧ m.extent = e ∧ m.slot = r.slot ∧ m.work = r.dirty) ∧
      ∀ x, t.residentOf x = none → s.residentOf x = none := by
  intro t
  have hre : r.extent = e := State.residentOf_extent hr
  have hst := State.residentOf_store_same (r := { r with state := .flushing }) .tail (hre ▸ hr)
  have hdirty : (s.store .tail { r with state := .flushing }).dirtyOf r.extent = r.dirty := by
    have hst' : (s.store .tail { r with state := .flushing }).residentOf r.extent =
      some ({ r with state := .flushing } : Resident).settled := hst
    simp only [State.dirtyOf, hst', Resident.settled_dirty]
  obtain ⟨h1, m, h2, h3, h4, h5⟩ := State.flush_ordered (s.store .tail { r with state := .flushing }) c
    (m := { phase := .reading, extent := r.extent, slot := r.slot, work := r.dirty, redirtied := 0#32, carried := 0#32, order := .pending })
    rfl (by rw [hdirty, BitVec.and_self]; exact hd)
  have hfin := State.Ends.finish { s.startFlush c r with lastKind := .flush }
  refine ⟨hfin.lastKind, ?_, ⟨m, hfin.contexts.trans h2, h3.trans hre, h4, h5⟩, fun x hx => ?_⟩
  · refine (hfin.segmentsOf e).trans ((State.unordered_segmentsOf h1 e).trans ?_)
    rw [← hre]
    exact State.segmentsOf_store_same (r := { r with state := .flushing }) .tail (hre ▸ hr)
  · have hx' := (State.unordered_residentOf h1 x).symm.trans (hfin.residentOf_none.1 hx)
    rw [State.residentOf_store, Option.map_eq_none_iff] at hx'
    exact hx'

/-! ### Which move is tried -/

section
variable {s : State} {c : Fin 4} {e : Nat}

theorem exec_startEvent_fill (hc : s.contexts[c] = .idle) (hl : ∀ d : Fin 4, d < c → s.contexts[d] ≠ .idle)
    (he : s.eligibleFill = some e) : exec .startEvent s = .next (s.startMove c).finish := by
  have hi : s.idleContext = some c :=
    find?_allContexts (p := fun d => s.contexts[d] == .idle) (by simp [hc]) fun d hd => by simpa using hl d hd
  have hs : s.startContext = some c := by
    rw [State.startContext, he, if_pos (by simp), hi]
  show execStartEvent s = _
  unfold execStartEvent
  rw [hs]

theorem State.startMove_fill (he : s.eligibleFill = some e)
    (hp : s.eligibleFlush = none ∨ (s.drain = false ∧ s.lastKind = .flush)) : s.startMove c = s.startFillElseFlush c := by
  cases hf : s.eligibleFlush with
  | none => simp only [State.startMove, hf, he]
  | some f =>
    rw [hf] at hp
    obtain ⟨h1, h2⟩ := hp.resolve_left (by simp)
    have hpref : s.prefersFill = true := by simp [State.prefersFill, h1, h2]
    simp only [State.startMove, hf, he, hpref, if_true]

/-- The entry that a start event's first turn tries. -/
theorem State.eligibleFill_first (he : s.eligibleFill = some e) :
    (s.promo.filter (fun e => !([] : List Nat).contains e)).find? (fun e => s.fillable e) = some e := by
  unfold State.eligibleFill at he
  split at he
  · simpa using he
  · cases he

theorem State.startFillElseFlush_started (he : s.eligibleFill = some e) {t : State} (ht : s.tryFill c e = (true, t)) :
    s.startFillElseFlush c = t := by
  rw [State.startFillElseFlush, State.tryFills, State.eligibleFill_first he]
  dsimp only
  rw [ht]

/-- After a failed attempt the next entries are tried, and then the eligible flush (R143). -/
theorem State.startFillElseFlush_failed (he : s.eligibleFill = some e) {u t : State} {b : Bool}
    (hu : s.tryFill c e = (false, u))
    (ht : State.tryFills c (s.promo.length + s.records.length) (upTo e s.promo) u = (b, t)) :
    s.startFillElseFlush c = if b then t else t.startEligibleFlush c := by
  rw [State.startFillElseFlush, State.tryFills, State.eligibleFill_first he]
  dsimp only
  rw [hu]
  dsimp only
  rw [List.nil_append, ht]
  cases b with
  | false => rfl
  | true => rfl

theorem State.tryFill_resident {r : Resident} (hr : s.residentOf e = some r) :
    s.tryFill c e = (true, { s.startPartialFill c r with lastKind := .fill }) := by
  simp only [State.tryFill, hr]

theorem State.tryFill_fresh {n : Nat} {t : State} (hr : s.residentOf e = none) (h : s.fillSlot e = (some n, t)) :
    s.tryFill c e = (true, { t.startFreshFill c e n with lastKind := .fill }) := by
  simp only [State.tryFill, hr, h]

theorem State.tryFill_failed {t : State} (hr : s.residentOf e = none) (h : s.fillSlot e = (none, t)) :
    s.tryFill c e = (false, t) := by
  simp only [State.tryFill, hr, h]

end

theorem upTo_append {e : Nat} {before after : List Nat} (h : e ∉ before) :
    upTo e (before ++ e :: after) = before ++ [e] := by
  induction before with
  | nil => simp [upTo]
  | cons x l ih =>
    rw [List.mem_cons, not_or] at h
    rw [List.cons_append, upTo, if_neg (Ne.symm h.1), ih h.2]
    rfl

end Sys2Proof.Machine
end

section
/-! PROOFS. The slot of a fresh FILL: victims, their eviction, and the start events that follow. -/

namespace Sys2Proof.Machine

/-! ### Victims -/

/-- A state without what the examination of a resident record changes. -/
def State.unexamined (s : State) : State :=
  { s with records := [], clean := { b0 := [], b1 := [], b2 := [], b3 := [] }, dirtyList := [], promo := [] }

theorem State.examineResident_unexamined (w : Nat) (r : Resident) (s : State) :
    (s.examineResident w r).unexamined = s.unexamined := by
  unfold State.examineResident
  dsimp only
  rw [State.adjustPromo_eq]
  rfl

theorem State.pinScan_unexamined (x : List Nat) (b : List Band) (l : List Nat) (s : State) :
    (State.pinScan x b l s).2.unexamined = s.unexamined := by
  induction l generalizing s with
  | nil => rfl
  | cons e l ih =>
    unfold State.pinScan
    split
    · exact ih s
    · rename_i r _
      split
      · dsimp only
        split
        · exact State.examineResident_unexamined 0 r s
        · exact (ih _).trans (State.examineResident_unexamined 0 r s)
      · exact ih s

/-- An extent that is not resident keeps its place on the clean lists where it is examined. -/
theorem State.examine_absent {s : State} {e : Nat} (w : Nat) (h : s.residentOf e = none) :
    (s.examine w e).clean = s.clean ∧ (s.examine w e).records = s.records := by
  unfold State.examine
  rw [h]
  dsimp only
  split
  · rename_i x _
    rw [State.examineWatched_eq, State.adjustPromo_eq]
    exact ⟨rfl, rfl⟩
  · exact ⟨rfl, rfl⟩

/-- The walk of the clean lists examines resident records alone, unless what it meets is not resident. -/
theorem State.walk_unexamined {x : List Nat} {b : List Band} {n : Nat} {s t : State} {o : Option Nat}
    (h : s.walk x b n = (o, t)) (ho : ∀ k, o = some k → t.residentOf k ≠ none) : t.unexamined = s.unexamined := by
  induction n generalizing s with
  | zero =>
    cases h
    rfl
  | succ n ih =>
    unfold State.walk at h
    split at h
    · cases h
      rfl
    · rename_i k v hv
      dsimp only at h
      cases hr : s.residentOf v with
      | some r =>
        have hex : (s.examine 0 v).unexamined = s.unexamined := by
          have : s.examine 0 v = s.examineResident 0 r := by simp only [State.examine, hr]
          rw [this]
          exact State.examineResident_unexamined 0 r s
        split at h
        · cases h
          exact hex
        · exact (ih h).trans hex
      | none =>
        obtain ⟨hclean, hrec⟩ := State.examine_absent 0 hr
        obtain ⟨k', -, hk⟩ := List.exists_of_findSome?_eq_some hv
        obtain ⟨v', hv', hpair⟩ := Option.map_eq_some_iff.1 hk
        simp only [Prod.mk.injEq] at hpair
        obtain ⟨rfl, rfl⟩ := hpair
        rw [if_pos (by rw [hclean]; exact List.mem_of_find?_eq_some hv')] at h
        cases h
        refine absurd ?_ (ho _ rfl)
        rw [State.residentOf_congr hrec, hr]

theorem State.victim_unexamined {x : List Nat} {c : Option Band} {s t : State} {k : Nat}
    (h : s.victim x c = (some k, t)) (hk : t.residentOf k ≠ none) : t.unexamined = s.unexamined := by
  unfold State.victim at h
  split at h
  · rename_i hw
    cases h
    exact State.walk_unexamined hw fun j hj => by
      cases hj
      exact hk
  · rename_i u hw
    have hu := State.walk_unexamined hw nofun
    split at h
    · have hp := State.pinScan_unexamined x (bandsUpTo c) (u.records.map (·.extent)) u
      rw [h] at hp
      exact hp.trans hu
    · cases h

section
variable {s t : State} (h : t.unexamined = s.unexamined)
include h

theorem State.unexamined_free : t.free = s.free := (congrArg State.free h : t.unexamined.free = _)
theorem State.unexamined_watch : t.watch = s.watch := (congrArg State.watch h : t.unexamined.watch = _)
theorem State.unexamined_flash : t.flash = s.flash := (congrArg State.flash h : t.unexamined.flash = _)
theorem State.unexamined_flashOwed : t.flashOwed = s.flashOwed := (congrArg State.flashOwed h : t.unexamined.flashOwed = _)
theorem State.unexamined_stats : t.stats = s.stats := (congrArg State.stats h : t.unexamined.stats = _)
theorem State.unexamined_sizes : t.sizes = s.sizes := (congrArg State.sizes h : t.unexamined.sizes = _)

end

/-- The search for a victim changes no segments. -/
theorem State.victim_segmentsOf (x : List Nat) (c : Option Band) (s : State) (e : Nat) :
    (s.victim x c).2.segmentsOf e = s.segmentsOf e :=
  ((State.Becomes.victim (L := {}) x c s).segments_free rfl rfl rfl rfl rfl).1 e

/-! ### Eviction -/

theorem State.evict_residentOf_of_ne (f : SlotFate) (r : Resident) (s : State) {e : Nat} (he : e ≠ r.extent) :
    (s.evict f r).residentOf e = s.residentOf e :=
  State.residentOf_remove_of_ne f r s he

theorem State.evict_segmentsOf_of_ne (f : SlotFate) (r : Resident) (s : State) {e : Nat} (he : e ≠ r.extent) :
    (s.evict f r).segmentsOf e = s.segmentsOf e :=
  State.segmentsOf_remove_of_ne f r s he

theorem State.evict_segmentsOf_same (f : SlotFate) (r : Resident) (s : State) : (s.evict f r).segmentsOf r.extent = none :=
  State.segmentsOf_remove_same f r s

theorem State.remove_clean (f : SlotFate) (r : Resident) (s : State) (b : Band) :
    (s.remove f r).clean.get b = without r.extent (s.clean.get b) := by
  have h1 : (s.remove f r).clean = (State.drop r (if f.announced then s.produceRetire r.slot else s)).clean := by
    rw [State.remove_eq, State.settleSlot_eq, State.returnHeat_eq]
  rw [h1]
  show CleanLists.get (CleanLists.change _ _) b = _
  rw [CleanLists.get_change, State.body_clean (State.announced_body f r.slot s)]

/-- A removal changes no other watch entry, with a place in the Watch List. -/
theorem State.watchOf_remove_of_ne {f : SlotFate} {r : Resident} {s : State} {e : Nat} (he : e ≠ r.extent)
    (hl : s.watch.length < 4096) : (s.remove f r).watchOf e = s.watchOf e := by
  have hb := State.announced_body f r.slot s
  rw [State.remove_eq]
  generalize (if f.announced then s.produceRetire r.slot else s) = u at hb ⊢
  have hset (v : State) : (v.settleSlot f r.slot).watch = v.watch := by rw [State.settleSlot_eq]
  have hu : u.watchOf e = s.watchOf e := State.body_watchOf hb e
  rw [State.watchOf_congr (hset _)]
  unfold State.returnHeat
  split
  · exact hu
  · have hroom : (u.drop r).watchRoom = u.drop r := by
      rw [State.watchRoom, if_pos]
      show u.watch.length < 4096
      rw [State.body_watch hb]
      exact hl
    unfold State.enterWatch
    rw [hroom]
    exact (find?_insertBy_of_not _ _ _ u.watch (by simpa using he.symm)).trans hu

/-! ### Displacement -/

theorem State.passingCatchUp_eq {e : Nat} {s : State} {x : WatchEntry} (h : s.watchOf e = some x) :
    s.passingCatchUp e = s.setWatchHeat e (x.heat.caughtUp s.settings s.epoch) := by
  simp only [State.passingCatchUp, h]

theorem State.watchOf_passingCatchUp {e : Nat} {s : State} {x : WatchEntry} (h : s.watchOf e = some x) :
    (s.passingCatchUp e).watchOf e = some { x with heat := x.heat.caughtUp s.settings s.epoch } := by
  rw [State.passingCatchUp_eq h, State.watchOf_setWatchHeat, h, Option.map_some,
    if_pos (State.Becomes.watchOf_extent h)]

theorem State.displace_of_free {c : Option Band} {n : Nat} {s : State} (h : s.absorbReserve < s.freeCount) :
    s.displace c n = s := by
  cases n with
  | zero => rfl
  | succ n => rw [State.displace, if_pos h]

theorem State.displace_once {c : Option Band} {n k : Nat} {s v : State} {y : Resident}
    (h : ¬ s.absorbReserve < s.freeCount) (hv : s.victim [] c = (some k, v)) (hy : v.residentOf k = some y)
    (h' : (v.evict .freed y).absorbReserve < (v.evict .freed y).freeCount) :
    s.displace c (n + 1) = v.evict .freed y := by
  rw [State.displace, if_neg h, hv]
  dsimp only
  rw [hy]
  exact State.displace_of_free h'

theorem State.handOut_of_head {s : State} {n : Nat} (h : s.free.head? = some n) (ho : s.retireOwed n = false) :
    s.handOut = some n := by
  obtain ⟨l, hl⟩ := List.head?_eq_some_iff.1 h
  rw [State.handOut, hl, List.find?_cons_of_pos (by simp [ho])]

/-- A fresh FILL's slot where the pool stands above the reserve once victims are evicted. -/
theorem State.fillSlot_some {s : State} {e n : Nat} (h : (s.displaced e).absorbReserve < (s.displaced e).freeCount)
    (hn : (s.displaced e).handOut = some n) : s.fillSlot e = (some n, (s.displaced e).takeSlot n) := by
  rw [State.fillSlot_eq, if_pos h, hn]

/-- What may be evicted: a clean RESIDENT record of an extent that is neither held nor claimed (R94, R95). -/
def State.Evictable (s : State) (e : Nat) : Prop :=
  s.ListsFiled → s.held e = false ∧ s.claimed e = false ∧
    ∀ r, s.residentOf e = some r → r.dirty = 0#32 ∧ r.state = .resident

/-- What was evictable after a change was so before, the extent's segments, the holds and the claims standing. -/
theorem State.Evictable.back {s t : State} {e : Nat} (h : t.Evictable e) (hseg : t.segmentsOf e = s.segmentsOf e)
    (hr : t.routes = s.routes) (hc : t.claims = s.claims) (hl : s.ListsFiled → t.ListsFiled) : s.Evictable e := by
  intro hs
  obtain ⟨h1, h2, h3⟩ := h (hl hs)
  refine ⟨?_, ?_, fun r k => ?_⟩
  · rw [← h1]
    simp [State.held, hr]
  · rw [← h2]
    simp [State.claimed, State.claimIndex, hc]
  · rw [State.segmentsOf_of_resident k] at hseg
    cases k' : t.residentOf e with
    | none =>
      rw [State.segmentsOf_eq_none.2 k'] at hseg
      cases hseg
    | some r' =>
      rw [State.segmentsOf_of_resident k'] at hseg
      simp only [Option.some.injEq, Prod.mk.injEq] at hseg
      obtain ⟨h4, h5⟩ := h3 r' k'
      exact ⟨hseg.2.2.2.1 ▸ h4, hseg.2.1 ▸ h5⟩

/-- An extent's record stands with its segments, or is gone and was evictable. -/
def State.Evicts (s t : State) : Prop :=
  ∀ e, t.segmentsOf e = s.segmentsOf e ∨ (t.segmentsOf e = none ∧ s.Evictable e)

theorem State.displace_evicts (c : Option Band) (n : Nat) {s : State} (hs : s.service = .serving) :
    s.Evicts (s.displace c n) := by
  induction n generalizing s with
  | zero => exact fun e => .inl rfl
  | succ n ih =>
    unfold State.displace
    split
    · exact fun e => .inl rfl
    · have hseg := State.victim_segmentsOf [] c s
      have hvb := State.Becomes.victim (L := { removes := true }) [] c s
      split
      · rename_i v hv
        rw [hv] at hseg
        exact fun e => .inl (hseg e)
      · rename_i k v hv
        rw [hv] at hseg hvb
        obtain ⟨⟨b, -, hb⟩, hskip⟩ := State.victim_some hv
        split
        · exact fun e => .inl (hseg e)
        · rename_i r hr
          have he : r.extent = k := State.residentOf_extent hr
          have hev := State.Becomes.evict (L := { removes := true }) r v (he ▸ hr) (he ▸ hb) rfl (hvb.keeps.service.trans hs)
          have hall := hvb.trans hev
          have hsv : (v.evict .freed r).service = .serving := hall.keeps.service.trans hs
          intro e
          by_cases hek : e = k
          · have hgone : (v.evict .freed r).segmentsOf e = none := by
              rw [hek, ← he]
              exact State.evict_segmentsOf_same _ _ _
            refine .inr ⟨?_, ?_⟩
            · rcases ih hsv e with h | h
              · rw [h, hgone]
              · exact h.1
            · refine State.Evictable.back (t := v) (fun hf => ?_) (hseg e) (hvb.routes_eq rfl) (hvb.claims_eq rfl) hvb.listsFiled
              simp only [State.skipped, List.contains_nil, Bool.or_false, Bool.or_eq_false_iff] at hskip
              rw [hek]
              refine ⟨hskip.1, hskip.2, fun r' hr' => ?_⟩
              obtain ⟨h1, -, h2⟩ := hf.of_clean hb hr'
              exact ⟨h1, h2⟩
          · have hsame : (v.evict .freed r).segmentsOf e = s.segmentsOf e :=
              (State.evict_segmentsOf_of_ne _ _ _ (he ▸ hek)).trans (hseg e)
            rcases ih hsv e with h | ⟨h1, h2⟩
            · exact .inl (h.trans hsame)
            · exact .inr ⟨h1, h2.back hsame (hall.routes_eq rfl) (hall.claims_eq rfl) hall.listsFiled⟩

theorem State.passingCatchUp_records (e : Nat) (s : State) : (s.passingCatchUp e).records = s.records := by
  unfold State.passingCatchUp
  split <;> rfl

theorem State.displaced_evicts (e : Nat) {s : State} (hs : s.service = .serving) : s.Evicts (s.displaced e) := by
  intro x
  have hb := State.Becomes.passingCatchUp (L := { removes := true }) e s
  have hseg := State.segmentsOf_congr (State.passingCatchUp_records e s) x
  rcases State.displace_evicts ((s.passingCatchUp e).watchedBand e).below ((s.passingCatchUp e).records.length + 1)
    (hb.keeps.service.trans hs) x with h | ⟨h1, h2⟩
  · exact .inl (h.trans hseg)
  · exact .inr ⟨h1, h2.back hseg (hb.routes_eq rfl) (hb.claims_eq rfl) hb.listsFiled⟩

/-! ### What a start event removes -/

/-- Every extent that loses its record was evictable. -/
def State.Spares (s t : State) : Prop := ∀ e r, s.residentOf e = some r → t.residentOf e = none → s.Evictable e

theorem State.Spares.of_keeps {s t : State} (h : ∀ e, t.residentOf e = none → s.residentOf e = none) : s.Spares t := by
  intro e r hr ht
  rw [h e ht] at hr
  cases hr

theorem State.residentOf_store_none (a : ListEnd) (r : Resident) {s : State} {e : Nat}
    (h : (s.store a r).residentOf e = none) : s.residentOf e = none := by
  rw [State.residentOf_store, Option.map_eq_none_iff] at h
  exact h

/-- The production of an order removes no record, unless it completes a move. -/
theorem State.FillStarted.spares {c : Fin 4} {m : FillMove} {s t : State} (h : s.FillStarted c m t) {e : Nat}
    (ht : t.residentOf e = none) : s.residentOf e = none := by
  rw [← State.segmentsOf_eq_none, ← h.segmentsOf e, State.segmentsOf_eq_none]
  exact ht

end Sys2Proof.Machine
end

section
/-! PROOFS. The fill of a start event: of a partial resident, or fresh, with a free slot or a victim's. -/

namespace Sys2Proof.Machine

/-! ### A fill that starts -/

section
variable {s : State} {c : Fin 4} {e : Nat}
  (hc : s.contexts[c] = .idle) (hl : ∀ d : Fin 4, d < c → s.contexts[d] ≠ .idle) (he : s.eligibleFill = some e)
  (hp : s.eligibleFlush = none ∨ (s.drain = false ∧ s.lastKind = .flush))
include hc hl he hp

/-- The event of a start whose first attempt starts a FILL. -/
theorem exec_startEvent_started {t : State} (ht : s.tryFill c e = (true, t)) : exec .startEvent s = .next t.finish := by
  rw [exec_startEvent_fill hc hl he, State.startMove_fill he hp, State.startFillElseFlush_started he ht]

/-- The fill of the eligible partial resident (R110). -/
theorem exec_startEvent_partial {r : Resident} (hr : s.residentOf e = some r) (hm : r.valid ||| r.lost ≠ SegSet.all) :
    ∃ t, exec .startEvent s = .next t ∧ (s.store .tail { r with state := .filling }).FillStarted c r.partialMove t :=
  ⟨_, exec_startEvent_started hc hl he hp (State.tryFill_resident hr), State.startPartialFill_started c hm⟩

/-- The fresh fill of the eligible entry, with the slot it gets (R99, R110). -/
theorem exec_startEvent_fresh {n : Nat} {w : State} (hr : s.residentOf e = none) (hf : s.fillSlot e = (some n, w)) :
    ∃ t, exec .startEvent s = .next t ∧ (w.freshened e n).FillStarted c (freshMove e n) t :=
  ⟨_, exec_startEvent_started hc hl he hp (State.tryFill_fresh hr hf), State.startFreshFill_started w c e n⟩

end

/-- No free slot of a fresh fill's pool awaits its RETIRE_SLOT (R140). -/
theorem State.retireOwed_of_fillable {s : State} {e n : Nat} (h : s.fillable e = true) (hr : s.residentOf e = none)
    (hn : n ∈ s.free) : s.retireOwed n = false := by
  simp only [State.fillable, hr, Bool.and_eq_true, Bool.not_eq_true', List.any_eq_false, Bool.not_eq_true] at h
  exact h.2.2 n hn

/-- With a free count above the reserve no victim is looked for. -/
theorem State.displaced_of_free {s : State} {e : Nat} {x : WatchEntry} (hx : s.watchOf e = some x)
    (h : s.absorbReserve < s.free.length) :
    s.displaced e = s.setWatchHeat e (x.heat.caughtUp s.settings s.epoch) := by
  rw [State.displaced, State.passingCatchUp_eq hx]
  exact State.displace_of_free h

theorem State.fillSlot_of_free {s : State} {e n : Nat} {x : WatchEntry} (he : s.fillable e = true)
    (hr : s.residentOf e = none) (hx : s.watchOf e = some x) (h : s.absorbReserve < s.free.length)
    (hn : s.free.head? = some n) :
    s.fillSlot e = (some n, (s.setWatchHeat e (x.heat.caughtUp s.settings s.epoch)).takeSlot n) := by
  have hd := State.displaced_of_free hx h
  have ho : s.retireOwed n = false := State.retireOwed_of_fillable he hr (List.mem_of_mem_head? hn)
  rw [← hd]
  refine State.fillSlot_some (hd ▸ h) (hd ▸ ?_)
  exact State.handOut_of_head (s := s.setWatchHeat e (x.heat.caughtUp s.settings s.epoch)) hn ho

/-- The record of a fresh FILL takes the heat of the watch entry, caught up. -/
theorem State.freshRecord_heat {s : State} {e : Nat} {x : WatchEntry} (n : Nat) (h : s.watchOf e = some x) :
    (s.freshRecord e n).heat = x.heat := by
  simp only [State.freshRecord, State.inheritedHeat, h]

theorem State.FillStarted.fresh {c : Fin 4} {e n : Nat} {w t : State} (h : (w.freshened e n).FillStarted c (freshMove e n) t)
    (hr : w.residentOf e = none) :
    t.residentOf e = some (w.freshRecord e n) ∧ (∀ x, x ≠ e → t.segmentsOf x = w.segmentsOf x) ∧
      t.watchOf e = none ∧ t.free = w.free ∧ t.promo = w.promo :=
  ⟨h.resident e _ (State.residentOf_freshened w e n hr) rfl,
    fun x hx => (h.segmentsOf x).trans (State.segmentsOf_freshened w e n hx),
    (h.watchOf e).trans (State.watchOf_freshened w e n), h.free, h.promo.trans (State.promo_freshened w e n)⟩

/-- The entry of a fresh FILL's record changes neither the links nor what is owed, nor the contexts and their tickets. -/
theorem State.freshened_links (s : State) (e n : Nat) :
    (s.freshened e n).disk = s.disk ∧ (s.freshened e n).flash = s.flash ∧ (s.freshened e n).diskOwed = s.diskOwed ∧
      (s.freshened e n).contexts = s.contexts ∧ (s.freshened e n).tickets = s.tickets ∧
      (s.freshened e n).settings = s.settings ∧ (s.freshened e n).stats = s.stats := ⟨rfl, rfl, rfl, rfl, rfl, rfl, rfl⟩

section
variable {c : Fin 4} {e n : Nat} {w t : State} (h : (w.freshened e n).FillStarted c (freshMove e n) t)
include h

/-- The first order of a fresh FILL, placed or pending (R107, R108). -/
theorem State.FillStarted.fresh_order :
    (w.disk.out.length < 16 → w.diskOwed = [] →
      t.contexts =
          w.contexts.set c (.fill { freshMove e n with order := .placed w.tickets w.settings.orderTimeout }) ∧
        t.tickets = (w.tickets + 1) % 65536 ∧
        w.disk.out ++ [.readExtent w.tickets c.val e SegSet.all] <+: t.disk.out) ∧
      (16 ≤ w.disk.out.length ∨ w.diskOwed ≠ [] →
        t.contexts = w.contexts.set c (.fill (freshMove e n)) ∧ t.tickets = w.tickets ∧ .order c ∈ t.diskOwed) := by
  obtain ⟨hdisk, -, howed, hctx, htick, hset, -⟩ := State.freshened_links w e n
  have h1 := h.placed
  have h2 := h.pending
  rw [hdisk, howed, hctx, htick] at h1 h2
  rw [hset] at h1
  exact ⟨h1, h2⟩

theorem State.FillStarted.fresh_stats : t.stats.evictions = w.stats.evictions := by
  obtain ⟨-, -, -, -, -, -, hstats⟩ := State.freshened_links w e n
  rw [h.evictions, hstats]

theorem State.FillStarted.fresh_flash : w.flash.out <+: t.flash.out := by
  obtain ⟨-, hflash, -⟩ := State.freshened_links w e n
  rw [← hflash]
  exact h.flash

end

/-! ### The displacement of one victim -/

theorem State.evict_sizes (r : Resident) (s : State) : (s.evict .freed r).sizes = s.sizes := by
  show (s.remove .freed r).sizes = s.sizes
  rw [State.remove_eq, State.settleSlot_eq, State.returnHeat_eq]
  exact (congrArg State.sizes (State.announced_body .freed r.slot s) : (State.body _).sizes = _)

theorem State.evict_stats (r : Resident) (s : State) :
    (s.evict .freed r).stats.evictions = min (s.stats.evictions + 1) 4294967295 := by
  have h : (s.remove .freed r).stats = s.stats := by
    rw [State.remove_eq, State.settleSlot_eq, State.returnHeat_eq]
    exact (congrArg State.stats (State.announced_body .freed r.slot s) : (State.body _).stats = _)
  show addSat (s.remove .freed r).stats.evictions 1 = _
  rw [h, addSat_eq]

theorem State.insertBy_length (n : Nat) (l : List Nat) : (insertBy id n l).length = l.length + 1 :=
  (insertBy_perm id n l).length_eq

/-- What the eviction of the one victim a fresh FILL at the reserve needs leaves (R97, R99). -/
structure State.DisplacedOnce (e k : Nat) (x : WatchEntry) (y : Resident) (s w : State) : Prop where
  victim : k ≠ e
  absent : w.residentOf e = none
  gone : w.segmentsOf k = none
  segmentsOf : ∀ z, z ≠ k → w.segmentsOf z = s.segmentsOf z
  free : w.free = insertBy id y.slot s.free
  reserve : w.absorbReserve < w.freeCount
  watchOf : w.watchOf e = some { x with heat := x.heat.caughtUp s.settings s.epoch }
  evictions : w.stats.evictions = min (s.stats.evictions + 1) 4294967295
  clean : ∀ b, k ∉ w.clean.get b
  flash : w.flash.out = s.flash.out ++ [.retireSlot y.slot]
  flashOwed : w.flashOwed = []

theorem State.displaced_once {s v : State} {e k : Nat} {x : WatchEntry} {y : Resident} (hr : s.residentOf e = none)
    (hx : s.watchOf e = some x) (hf : s.free.length = s.absorbReserve) (hw : s.watch.length < 4096)
    (ho : s.flash.out.length < 16) (hq : s.flashOwed = [])
    (hv : (s.passingCatchUp e).victim [] (x.heat.caughtUp s.settings s.epoch).band.below = (some k, v))
    (hy : v.residentOf k = some y) : s.DisplacedOnce e k x y (s.displaced e) := by
  have hyk : y.extent = k := State.residentOf_extent hy
  have hu := State.victim_unexamined hv (by rw [hy]; simp)
  have hwat := State.watchOf_passingCatchUp hx
  have hseg (z : Nat) : v.segmentsOf z = s.segmentsOf z := by
    have h1 := State.victim_segmentsOf [] (x.heat.caughtUp s.settings s.epoch).band.below (s.passingCatchUp e) z
    rw [hv] at h1
    exact h1.trans (State.segmentsOf_congr (State.passingCatchUp_records e s) z)
  have hve : v.residentOf e = none := by
    rw [← State.segmentsOf_eq_none, hseg, State.segmentsOf_eq_none]
    exact hr
  have hke : k ≠ e := by
    rintro rfl
    rw [hve] at hy
    cases hy
  have hpc := State.passingCatchUp_eq hx
  have hfree : v.free = s.free := (State.unexamined_free hu).trans (by rw [hpc]; rfl)
  have hsizes : (v.evict .freed y).sizes = s.sizes :=
    (State.evict_sizes y v).trans ((State.unexamined_sizes hu).trans (by rw [hpc]; rfl))
  have hefree : (v.evict .freed y).free = insertBy id y.slot s.free := (State.remove_freed_free y v).trans (by rw [hfree])
  have hreserve : (v.evict .freed y).absorbReserve < (v.evict .freed y).freeCount := by
    have h1 : (v.evict .freed y).absorbReserve = s.absorbReserve := by simp only [State.absorbReserve, hsizes]
    rw [h1, State.freeCount, hefree, State.insertBy_length, hf]
    exact Nat.lt_succ_self _
  have hdis : s.displaced e = v.evict .freed y := by
    have hband : (s.passingCatchUp e).watchedBand e = (x.heat.caughtUp s.settings s.epoch).band := by
      simp only [State.watchedBand, hwat]
    rw [State.displaced, hband]
    refine State.displace_once ?_ hv hy hreserve
    rw [hpc]
    show ¬ s.absorbReserve < s.free.length
    omega
  have hwlen : v.watch.length < 4096 := by
    rw [State.unexamined_watch hu, hpc]
    simpa [State.setWatchHeat] using hw
  have hann := (State.remove_freed_announces y v).1
    (by rw [State.unexamined_flash hu, hpc]; exact ho) (by rw [State.unexamined_flashOwed hu, hpc]; exact hq)
  rw [hdis]
  refine ⟨hke, ?_, ?_, fun z hz => ?_, hefree, hreserve, ?_, ?_, fun b => ?_, ?_, hann.2⟩
  · exact (State.evict_residentOf_of_ne _ _ _ (hyk ▸ hke.symm)).trans hve
  · rw [← hyk]
    exact State.evict_segmentsOf_same .freed y v
  · exact (State.evict_segmentsOf_of_ne _ _ _ (hyk ▸ hz)).trans (hseg z)
  · have h1 : (v.evict .freed y).watchOf e = v.watchOf e :=
      State.watchOf_remove_of_ne (f := .freed) (hyk ▸ hke.symm) hwlen
    exact h1.trans ((State.watchOf_congr (State.unexamined_watch hu) e).trans hwat)
  · rw [State.evict_stats, State.unexamined_stats hu, hpc]
    rfl
  · have h1 : (v.evict .freed y).clean.get b = without y.extent (v.clean.get b) := State.remove_clean .freed y v b
    rw [h1, hyk]
    simp [without]
  · refine hann.1.trans ?_
    rw [State.unexamined_flash hu, hpc]
    rfl

theorem State.fillSlot_displacedOnce {s : State} {e k n : Nat} {x : WatchEntry} {y : Resident}
    (h : s.DisplacedOnce e k x y (s.displaced e)) (hn : (insertBy id y.slot s.free).head? = some n) :
    s.fillSlot e = (some n, (s.displaced e).takeSlot n) := by
  refine State.fillSlot_some h.reserve (State.handOut_of_head (h.free ▸ hn) ?_)
  simp [State.retireOwed, h.flashOwed]

end Sys2Proof.Machine
end

section
/-! PROOFS. The start event after a failed fill, and the records that a start event removes. -/

namespace Sys2Proof.Machine

/-! ### After a failed attempt -/

/-- The entry that is tried after a failed attempt: the first that passes the tests, of those not yet passed (R143). -/
def State.nextFill (e : Nat) (before : List Nat) (u : State) : Option Nat :=
  (u.promo.filter fun x => x ≠ e ∧ x ∉ before).find? fun x => u.fillable x

/-- What a failed attempt leaves of the state (R99). -/
theorem State.fillSlot_failed {s u : State} {e : Nat} (hs : s.service = .serving) (hu : s.fillSlot e = (none, u)) :
    State.Becomes { removes := true } s u ∧ s.Evicts u := by
  have hd : u = s.displaced e := by
    rcases State.fillSlot_cases e s with h | ⟨n, -, -, h⟩ <;> rw [hu] at h
    · exact (Prod.mk.inj h).2
    · exact absurd (Prod.mk.inj h).1 (by simp)
  subst hd
  exact ⟨State.Becomes.displaced e s rfl hs, State.displaced_evicts e hs⟩

/-- The state in which a fresh fill's slot was obtained. -/
theorem State.fillSlot_obtained {s w : State} {e n : Nat} (hs : s.service = .serving) (hr : s.residentOf e = none)
    (hw : s.fillSlot e = (some n, w)) : w.contexts = s.contexts ∧ w.residentOf e = none := by
  rcases State.fillSlot_cases e s with h | ⟨m, -, -, h⟩ <;> rw [hw] at h
  · exact absurd (Prod.mk.inj h).1 (by simp)
  · obtain ⟨-, rfl⟩ := Prod.mk.inj h
    have hd := State.Becomes.displaced (L := { removes := true }) e s rfl hs
    exact ⟨hd.contexts_eq rfl rfl, hd.absent rfl rfl hr⟩

theorem State.nextFill_eq (e : Nat) (before : List Nat) (u : State) :
    (u.promo.filter fun x => !(before ++ [e]).contains x).find? (fun x => u.fillable x) = u.nextFill e before := by
  rw [State.nextFill]
  congr 1
  refine List.filter_congr fun x _ => ?_
  simp [Bool.and_comm]

section
variable {s u : State} {c : Fin 4} {e : Nat} {before after : List Nat}
  (hc : s.contexts[c] = .idle) (hl : ∀ d : Fin 4, d < c → s.contexts[d] ≠ .idle) (he : s.eligibleFill = some e)
  (hr : s.residentOf e = none) (hp : s.eligibleFlush = none ∨ (s.drain = false ∧ s.lastKind = .flush))
  (hu : s.fillSlot e = (none, u)) (hq : s.promo = before ++ e :: after) (hb : e ∉ before)
include hc hl he hr hp hu hq hb

/-- The event after a failed first attempt. -/
theorem exec_startEvent_failed :
    ∃ n, ∀ b t, State.tryFills c (n + 1) (before ++ [e]) u = (b, t) →
      exec .startEvent s = .next (State.finish (if b then t else t.startEligibleFlush c)) := by
  refine ⟨before.length + after.length + s.records.length, fun b t ht => ?_⟩
  have hlen : s.promo.length + s.records.length = before.length + after.length + s.records.length + 1 := by
    rw [hq, List.length_append, List.length_cons]
    omega
  rw [← upTo_append (after := after) hb, ← hq, ← hlen] at ht
  rw [exec_startEvent_fill hc hl he, State.startMove_fill he hp,
    State.startFillElseFlush_failed he (State.tryFill_failed hr hu) ht]

/-- The next entry is tried. -/
theorem exec_startEvent_next {f : Nat} {t : State} (hn : u.nextFill e before = some f) (ht : u.tryFill c f = (true, t)) :
    exec .startEvent s = .next t.finish := by
  obtain ⟨n, h⟩ := exec_startEvent_failed hc hl he hr hp hu hq hb
  refine h true t ?_
  rw [State.tryFills, State.nextFill_eq, hn]
  dsimp only
  rw [ht]

/-- Where no entry passes the eligible flush is started. -/
theorem exec_startEvent_noNext (hn : u.nextFill e before = none) :
    exec .startEvent s = .next (u.startEligibleFlush c).finish := by
  obtain ⟨n, h⟩ := exec_startEvent_failed hc hl he hr hp hu hq hb
  refine h false u ?_
  rw [State.tryFills, State.nextFill_eq, hn]

/-- The next entry that passes is of a partial resident (R110). -/
theorem exec_startEvent_nextPartial {f : Nat} {r : Resident} (hn : u.nextFill e before = some f)
    (hf : u.residentOf f = some r) (hm : r.valid ||| r.lost ≠ SegSet.all) :
    ∃ t m, exec .startEvent s = .next t ∧ t.lastKind = .fill ∧ t.contexts = u.contexts.set c (.fill m) ∧
      m.extent = f ∧ m.slot = r.slot ∧ m.fresh = false ∧ m.work = ~~~(r.valid ||| r.lost) ∧ m.validate = m.work ∧
      t.segmentsOf f = some (r.slot, .filling, r.valid, r.dirty, r.lost) ∧
      (∀ x, x ≠ f → t.segmentsOf x = u.segmentsOf x) := by
  have hext := State.residentOf_extent hf
  have hst := State.segmentsOf_store_same (r := { r with state := .filling }) .tail (hext ▸ hf)
  have h := State.startPartialFill_started c (s := u) hm
  obtain ⟨o, ho⟩ := h.contexts
  refine ⟨_, _, exec_startEvent_next hc hl he hr hp hu hq hb hn (State.tryFill_resident hf), h.lastKind, ho,
    hext, rfl, rfl, rfl, rfl, ?_, fun x hx => ?_⟩
  · rw [h.segmentsOf, ← hext]
    exact hst
  · rw [h.segmentsOf]
    exact State.segmentsOf_store_of_ne .tail { r with state := .filling } u (hext ▸ hx)

/-- The next entry that passes is not resident, and gets a slot (R110). -/
theorem exec_startEvent_nextFresh {f n : Nat} {w : State} (hs : u.service = .serving)
    (hn : u.nextFill e before = some f) (hf : u.residentOf f = none) (hw : u.fillSlot f = (some n, w)) :
    ∃ t m r, exec .startEvent s = .next t ∧ t.lastKind = .fill ∧ t.contexts = u.contexts.set c (.fill m) ∧
      m.extent = f ∧ m.slot = n ∧ m.fresh = true ∧ t.residentOf f = some r ∧ r.slot = n ∧ r.state = .filling ∧
      (∀ x, x ≠ f → t.segmentsOf x = w.segmentsOf x) := by
  obtain ⟨hwctx, hwr⟩ := State.fillSlot_obtained hs hf hw
  have h := State.startFreshFill_started w c f n
  obtain ⟨o, ho⟩ := h.contexts
  obtain ⟨hrec, hseg, -⟩ := h.fresh hwr
  exact ⟨_, { freshMove f n with order := o }, w.freshRecord f n,
    exec_startEvent_next hc hl he hr hp hu hq hb hn (State.tryFill_fresh hf hw), h.lastKind,
    hwctx ▸ (ho : _ = w.contexts.set c _), rfl, rfl, rfl, hrec, rfl, rfl, hseg⟩

/-- No entry passes, and a flush is eligible (R143). -/
theorem exec_startEvent_flushInstead {f : Nat} {r : Resident} (hn : u.nextFill e before = none)
    (hf : u.eligibleFlush = some f) (hfr : u.residentOf f = some r) (hd : r.dirty ≠ 0#32) :
    ∃ t m, exec .startEvent s = .next t ∧ t.lastKind = .flush ∧ t.contexts = u.contexts.set c (.flush m) ∧
      m.extent = f ∧ m.slot = r.slot ∧ m.work = r.dirty ∧
      t.segmentsOf f = some (r.slot, .flushing, r.valid, r.dirty, r.lost) := by
  have hstart : u.startEligibleFlush c = { u.startFlush c r with lastKind := .flush } := by
    simp only [State.startEligibleFlush, hf, hfr]
  obtain ⟨hlast, hseg, ⟨m, hm, h1, h2, h3⟩, -⟩ := State.startFlush_started c hfr hd
  exact ⟨_, m, hstart ▸ exec_startEvent_noNext hc hl he hr hp hu hq hb hn, hlast, hm, h1, h2, h3, hseg⟩

/-- No entry passes, and no flush is eligible. -/
theorem exec_startEvent_nothing (hn : u.nextFill e before = none) (hf : u.eligibleFlush = none) :
    exec .startEvent s = .next u.finish := by
  have hstart : u.startEligibleFlush c = u := by simp only [State.startEligibleFlush, hf]
  have h := exec_startEvent_noNext hc hl he hr hp hu hq hb hn
  rwa [hstart] at h

end

/-! ### What a start event removes -/

/-- A record on the Dirty List is dirty. -/
theorem State.ListsFiled.of_dirtyList {s : State} (h : s.ListsFiled) {e : Nat} {r : Resident} (he : e ∈ s.dirtyList)
    (hr : s.residentOf e = some r) : r.dirty ≠ 0#32 := by
  obtain ⟨x, hx, hxe, hd⟩ := (h.dirty e).1 he
  have hrx : r = x :=
    List.inj_on_of_nodup_map h.extents (List.mem_of_find?_eq_some hr) hx ((State.residentOf_extent hr).trans hxe.symm)
  exact hrx ▸ hd

/-- A FILL with no segment to read completes at once (R111). -/
theorem State.produceOrder_completeFill {s : State} {c : Fin 4} {m : FillMove} (h : s.contexts[c] = .fill m)
    (hv : m.validate = 0#32) : s.produceOrder c = s.completeFill c m := by
  have he : s.orderEmpty c = true := by
    rw [State.orderEmpty_fill h, hv]
    rfl
  unfold State.produceOrder
  rw [h]
  simp only [Context.orderPort, he, Bool.true_or, if_true]
  exact State.placeOrder_completeFill h hv

/-- A record that is full stands where its FILL completes (R113). -/
theorem State.completeFill_full {s : State} {c : Fin 4} {m : FillMove} {r : Resident} (hr : s.residentOf m.extent = some r)
    (hv : m.validate = 0#32) (hf : r.valid ||| r.lost = SegSet.all) {e : Nat}
    (ht : (s.completeFill c m).residentOf e = none) : s.residentOf e = none := by
  have hne : ({ r with valid := r.valid ||| m.validate } : Resident).isEmpty = false := by
    by_contra k
    rw [Bool.not_eq_false, Resident.isEmpty, Bool.and_eq_true, beq_iff_eq, beq_iff_eq, hv, BitVec.or_zero] at k
    rw [k.1, k.2] at hf
    exact absurd hf (by decide)
  rw [State.completeFill_eq c hr, State.endRecord_kept (r := { r with valid := r.valid ||| m.validate }) (old := r) (State.residentOf_extent hr ▸ hr : (s.filled c).residentOf r.extent = _) (.inl hne)] at ht
  exact State.residentOf_store_none (s := s.filled c) _ _ ht

/-- The start of the FILL of a resident removes no record. -/
theorem State.startPartialFill_spares {s : State} (c : Fin 4) {f : Nat} {r : Resident} (hr : s.residentOf f = some r) :
    s.Spares (State.finish { s.startPartialFill c r with lastKind := .fill }) := by
  refine .of_keeps fun e ht => ?_
  by_cases hm : r.valid ||| r.lost = SegSet.all
  · have hv : r.partialMove.validate = 0#32 := by
      show ~~~(r.valid ||| r.lost) = 0#32
      rw [hm]
      rfl
    have hstart : s.startPartialFill c r =
        ((s.store .tail { r with state := .filling }).setContext c (.fill r.partialMove)).completeFill c r.partialMove :=
      State.produceOrder_completeFill (by
        rw [State.contexts_setContext, set_getElem_fin, if_pos rfl]
        rfl) hv
    have hst : ((s.store .tail { r with state := .filling }).setContext c (.fill r.partialMove)).residentOf
        r.partialMove.extent = some ({ r with state := .filling } : Resident).settled :=
      State.residentOf_store_same (r := { r with state := .filling }) .tail (State.residentOf_extent hr ▸ hr)
    have ht' : (s.startPartialFill c r).residentOf e = none :=
      (State.Ends.finish { s.startPartialFill c r with lastKind := .fill }).residentOf_none.1 ht
    rw [hstart] at ht'
    have hkept := State.completeFill_full hst hv (by rw [Resident.settled_valid, Resident.settled_lost]; exact hm) ht'
    exact State.residentOf_store_none .tail { r with state := .filling } hkept
  · exact State.residentOf_store_none _ _ ((State.startPartialFill_started c hm).spares ht)

/-- The start of the eligible flush removes no record: what stands on the Dirty List is dirty. -/
theorem State.startEligibleFlush_spares (c : Fin 4) (s : State) : s.Spares (s.startEligibleFlush c).finish := by
  intro e r hr ht hs
  exfalso
  unfold State.startEligibleFlush at ht
  split at ht
  · rw [(State.Ends.finish s).residentOf_none, hr] at ht
    cases ht
  · rename_i f hf
    obtain ⟨-, -, hmem, hfl⟩ := State.eligibleFlush_some hf
    obtain ⟨x, hx, -⟩ := State.flushable_iff hfl
    rw [hx] at ht
    obtain ⟨-, -, -, hkeep⟩ := State.startFlush_started c hx (hs.of_dirtyList hmem hx)
    rw [hkeep e ht] at hr
    cases hr

/-- The start of a fresh FILL removes no record. -/
theorem State.startFreshFill_none (c : Fin 4) {e : Nat} (n : Nat) {s : State} (hr : s.residentOf e = none) {x : Nat}
    (hx : (State.finish { s.startFreshFill c e n with lastKind := .fill }).residentOf x = none) :
    s.residentOf x = none := by
  have hx' := (State.startFreshFill_started s c e n).spares hx
  by_cases hxe : x = e
  · exact hxe ▸ hr
  · rw [← State.segmentsOf_eq_none, ← State.segmentsOf_freshened s e n hxe, State.segmentsOf_eq_none]
    exact hx'

/-- What is removed after evictions alone was removable before them. -/
theorem State.Spares.after {s u t : State} (h : State.Becomes { removes := true } s u) (hev : s.Evicts u)
    (k : u.Spares t) : s.Spares t := by
  intro e r hr ht
  rcases hev e with hseg | ⟨-, hgone⟩
  · cases hu : u.residentOf e with
    | none =>
      rw [State.segmentsOf_eq_none.2 hu] at hseg
      rw [State.segmentsOf_eq_none.1 hseg.symm] at hr
      cases hr
    | some x => exact (k e x hu ht).back hseg (h.routes_eq rfl) (h.claims_eq rfl) h.listsFiled
  · exact hgone

/-- The end of the event of a fill's attempts: a FILL started, or the eligible flush is tried. -/
theorem State.tryFills_spares (c : Fin 4) (n : Nat) (passed : List Nat) (s : State) (hs : s.service = .serving) :
    ∀ b t, State.tryFills c n passed s = (b, t) →
      s.Spares (State.finish (if b then t else t.startEligibleFlush c)) := by
  have hflush (s : State) (b : Bool) (t : State) (h : (false, s) = (b, t)) :
      s.Spares (State.finish (if b then t else t.startEligibleFlush c)) := by
    cases h
    exact State.startEligibleFlush_spares c s
  induction n generalizing passed s with
  | zero => exact hflush s
  | succ n ih =>
    unfold State.tryFills
    split
    · exact hflush s
    · rename_i f _
      cases hr : s.residentOf f with
      | some r =>
        rw [State.tryFill_resident hr]
        intro b t h
        cases h
        exact State.startPartialFill_spares c hr
      | none =>
        have hd := State.Becomes.displaced (L := { removes := true }) f s rfl hs
        have hev := State.displaced_evicts f hs
        rcases State.fillSlot_cases f s with h | ⟨m, -, -, h⟩
        · rw [State.tryFill_failed hr h]
          intro b t ht
          exact .after hd hev (ih _ _ (hd.keeps.service.trans hs) b t ht)
        · rw [State.tryFill_fresh hr h]
          intro b t ht
          cases ht
          refine .after hd hev (.of_keeps fun x hx => ?_)
          exact State.startFreshFill_none (s := (s.displaced f).takeSlot m) c m (hd.absent rfl rfl hr) hx

/-- A start event removes no record but by eviction (R94, R95). -/
theorem exec_startEvent_spares {s t : State} (h : exec .startEvent s = .next t) : s.Spares t := by
  have hfill (c : Fin 4) (he : s.eligibleFill ≠ none) : s.Spares (s.startFillElseFlush c).finish := by
    obtain ⟨e, he⟩ := Option.ne_none_iff_exists'.1 he
    have hsv := (State.eligibleFill_some he).1
    have hsp := State.tryFills_spares c (s.promo.length + s.records.length + 1) [] s hsv
    unfold State.startFillElseFlush
    split
    · rename_i u hu
      exact hsp true u hu
    · rename_i u hu
      exact hsp false u hu
  change execStartEvent s = _ at h
  unfold execStartEvent at h
  split at h <;> cases h
  · exact .of_keeps fun _ => id
  · rename_i c _
    unfold State.startMove
    split
    · exact .of_keeps fun _ => (State.Ends.finish s).residentOf_none.1
    · exact State.startEligibleFlush_spares c s
    · rename_i he
      exact hfill c (by rw [he]; simp)
    · rename_i he
      split
      · exact hfill c (by rw [he]; simp)
      · exact State.startEligibleFlush_spares c s

end Sys2Proof.Machine

open Sys2Proof Sys2Proof.Machine in
/-- Settles O39. The attempt that starts is followed through the store of a partial record, or the entry of a fresh one
after the evictions for its slot; every eviction takes a clean record that is neither held nor claimed. -/
theorem aStartEventStartsTheEligibleFill : Obligations.AStartEventStartsTheEligibleFill := by
  unfold Obligations.AStartEventStartsTheEligibleFill
  refine ⟨⟨?_, ?_, ?_⟩, ?_, ?_⟩
  · intro s c e r hc hl he hr hp hm missing move
    have hre := State.residentOf_extent hr
    obtain ⟨t, ht, h⟩ := exec_startEvent_partial hc hl he hp hr hm
    have hst := State.segmentsOf_store_same (r := { r with state := .filling }) .tail (hre ▸ hr)
    subst hre
    refine ⟨t, ht, (h.segmentsOf r.extent).trans hst, fun x hx => ?_, h.lastKind, h.free, ?_, h.placed, h.pending⟩
    · exact (h.segmentsOf x).trans (State.segmentsOf_store_of_ne .tail { r with state := .filling } s hx)
    · rw [h.promo, State.store_promo, if_neg hm]
  · intro s c e n x hc hl he hr hx hp hres hn move
    have hfill := State.fillSlot_of_free (State.eligibleFill_some he).2.2.2 hr hx hres hn
    obtain ⟨t, ht, h⟩ := exec_startEvent_fresh hc hl he hp hr hfill
    obtain ⟨hrec, hseg, hwatch, hfree, hpromo⟩ := h.fresh hr
    have hwat := State.watchOf_passingCatchUp hx
    rw [State.passingCatchUp_eq hx] at hwat
    obtain ⟨hplaced, hpending⟩ := h.fresh_order
    exact ⟨t, _, ht, hrec, rfl, rfl, rfl, rfl, rfl, State.freshRecord_heat n hwat, rfl, hseg, hwatch, hfree, hpromo,
      h.lastKind, h.fresh_stats, hplaced, hpending⟩
  · intro s v c e n k x y hc hl he hr hx hp hres hw ho hq hv hy hn
    have hd := State.displaced_once hr hx hres hw ho hq hv hy
    obtain ⟨t, ht, h⟩ := exec_startEvent_fresh hc hl he hp hr (State.fillSlot_displacedOnce hd hn)
    obtain ⟨hrec, hseg, -, hfree, -⟩ := h.fresh hd.absent
    refine ⟨t, _, ht, (hseg k hd.victim).trans hd.gone, hrec, rfl, rfl, State.freshRecord_heat n hd.watchOf,
      fun z h1 h2 => (hseg z h1).trans (hd.segmentsOf z h2), ?_, h.lastKind, h.fresh_stats.trans hd.evictions, fun b => ?_, ?_⟩
    · exact hfree.trans (congrArg (without n) hd.free)
    · rw [h.clean]
      exact State.clean_freshened ((s.displaced e).takeSlot n) e n hd.clean b
    · exact hd.flash ▸ h.fresh_flash
  · intro s u c e before after hc hl he hr hp hu hq hb next
    have hsv := (State.eligibleFill_some he).1
    obtain ⟨hbec, hev⟩ := State.fillSlot_failed hsv hu
    have husv : u.service = .serving := hbec.keeps.service.trans hsv
    have hctx : u.contexts = s.contexts := hbec.contexts_eq rfl rfl
    rw [← hctx]
    exact ⟨rfl, hbec.lastKind_eq rfl, hbec.tickets_eq rfl, fun x => (hev x).imp id And.left,
      fun f r => exec_startEvent_nextPartial hc hl he hr hp hu hq hb,
      fun f n w => exec_startEvent_nextFresh hc hl he hr hp hu hq hb husv,
      fun f r => exec_startEvent_flushInstead hc hl he hr hp hu hq hb,
      exec_startEvent_nothing hc hl he hr hp hu hq hb⟩
  · intro s t e r hs ht hr hgone
    obtain ⟨hheld, hclaimed, hrec⟩ := exec_startEvent_spares ht e r hr hgone hs
    obtain ⟨hdirty, hstate⟩ := hrec r hr
    exact ⟨hdirty, hstate, hheld, hclaimed⟩

end

section
/-! PROOFS. Epoch steps and catch-up: the decay of the heat, the settling of the band, and the steps an examination
finds owed. -/

namespace Sys2Proof.Machine

/-! ### One epoch step -/

@[simp] theorem decayHeat_zero (d : Nat) : decayHeat d 0 = 0 := rfl

theorem decayHeat_of_pos {d n : Nat} (h : 1 ≤ n) : decayHeat d n = n - max (n / 2 ^ d) 1 :=
  if_neg (Nat.one_le_iff_ne_zero.1 h)

/-- Heat above 0 falls at every step (R26). -/
theorem decayHeat_lt {d n : Nat} (h : 1 ≤ n) : decayHeat d n < n := by
  rw [decayHeat_of_pos h]
  omega

/-- Heat below 2^DECAY falls by 1, since the quotient is 0 (R26). -/
theorem decayHeat_of_lt_pow {d n : Nat} (h : 1 ≤ n) (hd : n < 2 ^ d) : decayHeat d n = n - 1 := by
  rw [decayHeat_of_pos h, Nat.div_eq_of_lt hd]
  rfl

@[simp] theorem Heat.settleTo_heat (g : Settings) (raw : Band) (h : Heat) : (Heat.settleTo g raw h).heat = h.heat := by
  unfold Heat.settleTo
  split
  · rfl
  · split <;> rfl

@[simp] theorem Heat.epochStep_heat (g : Settings) (h : Heat) : (h.epochStep g).heat = decayHeat g.decay h.heat :=
  Heat.settleTo_heat g _ _

/-- The settled band against a raw band: it agrees, it stands while the disagreeing steps are fewer than SETTLE, or it
follows (R28). -/
theorem Heat.settleTo_cases (g : Settings) (raw : Band) (h : Heat) :
    (raw = h.band → (Heat.settleTo g raw h).band = h.band ∧ (Heat.settleTo g raw h).settle = 0) ∧
    (raw ≠ h.band → h.settle + 1 < g.settle →
      (Heat.settleTo g raw h).band = h.band ∧ (Heat.settleTo g raw h).settle = h.settle + 1) ∧
    (raw ≠ h.band → g.settle ≤ h.settle + 1 →
      (Heat.settleTo g raw h).band = raw ∧ (Heat.settleTo g raw h).settle = 0) := by
  unfold Heat.settleTo
  refine ⟨fun hb => ?_, fun hb hs => ?_, fun hb hs => ?_⟩
  · rw [if_pos hb]
    exact ⟨rfl, rfl⟩
  · rw [if_neg hb, if_neg hs.not_ge]
    exact ⟨rfl, rfl⟩
  · rw [if_neg hb, if_pos hs]
    exact ⟨rfl, rfl⟩

/-- A step settles the record to the raw band of its decayed heat (R25). -/
theorem Heat.epochStep_cases (g : Settings) (h : Heat) :
    (g.rawBand (h.epochStep g).heat = h.band → (h.epochStep g).band = h.band ∧ (h.epochStep g).settle = 0) ∧
    (g.rawBand (h.epochStep g).heat ≠ h.band → h.settle + 1 < g.settle →
      (h.epochStep g).band = h.band ∧ (h.epochStep g).settle = h.settle + 1) ∧
    (g.rawBand (h.epochStep g).heat ≠ h.band → g.settle ≤ h.settle + 1 →
      (h.epochStep g).band = g.rawBand (h.epochStep g).heat ∧ (h.epochStep g).settle = 0) := by
  rw [Heat.epochStep_heat]
  exact Heat.settleTo_cases g _ { h with heat := decayHeat g.decay h.heat }

/-- The bands part the heat scale at T1, T2 and T3 (R27). -/
theorem Settings.rawBand_cases (g : Settings) (n : Nat) :
    (n < g.t1 → g.rawBand n = .b0) ∧ (g.t1 ≤ n → n < g.t2 → g.rawBand n = .b1) ∧
    (g.t1 ≤ n → g.t2 ≤ n → n < g.t3 → g.rawBand n = .b2) ∧
    (g.t1 ≤ n → g.t2 ≤ n → g.t3 ≤ n → g.rawBand n = .b3) := by
  unfold Settings.rawBand
  refine ⟨fun h1 => if_pos h1, fun h1 h2 => ?_, fun h1 h2 h3 => ?_, fun h1 h2 h3 => ?_⟩
  · rw [if_neg h1.not_gt, if_pos h2]
  · rw [if_neg h1.not_gt, if_neg h2.not_gt, if_pos h3]
  · rw [if_neg h1.not_gt, if_neg h2.not_gt, if_neg h3.not_gt]

/-! ### Owed steps -/

theorem Heat.epochSteps_heat_le (g : Settings) (n : Nat) (h : Heat) : (Heat.epochSteps g n h).heat ≤ h.heat := by
  induction n generalizing h with
  | zero => exact Nat.le_refl _
  | succ n ih =>
    calc (Heat.epochSteps g n (h.epochStep g)).heat
      _ ≤ (h.epochStep g).heat := ih _
      _ ≤ h.heat := by rw [Heat.epochStep_heat]; exact decayHeat_le _ _

/-- The steps owed are those from the stamp to the epoch, over the counter's wrap where it passed it (R25). -/
theorem Heat.owedSteps_eq {epoch : Nat} {h : Heat} (he : epoch < 65536) (hs : h.stamp < 65536) :
    h.owedSteps epoch = if h.stamp ≤ epoch then epoch - h.stamp else epoch + 65536 - h.stamp := by
  unfold Heat.owedSteps Config.wrap16
  split <;> omega

theorem Heat.caughtUp_of_le {epoch : Nat} {h : Heat} (g : Settings) (ho : h.owedSteps epoch ≤ 64) :
    h.caughtUp g epoch = { Heat.epochSteps g (h.owedSteps epoch) h with stamp := epoch } :=
  if_neg (Nat.not_lt.2 ho)

theorem Heat.caughtUp_of_gt {epoch : Nat} {h : Heat} (g : Settings) (ho : 64 < h.owedSteps epoch) :
    h.caughtUp g epoch = { heat := 0, band := .b0, settle := 0, stamp := epoch } :=
  if_pos ho

/-- An examination without a weight leaves the heat of the steps owed within the forget horizon (R24). -/
theorem State.heatNow_zero_heat {s : State} {h : Heat} (hh : h.heat ≤ 65535) (ho : h.owedSteps s.epoch ≤ 64) :
    (s.heatNow 0 h).heat = (Heat.epochSteps s.settings (h.owedSteps s.epoch) h).heat := by
  unfold State.heatNow
  rw [Heat.caughtUp_of_le _ ho]
  exact Nat.min_eq_left ((Heat.epochSteps_heat_le _ _ _).trans hh)

end Sys2Proof.Machine

open Sys2Proof.Machine in
/-- Settles O48: a step's heat is the decayed heat, whatever the band does; an examination of a record stamped `n`
epochs ago finds `n` steps owed. -/
theorem anEpochStepDecaysTheHeat : Obligations.AnEpochStepDecaysTheHeat := by
  refine ⟨fun g h => ?_, fun s r n hr hn he hs hw hh => ?_⟩
  · rw [Heat.epochStep_heat]
    refine ⟨fun h1 => decayHeat_of_pos h1, fun h0 => by rw [h0, decayHeat_zero], fun h0 => ?_, fun h0 hp => ?_,
      fun hm hd => by rw [hm, hd]; decide, fun hm hd => by rw [hm, hd]; decide, fun h1 hm => ?_, fun n => ⟨rfl, rfl⟩⟩
    · exact decayHeat_lt (Nat.one_le_iff_ne_zero.2 h0)
    · rw [decayHeat_of_lt_pow (Nat.one_le_iff_ne_zero.2 h0) hp]
      omega
    · have := decayHeat_lt (d := g.decay) h1
      omega
  · have ho : r.heat.owedSteps s.epoch = n := by
      rw [Heat.owedSteps_eq he hs]
      split <;> omega
    subst ho
    refine ⟨_, State.residentOf_examineResident 0 hr, ?_⟩
    rw [Resident.settled_heat]
    exact State.heatNow_zero_heat hh hn

open Sys2Proof.Machine in
/-- Settles O49: a step settles the record to the raw band of its decayed heat, and a catch-up compares the steps owed
with the forget horizon. -/
theorem anEpochStepSettlesTheBand : Obligations.AnEpochStepSettlesTheBand := by
  refine ⟨Settings.rawBand_cases, Heat.epochStep_cases, fun g epoch h he hs => ?_⟩
  rw [← Heat.owedSteps_eq he hs]
  exact ⟨Heat.caughtUp_of_le g, Heat.caughtUp_of_gt g⟩
end

section
/-! PROOFS. The epoch timer's expiry: the age sweep as visits of the places from the cursor on. -/

namespace Sys2Proof.Machine

/-! ### A visit and the cursor -/

theorem State.adjustPromo_cursor (k e : Nat) (b : Bool) (s : State) :
    State.adjustPromo e b { s with cursor := k } = { s.adjustPromo e b with cursor := k } := by
  unfold State.adjustPromo
  split
  · dsimp only
    split
    · rfl
    · split <;> rfl
  · rfl

theorem State.examineResident_cursor (k w : Nat) (r : Resident) (s : State) :
    State.examineResident w r { s with cursor := k } = { s.examineResident w r with cursor := k } :=
  State.adjustPromo_cursor k _ _ (s.refiled w r)

theorem State.examineWatched_cursor (k w : Nat) (x : WatchEntry) (s : State) :
    State.examineWatched w x { s with cursor := k } = { s.examineWatched w x with cursor := k } :=
  State.adjustPromo_cursor k _ _ (s.setWatchHeat x.extent (s.heatNow w x.heat))

/-- What a visit of a place examines (R36, R37). -/
theorem State.sweepPlace_cases (s : State) (p : Nat) :
    (∀ r, p < s.slots → s.residentIn p = some r → s.sweepPlace p = s.examineResident 0 r) ∧
    (∀ x, s.slots ≤ p → s.watch.find? (fun w => w.place == p - s.slots) = some x →
      s.sweepPlace p = s.examineWatched 0 x) ∧
    (p < s.slots → s.residentIn p = none → s.sweepPlace p = s) ∧
    (s.slots ≤ p → s.watch.find? (fun w => w.place == p - s.slots) = none → s.sweepPlace p = s) := by
  unfold State.sweepPlace
  refine ⟨fun r hp hr => ?_, fun x hp hx => ?_, fun hp hr => ?_, fun hp hx => ?_⟩
  · rw [if_pos hp, hr]
  · rw [if_neg hp.not_gt, hx]
  · rw [if_pos hp, hr]
  · rw [if_neg hp.not_gt, hx]

/-- A visit examines the same whatever place the cursor names. -/
theorem State.sweepPlace_cursor (k p : Nat) (s : State) :
    State.sweepPlace p { s with cursor := k } = { s.sweepPlace p with cursor := k } := by
  obtain ⟨hres, hwatch, hnoRes, hnoWatch⟩ := s.sweepPlace_cases p
  obtain ⟨hres', hwatch', hnoRes', hnoWatch'⟩ := State.sweepPlace_cases { s with cursor := k } p
  rcases Nat.lt_or_ge p s.slots with hp | hp
  · cases hr : s.residentIn p with
    | none => rw [hnoRes hp hr, hnoRes' hp hr]
    | some r => rw [hres r hp hr, hres' r hp hr, State.examineResident_cursor]
  · cases hx : s.watch.find? (fun w => w.place == p - s.slots) with
    | none => rw [hnoWatch hp hx, hnoWatch' hp hx]
    | some x => rw [hwatch x hp hx, hwatch' x hp hx, State.examineWatched_cursor]

/-! ### The sweep -/

/-- The visit of the cursor's place, and the cursor's move to the next place of the circle (R36). -/
def State.visitNext (s : State) : State :=
  { s.sweepPlace s.cursor with cursor := (s.cursor + 1) % (s.slots + 4096) }

theorem State.sweep_succ (n : Nat) (s : State) : State.sweep (n + 1) s = State.sweep n s.visitNext := rfl

/-- A sweep's last visit comes after a sweep of the others. -/
theorem State.sweep_succ_last (n : Nat) (s : State) : State.sweep (n + 1) s = (State.sweep n s).visitNext := by
  induction n generalizing s with
  | zero => rfl
  | succ n ih => rw [State.sweep_succ, ih, ← State.sweep_succ]

/-- The visits of `n` places of the circle of S + 4,096 from place `k` on; the cursor stands. -/
def State.visitPlaces (k n : Nat) (s : State) : State :=
  (List.range n).foldl (fun u i => u.sweepPlace ((k + i) % (s.slots + 4096))) s

theorem State.visitPlaces_succ (k n : Nat) (s : State) :
    s.visitPlaces k (n + 1) = (s.visitPlaces k n).sweepPlace ((k + n) % (s.slots + 4096)) := by
  unfold State.visitPlaces
  rw [List.range_succ, List.foldl_append]
  rfl

/-- The sweep visits the places from the cursor on, and the cursor goes on behind them (R36). -/
theorem State.sweep_eq_visitPlaces (n : Nat) {s : State} (h : s.cursor < s.slots + 4096) :
    State.sweep n s = { s.visitPlaces s.cursor n with cursor := (s.cursor + n) % (s.slots + 4096) } := by
  induction n with
  | zero =>
    have hc : (s.cursor + 0) % (s.slots + 4096) = s.cursor := Nat.mod_eq_of_lt h
    rw [hc]
    rfl
  | succ n ih =>
    have hslots : (State.sweep n s).slots = s.slots := State.unswept_slots (State.sweep_unswept n s)
    have hnext : ((s.cursor + n) % (s.slots + 4096) + 1) % (s.slots + 4096) = (s.cursor + (n + 1)) % (s.slots + 4096) :=
      Nat.mod_add_mod _ _ _
    rw [State.sweep_succ_last, State.visitNext, hslots, ih, State.sweepPlace_cursor, State.visitPlaces_succ]
    simp only [hnext]

/-! ### The expiry -/

theorem State.retestFill_eq (s : State) :
    s.retestFill = if s.service = .serving then s.demandFor .fill else s := by
  simp [State.retestFill, State.isServing]

/-- The state of an expiry before the sweep: the counter advanced and the next period begun (R34, R35). -/
def State.nextEpoch (s : State) : State :=
  { s with epoch := (s.epoch + 1) % 65536, epochTimer := some s.settings.epochLen }

theorem exec_epochTimerExpiry_stopped {s : State} (h : s.epochTimer = none) : exec .epochTimerExpiry s = .next s := by
  change execEpochTimerExpiry s = _
  simp only [execEpochTimerExpiry, h]

theorem exec_epochTimerExpiry_running {s : State} {n : Nat} (h : s.epochTimer = some n) :
    exec .epochTimerExpiry s = .next (State.sweep 64 s.nextEpoch).retestFill := by
  change execEpochTimerExpiry s = _
  simp only [execEpochTimerExpiry, h]
  rfl

end Sys2Proof.Machine

open Sys2Proof.Machine in
/-- Settles O44: the sweep is the visits of its places one after the other, since no visit depends on the cursor or
changes S. -/
theorem anEpochExpiryVisitsTheNext64Places : Obligations.AnEpochExpiryVisitsTheNext64Places := by
  refine ⟨fun s h => exec_epochTimerExpiry_stopped h, fun s n h hcap => ?_, State.sweepPlace_cases⟩
  have hsweep := State.sweep_eq_visitPlaces 64 (s := s.nextEpoch) hcap.cursor
  have hserv : (State.sweep 64 s.nextEpoch).service = s.service :=
    State.unswept_service (s := s.nextEpoch) (State.sweep_unswept 64 _)
  rw [exec_epochTimerExpiry_running h, State.retestFill_eq, hserv, hsweep]
  rfl
end

section
/-! PROOFS. The policy windows: which extents a window hits, the policy of an extent, and the SETs that write several
fields at once. -/

namespace Sys2Proof.Machine

/-! ### What a window hits -/

/-- An enabled window compares the masked extent with its masked base (R42). -/
theorem PolicyWindow.hits_iff {w : PolicyWindow} {e : Nat} :
    w.hits e = true ↔ w.enable = true ∧ e &&& w.mask = w.base &&& w.mask := by
  simp [PolicyWindow.hits]

theorem PolicyWindow.hits_of_enable {w : PolicyWindow} (h : w.enable = true) (e : Nat) :
    w.hits e = true ↔ e &&& w.mask = w.base &&& w.mask :=
  PolicyWindow.hits_iff.trans (and_iff_right h)

/-- A mask of the bits `k` to `n - 1` clears the `k` low bits of a number of `n` bits. -/
theorem and_highMask {n k e : Nat} (hk : k ≤ n) (he : e < 2 ^ n) : e &&& (2 ^ n - 2 ^ k) = 2 ^ k * (e / 2 ^ k) := by
  have hone : 1 ≤ 2 ^ k := Nat.one_le_two_pow
  have hlt : 2 ^ k - 1 < 2 ^ n := by
    have : 2 ^ k ≤ 2 ^ n := Nat.pow_le_pow_right Nat.two_pos hk
    omega
  refine Nat.eq_of_testBit_eq fun i => ?_
  have hmask : (2 ^ n - 2 ^ k).testBit i = (decide (i < n) && !decide (i < k)) := by
    have := Nat.testBit_two_pow_sub_succ hlt i
    rwa [Nat.sub_add_cancel hone, Nat.testBit_two_pow_sub_one] at this
  rw [Nat.testBit_and, hmask, Nat.testBit_two_pow_mul, Nat.testBit_div_two_pow]
  rcases Nat.lt_or_ge i k with hik | hik
  · simp [hik]
  · rcases Nat.lt_or_ge i n with hin | hin
    · simp [hik, hin]
    · have : e.testBit i = false :=
        Nat.testBit_eq_false_of_lt (he.trans_le (Nat.pow_le_pow_right Nat.two_pos hin))
      simp [hik, this]

/-- A window on the bits from `k` up hits the aligned block of 2^k extents that holds its base (R42). -/
theorem PolicyWindow.hits_block {w : PolicyWindow} {e k : Nat} (h : w.enable = true) (hk : k ≤ 24)
    (he : e ≤ 16777215) (hb : w.base ≤ 16777215) (hm : w.mask = 16777216 - 2 ^ k) :
    w.hits e = true ↔ e / 2 ^ k = w.base / 2 ^ k := by
  have hmask (x : Nat) (hx : x ≤ 16777215) : x &&& w.mask = 2 ^ k * (x / 2 ^ k) :=
    hm ▸ and_highMask (n := 24) hk (Nat.lt_succ_of_le hx)
  rw [PolicyWindow.hits_of_enable h, hmask e he, hmask w.base hb, Nat.mul_right_inj (Nat.two_pow_pos k).ne']

/-! ### The policy of an extent -/

/-- The first window that hits gives the policy (R42). -/
theorem State.policyOf_first {s : State} {e : Nat} {n : Fin 8} (h : s.windows[n].hits e = true)
    (hk : ∀ k : Fin 8, k < n → ¬ s.windows[k].hits e = true) : s.policyOf e = s.windows[n].policy := by
  have hfind : s.windows.toList.find? (fun w => w.hits e) = some s.windows[n] := by
    refine List.find?_eq_some_iff_getElem.2 ⟨h, n, by simp, by simp, fun j hj => ?_⟩
    simpa using hk ⟨j, hj.trans n.isLt⟩ hj
  rw [State.policyOf, hfind]
  rfl

theorem State.policyOf_none {s : State} {e : Nat} (h : ∀ k : Fin 8, ¬ s.windows[k].hits e = true) :
    s.policyOf e = .normal := by
  have hfind : s.windows.toList.find? (fun w => w.hits e) = none := by
    refine List.find?_eq_none.2 fun w hw => ?_
    obtain ⟨i, hi, rfl⟩ := List.mem_iff_getElem.1 hw
    simpa using h ⟨i, by simpa using hi⟩
  rw [State.policyOf, hfind]
  rfl

/-! ### SETs of several fields -/

/-- A request that changes the state beside the links and is answered. -/
theorem takeRequest_answers_changed {s u : State} {p : Port} {c : Instr} {ws : List Word}
    (act : List Word → State → State) (r : Outbound) (h : s.offered p c = some ws) (hl : u.link p = s.link p)
    (ha : act ws (s.popFifo p) = (u.popFifo p).place p r) : takeRequest p c act s = .next (u.answered p r) := by
  have hroom : u.hasRoom p 1 = true := by
    unfold State.hasRoom
    rw [hl]
    exact State.hasRoom_of_offered h
  rw [takeRequest_offered act h, ha, State.answered_eq r hroom]

theorem policyOfCode_value (x : Policy) : policyOfCode x.value = some x := by
  cases x <;> rfl

/-- Only the codes 0 to 3 name a policy (R41). -/
theorem policyOfCode_eq_none {n : Nat} (h : 4 ≤ n) : policyOfCode n = none := by
  obtain ⟨m, rfl⟩ := Nat.exists_eq_add_of_le' h
  rfl

theorem State.takeBands_increasing {t1 t2 t3 : Nat} {ws : List Word} {s : State}
    (h : clamp 1 65535 t1 < clamp 1 65535 t2 ∧ clamp 1 65535 t2 < clamp 1 65535 t3) :
    s.takeBands t1 t2 t3 ws =
      (s.withSettings { s.settings with
          t1 := clamp 1 65535 t1, t2 := clamp 1 65535 t2, t3 := clamp 1 65535 t3 }).answerSet .ok 0 0x03
        (word (clamp 1 65535 t1) :: word (clamp 1 65535 t2) :: word (clamp 1 65535 t3) :: ws.drop 4) :=
  if_pos h

theorem State.takeBands_refused {t1 t2 t3 : Nat} {ws : List Word} {s : State}
    (h : ¬ (clamp 1 65535 t1 < clamp 1 65535 t2 ∧ clamp 1 65535 t2 < clamp 1 65535 t3)) :
    s.takeBands t1 t2 t3 ws = s.refuseSet .badValue 0 0x03 ws :=
  if_neg h

/-- The window that a SET WINDOW writes: base and mask in their low 24 bits (R41). -/
def PolicyWindow.written (base mask : Nat) (x : Policy) (enable : Bool) : PolicyWindow :=
  { base := base % 16777216, mask := mask % 16777216, policy := x, enable := enable }

theorem State.takeWindow_writes {n : Nat} (h : n < 8) (base mask : Nat) (x : Policy) (enable : Bool) (ws : List Word)
    (s : State) :
    s.takeWindow n base mask x.value enable ws =
      State.answerSet .ok n 0x0C
        [word (base % 16777216), word (mask % 16777216), word x.value, word (if enable then 1 else 0)]
        { s with windows := s.windows.set n (.written base mask x enable) h } := by
  unfold State.takeWindow
  rw [policyOfCode_value]
  exact dif_pos h

/-- A window number past 7 or a code that names no policy is refused (R41). -/
theorem State.takeWindow_refused {n policy : Nat} (h : 8 ≤ n ∨ 4 ≤ policy) (base mask : Nat) (enable : Bool)
    (ws : List Word) (s : State) :
    s.takeWindow n base mask policy enable ws = s.refuseSet .badValue n 0x0C ws := by
  unfold State.takeWindow
  split
  · rfl
  · rename_i hp
    have hn : 8 ≤ n := h.resolve_right fun h4 => by simp [policyOfCode_eq_none h4] at hp
    exact dif_neg hn.not_gt

end Sys2Proof.Machine

open Sys2Proof.Machine in
/-- Settles O52: the search through the windows stops at the first hit, and a mask of high bits compares quotients. -/
theorem anExtentTakesThePolicyOfItsFirstMatchingWindow :
    Obligations.AnExtentTakesThePolicyOfItsFirstMatchingWindow := by
  refine ⟨fun s e => ?_, fun w e h => ?_, fun w e h => ?_, fun s t e h => ?_⟩
  · simp only [← PolicyWindow.hits_iff]
    exact ⟨fun n he hm hk => State.policyOf_first (PolicyWindow.hits_iff.2 ⟨he, hm⟩) hk, State.policyOf_none⟩
  · refine ⟨fun hm => ?_, fun he hb hm => ?_, fun hm hb => ?_, fun k hk => PolicyWindow.hits_block h hk⟩
    · rw [PolicyWindow.hits_of_enable h, hm, Nat.and_zero, Nat.and_zero]
    · rw [PolicyWindow.hits_block (k := 0) h (Nat.zero_le _) he hb hm, Nat.pow_zero, Nat.div_one, Nat.div_one]
    · rw [PolicyWindow.hits_of_enable h, hm, hb, Nat.and_one_is_mod, Nat.and_self]
  · rw [PolicyWindow.hits, h, Bool.false_and]
  · rw [State.policyOf, State.policyOf, h]

open Sys2Proof.Machine in
/-- Settles O25: each SET is one answered request, whose change of the state is made whole or not at all. -/
theorem setBandsAndSetWindowWriteAllTheirFieldsOrNone :
    Obligations.SetBandsAndSetWindowWriteAllTheirFieldsOrNone := by
  refine ⟨fun s t1 t2 t3 ws ho => ⟨fun h1 h2 => ?_, fun h => ?_⟩,
    fun s n base mask policy enable ws ho => ⟨fun hn x hx => ?_, fun h => ?_⟩⟩
  · exact takeRequest_answers_changed _ _ ho rfl (State.takeBands_increasing ⟨h1, h2⟩)
  · exact takeRequest_answers _ _ ho (State.takeBands_refused h)
  · subst hx
    exact takeRequest_answers_changed _ _ ho rfl (State.takeWindow_writes hn base mask x enable ws _)
  · exact takeRequest_answers _ _ ho (State.takeWindow_refused h base mask enable ws _)
end

section
/-! PROOFS. The media of a WRITE's segments in a resident extent. -/

namespace Sys2Proof.Machine

theorem getLsbD_segLess (a b : SegSet) {n : Nat} (h : n < 32) :
    (segLess a b).getLsbD n = (a.getLsbD n && !b.getLsbD n) := by
  simp [segLess, h]

theorem Span.getLsbD_touched (sp : Span) {n : Nat} (h : n < 32) : sp.touched.getLsbD n = sp.touchesSeg n := by
  rw [Span.touched, getLsbD_segsWhere, decide_eq_true h, Bool.true_and]

theorem Span.getLsbD_full (sp : Span) {n : Nat} (h : n < 32) : sp.full.getLsbD n = sp.coversSeg n := by
  rw [Span.full, getLsbD_segsWhere, decide_eq_true h, Bool.true_and]

theorem Resident.getLsbD_absent (r : Resident) {n : Nat} (h : n < 32) :
    r.absent.getLsbD n = (!r.valid.getLsbD n && !r.lost.getLsbD n) := by
  simp [Resident.absent, h]

/-- A segment that a span of some sectors covers is one it touches. -/
theorem Span.touchesSeg_of_covers {sp : Span} {n : Nat} (h : sp.coversSeg n = true) : sp.touchesSeg n = true := by
  simp only [Span.coversSeg, Span.touchesSeg, Bool.and_eq_true, decide_eq_true_eq] at h ⊢
  omega

/-- The segments that a WRITE routes to FLASH (R56), one by one. -/
theorem Span.getLsbD_writeFlash (sp : Span) (r : Resident) (policy : Policy) {n : Nat} (h : n < 32) :
    (sp.writeFlash r policy).getLsbD n =
      ((sp.touchesSeg n && r.valid.getLsbD n) || (sp.coversSeg n && r.lost.getLsbD n) ||
        (sp.coversSeg n && !r.valid.getLsbD n && !r.lost.getLsbD n && policy != .bypass)) := by
  unfold Span.writeFlash
  by_cases hp : policy = .bypass
  · simp [hp, sp.getLsbD_touched h, sp.getLsbD_full h]
  · simp only [if_neg hp, BitVec.getLsbD_or, BitVec.getLsbD_and, sp.getLsbD_touched h, sp.getLsbD_full h,
      r.getLsbD_absent h, bne_iff_ne.2 hp, Bool.and_true, Bool.and_assoc]

/-- A lost segment is not valid (R4). -/
theorem Resident.LostApart.getLsbD {r : Resident} (h : r.LostApart) (n : Nat) :
    (r.valid.getLsbD n && r.lost.getLsbD n) = false := by
  rw [← BitVec.getLsbD_and, show r.valid &&& r.lost = 0#32 from h, BitVec.getLsbD_zero]

end Sys2Proof.Machine

open Sys2Proof.Machine in
/-- Settles O14: the decision's sets bit by bit; the cases are those of the table of R56, valid, lost and absent. -/
theorem aWriteChoosesTheMediaOfEachResidentSegment : Obligations.AWriteChoosesTheMediaOfEachResidentSegment := by
  intro sp r policy n hn d touched full valid lost hapart _
  have hflash : d.flash.getLsbD n = _ := sp.getLsbD_writeFlash r policy hn
  have hnone : d.none.getLsbD n = (touched && lost && !sp.coversSeg n) := by
    show (segLess (sp.touched &&& r.lost) sp.full).getLsbD n = _
    rw [getLsbD_segLess _ _ hn, BitVec.getLsbD_and, sp.getLsbD_touched hn, sp.getLsbD_full hn]
  have hdisk : d.disk.getLsbD n = (touched && !d.flash.getLsbD n && !d.none.getLsbD n) := by
    show (segLess (segLess sp.touched d.flash) d.none).getLsbD n = _
    rw [getLsbD_segLess _ _ hn, getLsbD_segLess _ _ hn, sp.getLsbD_touched hn]
  have htouch : sp.coversSeg n = true → touched = true := Span.touchesSeg_of_covers
  have hfull : full = sp.coversSeg n := by
    show (sp.coversSeg n && touched) = _
    cases hc : sp.coversSeg n with
    | false => rfl
    | true => rw [htouch hc, Bool.true_and]
  have hvl : (valid && lost) = false := hapart.getLsbD n
  rw [hdisk, hnone, hflash, hfull]
  rw [show sp.touchesSeg n = touched from rfl, show r.valid.getLsbD n = valid from rfl,
    show r.lost.getLsbD n = lost from rfl]
  generalize sp.coversSeg n = covered at htouch
  generalize touched = t at htouch
  generalize valid = v at hvl
  generalize lost = l at hvl
  rcases policy <;> revert v l t covered <;> decide
end

section
/-! PROOFS. The pieces of an answer: they follow one another through the route's sectors, each with the media that the
decision of its extent gives its segments. -/

namespace Sys2Proof.Machine

/-! ### Pieces that follow one another -/

/-- Pieces that follow one another from sector `a` up to but not including `b`. -/
def Runs : List Piece → Nat → Nat → Prop
  | [], a, b => a = b
  | p :: ps, a, b => p.first = a ∧ Runs ps (a + p.count) b

/-- A sector lies in a piece. -/
def Piece.holds (p : Piece) (x : Nat) : Prop := p.first ≤ x ∧ x < p.first + p.count

theorem Runs.append {l m : List Piece} {a b c : Nat} (h : Runs l a b) (k : Runs m b c) : Runs (l ++ m) a c := by
  induction l generalizing a with
  | nil =>
    cases h
    exact k
  | cons p l ih => exact ⟨h.1, ih h.2⟩

theorem Runs.sum {l : List Piece} {a b : Nat} (h : Runs l a b) : a + (l.map (·.count)).sum = b := by
  induction l generalizing a with
  | nil => exact h
  | cons p l ih =>
    rw [List.map_cons, List.sum_cons, ← Nat.add_assoc]
    exact ih h.2

theorem Runs.isChain {l : List Piece} {a b : Nat} (h : Runs l a b) :
    l.IsChain fun p q => q.first = p.first + p.count := by
  induction l generalizing a with
  | nil => exact .nil
  | cons p l ih =>
    obtain ⟨hp, hl⟩ := h
    refine List.isChain_cons.2 ⟨fun q hq => ?_, ih hl⟩
    cases l with
    | nil => cases hq
    | cons q' l =>
      cases hq
      rw [hl.1, hp]

/-! ### Joining -/

theorem joinPiece_cons (p q : Piece) (l : List Piece) :
    joinPiece p (q :: l) = if p.media = q.media then { p with count := p.count + q.count } :: l else p :: q :: l := rfl

/-- The sectors of a segment put before the pieces that follow keep the pieces following one another. -/
theorem Runs.join {p : Piece} {l : List Piece} {a b : Nat} (h : Runs (p :: l) a b) : Runs (joinPiece p l) a b := by
  cases l with
  | nil => exact h
  | cons q l =>
    obtain ⟨hp, hq, hl⟩ := h
    rw [joinPiece_cons]
    split
    · exact ⟨hp, by rw [← Nat.add_assoc]; exact hl⟩
    · exact ⟨hp, hq, hl⟩

theorem Runs.joined {l : List Piece} {a b : Nat} (h : Runs l a b) : Runs (l.foldr joinPiece []) a b := by
  induction l generalizing a with
  | nil => exact h
  | cons p l ih => exact Runs.join ⟨h.1, ih h.2⟩

/-- Neighbours among joined pieces differ in media. -/
theorem joined_media_ne (l : List Piece) : (l.foldr joinPiece []).IsChain fun p q => p.media ≠ q.media := by
  induction l with
  | nil => exact .nil
  | cons p l ih =>
    rw [List.foldr_cons]
    generalize l.foldr joinPiece [] = m at ih
    cases m with
    | nil => exact .singleton p
    | cons q m =>
      obtain ⟨hq, hm⟩ := List.isChain_cons.1 ih
      rw [joinPiece_cons]
      split
      · rename_i h
        exact List.isChain_cons.2 ⟨fun y hy => h ▸ hq y hy, hm⟩
      · rename_i h
        exact List.isChain_cons.2 ⟨fun y hy => by cases hy; exact h, ih⟩

theorem joinPiece_length_le (p : Piece) (l : List Piece) : (joinPiece p l).length ≤ l.length + 1 := by
  cases l with
  | nil => exact Nat.le_refl _
  | cons q l =>
    rw [joinPiece_cons]
    split <;> simp

theorem joined_length_le (l : List Piece) : (l.foldr joinPiece []).length ≤ l.length := by
  induction l with
  | nil => exact Nat.le_refl _
  | cons p l ih => exact (joinPiece_length_le _ _).trans (Nat.succ_le_succ ih)

/-- Joining keeps the media: of every piece there was, and of no other. -/
theorem exists_media_joinPiece (p : Piece) (l : List Piece) (m : Media) :
    (∃ x ∈ joinPiece p l, x.media = m) ↔ ∃ x ∈ p :: l, x.media = m := by
  cases l with
  | nil => rfl
  | cons q l =>
    rw [joinPiece_cons]
    split
    · rename_i h
      simp [← h]
    · rfl

theorem exists_media_joined (l : List Piece) (m : Media) :
    (∃ x ∈ l.foldr joinPiece [], x.media = m) ↔ ∃ x ∈ l, x.media = m := by
  induction l with
  | nil => rfl
  | cons p l ih =>
    rw [List.foldr_cons, exists_media_joinPiece]
    simp only [List.mem_cons, exists_eq_or_imp, ih]

/-- A sector of a joined piece lies in one of the pieces joined, of the same media. -/
theorem Runs.holds_joinPiece {p y : Piece} {l : List Piece} {a b x : Nat} (h : Runs (p :: l) a b)
    (hy : y ∈ joinPiece p l) (hx : y.holds x) : ∃ z ∈ p :: l, z.holds x ∧ z.media = y.media := by
  cases l with
  | nil => exact ⟨y, hy, hx, rfl⟩
  | cons q l =>
    rw [joinPiece_cons] at hy
    split at hy
    · rename_i hm
      rcases List.mem_cons.1 hy with rfl | hy
      · obtain ⟨hp, hq, -⟩ := h
        obtain ⟨h1, h2⟩ := hx
        dsimp only at h1 h2
        by_cases hlt : x < p.first + p.count
        · exact ⟨p, by simp, ⟨h1, hlt⟩, rfl⟩
        · exact ⟨q, by simp, ⟨by omega, by omega⟩, hm.symm⟩
      · exact ⟨y, by simp [hy], hx, rfl⟩
    · exact ⟨y, hy, hx, rfl⟩

theorem Runs.holds_joined {y : Piece} {l : List Piece} {a b x : Nat} (h : Runs l a b) (hy : y ∈ l.foldr joinPiece [])
    (hx : y.holds x) : ∃ z ∈ l, z.holds x ∧ z.media = y.media := by
  induction l generalizing a y with
  | nil => cases hy
  | cons p l ih =>
    obtain ⟨z, hz, hzx, hzm⟩ := Runs.holds_joinPiece ⟨h.1, h.2.joined⟩ hy hx
    rcases List.mem_cons.1 hz with rfl | hz
    · exact ⟨z, by simp, hzx, hzm⟩
    · obtain ⟨w, hw, hwx, hwm⟩ := ih h.2 hz hzx
      exact ⟨w, by simp [hw], hwx, hwm.trans hzm⟩

/-! ### The pieces of a span -/

/-- Where the sectors of a span below segment `n` end. -/
def Span.edge (sp : Span) (n : Nat) : Nat := min sp.hi (max sp.lo (8 * n))

/-- How many of the segments that a span touches lie below segment `n`, counted from segment 0. -/
def Span.rank (sp : Span) (n : Nat) : Nat := min ((sp.hi + 7) / 8) (max (sp.lo / 8) n)

theorem Decision.runs_range (d : Decision) (h : d.span.lo ≤ d.span.hi) (m k : Nat) :
    Runs (((List.range' k m).filter (fun n => d.span.touchesSeg n)).map d.segPiece)
      (256 * d.span.extent + d.span.edge k) (256 * d.span.extent + d.span.edge (k + m)) := by
  induction m generalizing k with
  | zero => rfl
  | succ m ih =>
    have hk := ih (k + 1)
    rw [show k + 1 + m = k + (m + 1) by omega] at hk
    rw [List.range'_succ, List.filter_cons]
    cases ht : d.span.touchesSeg k with
    | true =>
      simp only [Span.touchesSeg, Bool.and_eq_true, decide_eq_true_eq] at ht
      have hfirst : (d.segPiece k).first = 256 * d.span.extent + d.span.edge k := by
        simp only [Decision.segPiece, Span.edge]
        omega
      have hcount : 256 * d.span.extent + d.span.edge k + (d.segPiece k).count =
          256 * d.span.extent + d.span.edge (k + 1) := by
        simp only [Decision.segPiece, Span.edge]
        omega
      rw [if_pos rfl, List.map_cons]
      exact ⟨hfirst, hcount ▸ hk⟩
    | false =>
      simp only [Span.touchesSeg, Bool.and_eq_false_iff, decide_eq_false_iff_not] at ht
      have hedge : d.span.edge (k + 1) = d.span.edge k := by
        simp only [Span.edge]
        omega
      rw [if_neg (by simp)]
      exact hedge ▸ hk

theorem Span.touched_length (sp : Span) (h : sp.lo ≤ sp.hi) (m k : Nat) :
    ((List.range' k m).filter (fun n => sp.touchesSeg n)).length + sp.rank k ≤ sp.rank (k + m) := by
  induction m generalizing k with
  | zero => simp
  | succ m ih =>
    have hk := ih (k + 1)
    rw [show k + 1 + m = k + (m + 1) by omega] at hk
    rw [List.range'_succ, List.filter_cons]
    cases ht : sp.touchesSeg k with
    | true =>
      simp only [Span.touchesSeg, Bool.and_eq_true, decide_eq_true_eq] at ht
      have hrank : sp.rank (k + 1) = sp.rank k + 1 := by
        simp only [Span.rank]
        omega
      rw [if_pos rfl, List.length_cons]
      omega
    | false =>
      have hrank : sp.rank k ≤ sp.rank (k + 1) := by
        simp only [Span.rank]
        omega
      rw [if_neg (by simp)]
      omega

/-- The pieces of a span's segments follow one another from its first sector to its last. -/
theorem Decision.runs_segPieces (d : Decision) (h : d.span.lo ≤ d.span.hi) (h' : d.span.hi ≤ 256) :
    Runs d.segPieces (256 * d.span.extent + d.span.lo) (256 * d.span.extent + d.span.hi) := by
  have hr := d.runs_range h 32 0
  rw [← List.range_eq_range', show d.span.edge 0 = d.span.lo by simp only [Span.edge]; omega,
    show d.span.edge (0 + 32) = d.span.hi by simp only [Span.edge]; omega] at hr
  exact hr

theorem Decision.segPieces_length (d : Decision) (h : d.span.lo ≤ d.span.hi) :
    d.segPieces.length + d.span.lo / 8 ≤ (d.span.hi + 7) / 8 := by
  have hl := d.span.touched_length h 32 0
  rw [← List.range_eq_range'] at hl
  have h0 : d.span.rank 0 = d.span.lo / 8 := by simp only [Span.rank]; omega
  have h32 : d.span.rank (0 + 32) ≤ (d.span.hi + 7) / 8 := Nat.min_le_left _ _
  have : d.segPieces.length = ((List.range 32).filter (fun n => d.span.touchesSeg n)).length := List.length_map _
  omega

/-- A sector of the piece of a touched segment lies in the span's extent and in that segment. -/
theorem Decision.holds_segPiece {d : Decision} {n x : Nat} (h : d.span.hi ≤ 256) (hx : (d.segPiece n).holds x) :
    x / 256 = d.span.extent ∧ x % 256 / 8 = n := by
  obtain ⟨h1, h2⟩ := hx
  simp only [Decision.segPiece] at h1 h2
  constructor <;> omega

/-! ### The spans of a route -/

/-- A route of 1 to 256 sectors lies in one extent, or in two (R1). -/
theorem routeSpans_cases {lba count : Nat} (h : 1 ≤ count) (h' : count ≤ 256) :
    ((lba + count - 1) / 256 = lba / 256 ∧ lba % 256 + count ≤ 256 ∧
      routeSpans lba count = [{ extent := lba / 256, lo := lba % 256, hi := lba % 256 + count }]) ∨
    ((lba + count - 1) / 256 ≠ lba / 256 ∧ 256 < lba % 256 + count ∧
      routeSpans lba count = [{ extent := lba / 256, lo := lba % 256, hi := 256 },
        { extent := lba / 256 + 1, lo := 0, hi := lba % 256 + count - 256 }]) := by
  unfold routeSpans
  dsimp only
  split
  · rename_i k
    exact .inl ⟨k, by omega, rfl⟩
  · rename_i k
    refine .inr ⟨k, by omega, ?_⟩
    rw [show lba + count - 256 * (lba / 256 + 1) = lba % 256 + count - 256 by omega]

/-- A route's spans hold sectors, of their own extent. -/
theorem routeSpans_bounds {lba count : Nat} (h : 1 ≤ count) (h' : count ≤ 256) {sp : Span}
    (hsp : sp ∈ routeSpans lba count) : sp.lo < sp.hi ∧ sp.hi ≤ 256 := by
  rcases routeSpans_cases (lba := lba) h h' with ⟨-, k, e⟩ | ⟨-, k, e⟩ <;> rw [e] at hsp
  · rw [List.mem_singleton.1 hsp]
    exact ⟨by dsimp only; omega, k⟩
  · simp only [List.mem_cons, List.not_mem_nil, or_false] at hsp
    rcases hsp with rfl | rfl
    · exact ⟨by dsimp only; omega, Nat.le_refl _⟩
    · exact ⟨by dsimp only; omega, by dsimp only; omega⟩

/-- The pieces of a route's segments, before they are joined. -/
theorem runs_of_spans {lba count : Nat} {ds : List Decision} (h : 1 ≤ count) (h' : count ≤ 256)
    (hd : ds.map (fun d => d.span) = routeSpans lba count) :
    Runs (ds.flatMap Decision.segPieces) lba (lba + count) ∧ (ds.flatMap Decision.segPieces).length ≤ 33 := by
  rcases routeSpans_cases (lba := lba) h h' with ⟨-, k, e⟩ | ⟨-, k, e⟩ <;> rw [e] at hd
  · obtain ⟨d, rfl, hs⟩ := List.map_eq_singleton_iff.1 hd
    have hr := d.runs_segPieces (by rw [hs]; dsimp only; omega) (by rw [hs]; exact k)
    have hl := d.segPieces_length (by rw [hs]; dsimp only; omega)
    rw [hs] at hr hl
    dsimp only at hr hl
    rw [show 256 * (lba / 256) + lba % 256 = lba by omega,
      show 256 * (lba / 256) + (lba % 256 + count) = lba + count by omega] at hr
    rw [List.flatMap_singleton]
    exact ⟨hr, by omega⟩
  · obtain ⟨d, ds, rfl, hs, hd⟩ := List.map_eq_cons_iff.1 hd
    obtain ⟨d', rfl, hs'⟩ := List.map_eq_singleton_iff.1 hd
    have hr := d.runs_segPieces (by rw [hs]; dsimp only; omega) (by rw [hs])
    have hr' := d'.runs_segPieces (by rw [hs']; exact Nat.zero_le _) (by rw [hs']; dsimp only; omega)
    have hl := d.segPieces_length (by rw [hs]; dsimp only; omega)
    have hl' := d'.segPieces_length (by rw [hs']; exact Nat.zero_le _)
    rw [hs] at hr hl
    rw [hs'] at hr' hl'
    dsimp only at hr hl hr' hl'
    rw [show 256 * (lba / 256) + lba % 256 = lba by omega] at hr
    rw [show 256 * (lba / 256 + 1) + 0 = 256 * (lba / 256) + 256 by omega,
      show 256 * (lba / 256 + 1) + (lba % 256 + count - 256) = lba + count by omega] at hr'
    rw [List.flatMap_cons, List.flatMap_singleton, List.length_append]
    exact ⟨hr.append hr', by omega⟩

/-- An answer's pieces follow one another through the route. -/
theorem runs_answerPieces {lba count : Nat} {ds : List Decision} (h : 1 ≤ count) (h' : count ≤ 256)
    (hd : ds.map (fun d => d.span) = routeSpans lba count) : Runs (answerPieces ds) lba (lba + count) :=
  (runs_of_spans h h' hd).1.joined

/-! ### The media of a piece -/

theorem Decision.mem_segPieces {d : Decision} {p : Piece} :
    p ∈ d.segPieces ↔ ∃ n, n < 32 ∧ d.span.touchesSeg n = true ∧ d.segPiece n = p := by
  simp only [Decision.segPieces, List.mem_map, List.mem_filter, List.mem_range, and_assoc]

/-- A sector of an answer's piece has the media that its extent's decision gives its segment. -/
theorem media_of_holds {lba count x : Nat} {ds : List Decision} {p : Piece} (h : 1 ≤ count) (h' : count ≤ 256)
    (hd : ds.map (fun d => d.span) = routeSpans lba count) (hp : p ∈ answerPieces ds) (hx : p.holds x) :
    ∃ d ∈ ds, d.span.extent = x / 256 ∧ x % 256 / 8 < 32 ∧ d.span.touchesSeg (x % 256 / 8) = true ∧
      p.media = d.mediaOf (x % 256 / 8) := by
  obtain ⟨z, hz, hzx, hzm⟩ := (runs_of_spans h h' hd).1.holds_joined hp hx
  obtain ⟨d, hdm, hz⟩ := List.mem_flatMap.1 hz
  obtain ⟨n, hn, ht, rfl⟩ := Decision.mem_segPieces.1 hz
  have hspan : d.span ∈ routeSpans lba count := hd ▸ List.mem_map_of_mem hdm
  obtain ⟨h1, h2⟩ := Decision.holds_segPiece (routeSpans_bounds h h' hspan).2 hzx
  exact ⟨d, hdm, h1.symm, h2 ▸ hn, h2.symm ▸ ht, h2.symm ▸ hzm.symm⟩

/-- A media stands in an answer where a decision gives it to a segment. -/
theorem exists_media_answerPieces (ds : List Decision) (m : Media) :
    (∃ p ∈ answerPieces ds, p.media = m) ↔
      ∃ d ∈ ds, ∃ n, n < 32 ∧ d.span.touchesSeg n = true ∧ d.mediaOf n = m := by
  unfold answerPieces
  rw [exists_media_joined]
  simp only [List.mem_flatMap, Decision.mem_segPieces]
  constructor
  · rintro ⟨p, ⟨d, hd, n, hn, ht, rfl⟩, hm⟩
    exact ⟨d, hd, n, hn, ht, hm⟩
  · rintro ⟨d, hd, n, hn, ht, hm⟩
    exact ⟨d.segPiece n, ⟨d, hd, n, hn, ht, rfl⟩, hm⟩

end Sys2Proof.Machine

open Sys2Proof.Machine in
/-- Settles O20: the pieces of the segments follow one another and are at most 33; joining neighbours of one media keeps
that, and leaves no two neighbours of one media. -/
theorem anAnswersPiecesCoverTheRouteExactlyOnce : Obligations.AnAnswersPiecesCoverTheRouteExactlyOnce := by
  intro lba count ds h h' hd ps
  have hruns : Runs ps lba (lba + count) := runs_answerPieces h h' hd
  refine ⟨?_, ?_, by have := hruns.sum; omega, (joined_length_le _).trans (runs_of_spans h h' hd).2⟩
  · cases hps : ps with
    | nil =>
      rw [hps] at hruns
      have : lba = lba + count := hruns
      omega
    | cons p rest =>
      rw [hps] at hruns
      exact ⟨p, rest, rfl, hruns.1⟩
  · refine List.isChain_iff_getElem.2 fun i hi => ⟨?_, ?_⟩
    · exact List.isChain_iff_getElem.1 hruns.isChain i hi
    · exact List.isChain_iff_getElem.1 (joined_media_ne (ds.flatMap Decision.segPieces)) i hi
end

section
/-! SUPPORT. The parts of a routed event: what the examination of the route's extents leaves, what its decisions leave,
and what is recorded at its end. -/

namespace Sys2Proof.Machine

/-! ### The route that is taken -/

/-- What a valid ROUTE's fields say (R50, test 2). -/
theorem validRoute_eq {tag kind lba count : Nat} {q : Parked} (h : validRoute tag kind lba count = some q) :
    ∃ k, routeKindOf kind = some k ∧ q = { tag := tag, kind := k, lba := lba, count := count } ∧ 1 ≤ count ∧
      count ≤ 256 := by
  unfold validRoute at h
  split at h
  · cases h
  · rename_i k hk
    split at h
    · rename_i hc
      simp only [soundRange, Bool.and_eq_true, decide_eq_true_eq] at hc
      obtain ⟨-, ⟨h1, h2⟩, -⟩ := hc
      exact ⟨k, hk, (Option.some.inj h).symm, h1, h2⟩
    · cases h

/-! ### What the examination of a route's extents leaves -/

/-- A state without what the examination of a route's extents changes: the streams, the records and their lists, and the
Watch List. -/
def State.unweighed (s : State) : State :=
  { s.unexamined with streams := Vector.replicate 4 none, streamUse := [], watch := [], touch := [] }

theorem State.unweighed_of_unexamined {s t : State} (h : t.unexamined = s.unexamined) : t.unweighed = s.unweighed := by
  unfold State.unweighed
  rw [h]

theorem State.enterWatch_unweighed (a : ListEnd) (e : Nat) (h : Heat) (s : State) :
    (s.enterWatch a e h).unweighed = s.unweighed := by
  rw [State.enterWatch_eq]
  rfl

theorem State.examineWatched_unweighed (w : Nat) (x : WatchEntry) (s : State) :
    (s.examineWatched w x).unweighed = s.unweighed := by
  rw [State.examineWatched_eq, State.adjustPromo_eq]
  rfl

theorem State.examine_unweighed (w e : Nat) (s : State) : (s.examine w e).unweighed = s.unweighed := by
  unfold State.examine
  split
  · exact State.unweighed_of_unexamined (State.examineResident_unexamined _ _ s)
  · split
    · exact State.examineWatched_unweighed _ _ s
    · rfl

theorem State.weighExtent_unweighed (w e : Nat) (s : State) : (s.weighExtent w e).unweighed = s.unweighed := by
  unfold State.weighExtent
  split
  · exact State.unweighed_of_unexamined (State.examineResident_unexamined _ _ s)
  · split
    · exact State.examineWatched_unweighed _ _ s
    · dsimp only
      split
      · rfl
      · exact State.enterWatch_unweighed _ _ _ s

theorem foldl_keeps_eq {α β : Type} (f : State → α → State) (g : State → β) (h : ∀ s a, g (f s a) = g s) (l : List α)
    (s : State) : g (l.foldl f s) = g s := by
  induction l generalizing s with
  | nil => rfl
  | cons a l ih => exact (ih _).trans (h s a)

theorem State.examineRoute_unweighed (q : Parked) (s : State) : (s.examineRoute q).unweighed = s.unweighed := by
  have hw : (s.weighRoute q).unweighed = s.unweighed :=
    foldl_keeps_eq _ State.unweighed (fun u (sp : Span) => State.weighExtent_unweighed _ _ u) _ _
  unfold State.examineRoute
  split
  · exact hw
  · exact hw
  · exact foldl_keeps_eq _ State.unweighed (fun u (sp : Span) => State.examine_unweighed _ _ u) _ _

section
variable {s t : State} (h : t.unweighed = s.unweighed)
include h

theorem State.unweighed_front : t.front = s.front := (congrArg State.front h : t.unweighed.front = _)
theorem State.unweighed_flash : t.flash = s.flash := (congrArg State.flash h : t.unweighed.flash = _)
theorem State.unweighed_free : t.free = s.free := (congrArg State.free h : t.unweighed.free = _)
theorem State.unweighed_fences : t.fences = s.fences := (congrArg State.fences h : t.unweighed.fences = _)
theorem State.unweighed_contexts : t.contexts = s.contexts := (congrArg State.contexts h : t.unweighed.contexts = _)
theorem State.unweighed_tickets : t.tickets = s.tickets := (congrArg State.tickets h : t.unweighed.tickets = _)
theorem State.unweighed_flashOwed : t.flashOwed = s.flashOwed := (congrArg State.flashOwed h : t.unweighed.flashOwed = _)
theorem State.unweighed_routes : t.routes = s.routes := (congrArg State.routes h : t.unweighed.routes = _)
theorem State.unweighed_stats : t.stats = s.stats := (congrArg State.stats h : t.unweighed.stats = _)
theorem State.unweighed_parked : t.parked = s.parked := (congrArg State.parked h : t.unweighed.parked = _)
theorem State.unweighed_settings : t.settings = s.settings := (congrArg State.settings h : t.unweighed.settings = _)
theorem State.unweighed_sizes : t.sizes = s.sizes := (congrArg State.sizes h : t.unweighed.sizes = _)
theorem State.unweighed_windows : t.windows = s.windows := (congrArg State.windows h : t.unweighed.windows = _)
theorem State.unweighed_epoch : t.epoch = s.epoch := (congrArg State.epoch h : t.unweighed.epoch = _)
theorem State.unweighed_spindle : t.spindle = s.spindle := (congrArg State.spindle h : t.unweighed.spindle = _)
theorem State.unweighed_policyOf (e : Nat) : t.policyOf e = s.policyOf e := by
  simp only [State.policyOf, State.unweighed_windows h]

end

/-! ### The records after an examination -/

/-- A record after examinations: its segments and its state stand, and no mark appears. -/
structure Resident.Reheated (r r' : Resident) : Prop where
  eq : r' = { r with heat := r'.heat, pinned := r'.pinned, classified := r'.classified, drainMark := r'.drainMark
                     retries := r'.retries, stuck := r'.stuck }
  drainMark : r.drainMark = false → r'.drainMark = false

namespace Resident.Reheated

variable {r r' : Resident}

theorem refl (r : Resident) : r.Reheated r := ⟨rfl, id⟩

theorem trans {r'' : Resident} (h : r.Reheated r') (k : r'.Reheated r'') : r.Reheated r'' :=
  ⟨by rw [k.eq, h.eq], fun m => k.drainMark (h.drainMark m)⟩

variable (h : r.Reheated r')
include h

theorem extent : r'.extent = r.extent := by rw [h.eq]
theorem slot : r'.slot = r.slot := by rw [h.eq]
theorem state : r'.state = r.state := by rw [h.eq]
theorem valid : r'.valid = r.valid := by rw [h.eq]
theorem dirty : r'.dirty = r.dirty := by rw [h.eq]
theorem lost : r'.lost = r.lost := by rw [h.eq]

end Resident.Reheated

theorem State.caughtUpRecord_reheated (w : Nat) (r : Resident) (s : State) :
    r.Reheated (s.caughtUpRecord w r).settled := by
  constructor
  · rw [Resident.settled_eq]
    rfl
  · intro h
    rw [Resident.settled_eq]
    show (if r.dirty = 0#32 then false else r.drainMark) = false
    rw [h, ite_self]

/-- Every extent's record stands, reheated; an extent that is not resident stays so. -/
structure State.Reheats (s t : State) : Prop where
  absent : ∀ e, s.residentOf e = none → t.residentOf e = none
  resident : ∀ e r, s.residentOf e = some r → ∃ r', t.residentOf e = some r' ∧ r.Reheated r'

namespace State.Reheats

variable {s t u : State}

theorem of_records (h : t.records = s.records) : s.Reheats t :=
  ⟨fun e k => (State.residentOf_congr h e).trans k, fun e r k => ⟨r, (State.residentOf_congr h e).trans k, .refl r⟩⟩

theorem refl (s : State) : s.Reheats s := of_records rfl

theorem trans (h : s.Reheats t) (k : t.Reheats u) : s.Reheats u := by
  refine ⟨fun e m => k.absent e (h.absent e m), fun e r m => ?_⟩
  obtain ⟨r', m', hr⟩ := h.resident e r m
  obtain ⟨r'', m'', hr'⟩ := k.resident e r' m'
  exact ⟨r'', m'', hr.trans hr'⟩

theorem foldl {α : Type} (f : State → α → State) (h : ∀ (s : State) (a : α), s.Reheats (f s a)) (l : List α) (s : State) :
    s.Reheats (l.foldl f s) := by
  induction l generalizing s with
  | nil => exact refl s
  | cons a l ih => exact (h s a).trans (ih _)

theorem segmentsOf (h : s.Reheats t) (e : Nat) : t.segmentsOf e = s.segmentsOf e := by
  cases hr : s.residentOf e with
  | none => rw [State.segmentsOf_eq_none.2 hr, State.segmentsOf_eq_none.2 (h.absent e hr)]
  | some r =>
    obtain ⟨r', hr', k⟩ := h.resident e r hr
    rw [State.segmentsOf_of_resident hr, State.segmentsOf_of_resident hr', k.slot, k.state, k.valid, k.dirty, k.lost]

theorem isSome (h : s.Reheats t) (e : Nat) : t.residentOf e = none ↔ s.residentOf e = none := by
  rw [← State.segmentsOf_eq_none, h.segmentsOf, State.segmentsOf_eq_none]

end State.Reheats

theorem State.residentOf_examineResident_of_ne {s : State} {r : Resident} {e : Nat} (w : Nat) (h : e ≠ r.extent) :
    (s.examineResident w r).residentOf e = s.residentOf e := by
  rw [State.examineResident_eq, State.residentOf_congr (State.adjustPromo_records _ _ _)]
  exact State.residentOf_store_of_ne _ (s.caughtUpRecord w r) s h

theorem State.examineResident_reheats {s : State} {r : Resident} (w : Nat) (h : s.residentOf r.extent = some r) :
    s.Reheats (s.examineResident w r) := by
  have hsame := State.residentOf_examineResident w h
  refine ⟨fun e k => ?_, fun e x k => ?_⟩
  · have : e ≠ r.extent := by
      rintro rfl
      rw [h] at k
      cases k
    exact (State.residentOf_examineResident_of_ne w this).trans k
  · by_cases he : e = r.extent
    · subst he
      rw [h] at k
      cases k
      exact ⟨_, hsame, State.caughtUpRecord_reheated w r s⟩
    · exact ⟨x, (State.residentOf_examineResident_of_ne w he).trans k, .refl x⟩

theorem State.examineWatched_records (w : Nat) (x : WatchEntry) (s : State) : (s.examineWatched w x).records = s.records := by
  rw [State.examineWatched_eq, State.adjustPromo_records]
  rfl

theorem State.examine_reheats (w e : Nat) (s : State) : s.Reheats (s.examine w e) := by
  unfold State.examine
  split
  · rename_i r hr
    exact State.examineResident_reheats w (State.residentOf_extent hr ▸ hr)
  · split
    · exact .of_records (State.examineWatched_records _ _ s)
    · exact .refl s

theorem State.weighExtent_reheats (w e : Nat) (s : State) : s.Reheats (s.weighExtent w e) := by
  unfold State.weighExtent
  split
  · rename_i r hr
    exact State.Reheats.trans (State.examineResident_reheats _ (State.residentOf_extent hr ▸ hr)) (.of_records rfl)
  · split
    · exact .of_records (State.examineWatched_records _ _ s)
    · dsimp only
      split
      · exact .refl s
      · exact .of_records (State.enterWatch_records _ _ _ s)

theorem State.examineRoute_reheats (q : Parked) (s : State) : s.Reheats (s.examineRoute q) := by
  have hw : s.Reheats (s.weighRoute q) :=
    .trans (t := (s.classify q.lba q.count).2) (.of_records rfl)
      (.foldl _ (fun u (sp : Span) => State.weighExtent_reheats _ _ u) _ _)
  unfold State.examineRoute
  split
  · exact hw
  · exact hw
  · exact .foldl _ (fun u (sp : Span) => State.examine_reheats _ _ u) _ _

/-! ### What the decisions leave -/

/-- A state without what the decisions of a route change: what a removal changes, the streams, the moves, and the
evictions counted. -/
def State.undecided (s : State) : State :=
  { s.unremoved with streams := Vector.replicate 4 none, streamUse := [], contexts := Vector.replicate 4 .idle
                     stats := { s.stats with evictions := 0 } }

theorem State.undecided_of_unremoved {s t : State} (h : t.unremoved = s.unremoved) : t.undecided = s.undecided := by
  have hs : t.stats = s.stats := State.unremoved_stats h
  unfold State.undecided
  rw [h, hs]

theorem State.undecided_of_unweighed {s t : State} (h : t.unweighed = s.unweighed) : t.undecided = s.undecided :=
  (congrArg State.undecided h : t.unweighed.undecided = s.unweighed.undecided)

theorem State.walk_unweighed (x : List Nat) (b : List Band) (n : Nat) (s : State) :
    (s.walk x b n).2.unweighed = s.unweighed := by
  induction n generalizing s with
  | zero => rfl
  | succ n ih =>
    unfold State.walk
    split
    · rfl
    · dsimp only
      split
      · exact State.examine_unweighed _ _ s
      · exact (ih _).trans (State.examine_unweighed _ _ s)

theorem State.victim_unweighed (x : List Nat) (c : Option Band) (s : State) : (s.victim x c).2.unweighed = s.unweighed := by
  have hw := State.walk_unweighed x (bandsUpTo c) (s.clean.size + 1) s
  unfold State.victim
  split
  · rename_i h; rw [h] at hw; exact hw
  · rename_i h; rw [h] at hw
    split
    · exact (State.unweighed_of_unexamined (State.pinScan_unexamined _ _ _ _)).trans hw
    · exact hw

theorem State.evict_undecided (f : SlotFate) (r : Resident) (s : State) : (s.evict f r).undecided = s.undecided :=
  State.undecided_of_unremoved (t := s.remove f r) (State.remove_unremoved f r s)

theorem State.absorbSlot_undecided (x : List Nat) (s : State) : (s.absorbSlot x).2.undecided = s.undecided := by
  have hv := State.undecided_of_unweighed (State.victim_unweighed x (some .b3) s)
  rcases State.absorbSlot_cases x s with ⟨n, -, k⟩ | ⟨-, k⟩ | ⟨e, t, r, -, hvict, -, k⟩ <;> rw [k]
  · rfl
  · exact hv
  · rw [hvict] at hv
    exact (State.evict_undecided _ _ _).trans hv

theorem State.writeAbsent_undecided (x : List Nat) (sp : Span) (s : State) :
    (s.writeAbsent x sp).2.undecided = s.undecided := by
  have h := State.absorbSlot_undecided x s
  unfold State.writeAbsent
  split
  · rfl
  · split
    · rename_i k; rw [k] at h; exact h
    · rename_i k; rw [k] at h; exact h

theorem State.decideSpan_undecided (k : RouteKind) (x : List Nat) (sp : Span) (s : State) :
    (s.decideSpan k x sp).2.undecided = s.undecided := by
  unfold State.decideSpan
  split
  · split <;> rfl
  · split
    · rfl
    · exact State.writeAbsent_undecided x sp s
  · unfold State.trimExtent
    split
    · dsimp only
      split <;> rfl
    · rfl

theorem State.decideSpans_undecided (k : RouteKind) (x : List Nat) (sps : List Span) (s : State) :
    (s.decideSpans k x sps).2.undecided = s.undecided := by
  induction sps generalizing s with
  | nil => rfl
  | cons sp sps ih => exact (ih _).trans (State.decideSpan_undecided k x sp s)

theorem State.trimMark_undecided (d : Decision) (s : State) : (s.trimMark d).undecided = s.undecided := by
  unfold State.trimMark
  split
  · rfl
  · unfold State.place
    split <;> rfl

theorem State.endTrim_undecided (ds : List Decision) (s : State) : (s.endTrim ds).undecided = s.undecided :=
  (State.undecided_of_unremoved (State.retireEmpties_unremoved _ _)).trans
    (foldl_keeps_eq _ State.undecided (fun u d => State.trimMark_undecided d u) ds s)

section
variable {s t : State} (h : t.undecided = s.undecided)
include h

theorem State.undecided_front : t.front = s.front := (congrArg State.front h : t.undecided.front = _)
theorem State.undecided_routes : t.routes = s.routes := (congrArg State.routes h : t.undecided.routes = _)
theorem State.undecided_parked : t.parked = s.parked := (congrArg State.parked h : t.undecided.parked = _)
theorem State.undecided_spindle : t.spindle = s.spindle := (congrArg State.spindle h : t.undecided.spindle = _)
theorem State.undecided_windows : t.windows = s.windows := (congrArg State.windows h : t.undecided.windows = _)
theorem State.undecided_stats : { t.stats with evictions := 0 } = { s.stats with evictions := 0 } :=
  (congrArg State.stats h : t.undecided.stats = _)
theorem State.undecided_policyOf (e : Nat) : t.policyOf e = s.policyOf e := by
  simp only [State.policyOf, State.undecided_windows h]

end

/-- Each span has its decision. -/
theorem State.decideSpan_span (k : RouteKind) (x : List Nat) (sp : Span) (s : State) :
    (s.decideSpan k x sp).1.span = sp := by
  unfold State.decideSpan
  split
  · split <;> rfl
  · split
    · rfl
    · unfold State.writeAbsent
      split
      · rfl
      · split <;> rfl
  · unfold State.trimExtent
    split <;> rfl

theorem State.decideSpans_spans (k : RouteKind) (x : List Nat) (sps : List Span) (s : State) :
    (s.decideSpans k x sps).1.map (fun d => d.span) = sps := by
  induction sps generalizing s with
  | nil => rfl
  | cons sp sps ih => exact congrArg₂ List.cons (State.decideSpan_span k x sp s) (ih _)

/-! ### The record of a route -/

/-- The state in which a route is recorded: after the retirements of a TRIM (R53, part 4). -/
def State.trimEnded (q : Parked) (ds : List Decision) (s : State) : State := if q.kind = .trim then s.endTrim ds else s

theorem State.trimEnded_of_ne {q : Parked} (h : q.kind ≠ .trim) (ds : List Decision) (s : State) : s.trimEnded q ds = s :=
  if_neg h

theorem State.trimEnded_undecided (q : Parked) (ds : List Decision) (s : State) :
    (s.trimEnded q ds).undecided = s.undecided := by
  unfold State.trimEnded
  split
  · exact State.endTrim_undecided ds s
  · rfl

/-- Parts 5 and 6 of a routed event, with a place for the answer (R53, R66, R71, R147). -/
theorem State.recordRoute_eq {q : Parked} {ds : List Decision} {s : State}
    (h : (s.trimEnded q ds).hasRoom .front 1 = true) :
    let t := s.trimEnded q ds
    s.recordRoute q ds =
      { t with
        routes := insertBy (·.tag) (routeEntry q ds) t.routes
        front := { t.front with
          out := t.front.out ++ [.routeAnswer .ok q.tag (t.forcedWake ds) (routePieces q.kind ds)] }
        stats := t.stats.routed q.kind (routePieces q.kind ds) ((ds.map (fun d => segCount d.absorbed)).sum)
          (t.forcedWake ds)
        adviceTimer := (s.recordRoute q ds).adviceTimer } := by
  intro t
  have hplace : State.place .front (.routeAnswer .ok q.tag (t.forcedWake ds) (routePieces q.kind ds))
      { t with routes := insertBy (·.tag) (routeEntry q ds) t.routes } =
      { t with
        routes := insertBy (·.tag) (routeEntry q ds) t.routes
        front := { t.front with
          out := t.front.out ++ [.routeAnswer .ok q.tag (t.forcedWake ds) (routePieces q.kind ds)] } } :=
    State.place_of_room _ h
  have hv : s.recordRoute q ds =
      (if (routeEntry q ds).disk then State.armAdvice else id)
        { t with
          routes := insertBy (·.tag) (routeEntry q ds) t.routes
          front := { t.front with
            out := t.front.out ++ [.routeAnswer .ok q.tag (t.forcedWake ds) (routePieces q.kind ds)] }
          stats := t.stats.routed q.kind (routePieces q.kind ds) ((ds.map (fun d => segCount d.absorbed)).sum)
            (t.forcedWake ds) } := by
    unfold State.recordRoute
    dsimp only
    rw [show (if q.kind = .trim then s.endTrim ds else s) = t from rfl, hplace]
    split <;> rfl
  rw [hv]
  split
  · rw [State.armAdvice_eq]
  · rfl

/-- `t` comes of `v` by the record of a route with its decisions, and the end of the event. -/
structure State.Recorded (q : Parked) (ds : List Decision) (v t : State) : Prop where
  routes : t.routes = insertBy (·.tag) (routeEntry q ds) v.routes
  front : v.front.out ++ [.routeAnswer .ok q.tag (v.forcedWake ds) (routePieces q.kind ds)] <+: t.front.out
  fifo : t.front.fifo = v.front.fifo
  flash : v.flash.out <+: t.flash.out
  stats : t.stats = { v.stats.routed q.kind (routePieces q.kind ds) ((ds.map (fun d => segCount d.absorbed)).sum)
    (v.forcedWake ds) with spinUpDemands := t.stats.spinUpDemands }
  segmentsOf : ∀ e, t.segmentsOf e = v.segmentsOf e
  resident : ∀ e r, v.residentOf e = some r →
    ∃ m, t.residentOf e = some { r with drainMark := m } ∧ (r.drainMark = false → m = false)
  watch : t.watch = v.watch
  touch : t.touch = v.touch
  promo : t.promo = v.promo
  free : t.free = v.free
  clean : t.clean = v.clean
  dirtyList : t.dirtyList = v.dirtyList
  fences : t.fences = v.fences
  contexts : t.contexts = v.contexts
  tickets : t.tickets = v.tickets
  flashOwed : t.flashOwed = v.flashOwed
  parked : t.parked = v.parked
  settings : t.settings = v.settings
  sizes : t.sizes = v.sizes
  windows : t.windows = v.windows
  epoch : t.epoch = v.epoch
  spindle : t.spindle = v.spindle

theorem Stats.eq_of_rest {c d : Stats} (h : { c with spinUpDemands := 0 } = { d with spinUpDemands := 0 }) :
    c = { d with spinUpDemands := c.spinUpDemands } := by
  cases c
  cases d
  simp only [Stats.mk.injEq] at h ⊢
  simpa using h

theorem State.recorded {q : Parked} {ds : List Decision} {s : State} (h : (s.trimEnded q ds).hasRoom .front 1 = true) :
    State.Recorded q ds (s.trimEnded q ds) (s.recordRoute q ds).finish := by
  have heq := State.recordRoute_eq h
  have hends := State.Ends.finish (s.recordRoute q ds)
  dsimp only at heq
  generalize s.recordRoute q ds = w at heq hends
  generalize s.trimEnded q ds = v at heq
  have hk := hends.keeps
  refine
    { routes := hends.routes.trans (by rw [heq]), front := ?_, fifo := hk.front.fifo.trans (by rw [heq]), flash := ?_
      stats := ?_, segmentsOf := fun e => (hends.segmentsOf e).trans ?_, resident := fun e r hr => ?_
      watch := hends.watch.trans (by rw [heq]), touch := hends.touch.trans (by rw [heq])
      promo := hends.promo.trans (by rw [heq]), free := hends.free.trans (by rw [heq])
      clean := hends.clean.trans (by rw [heq]), dirtyList := hends.dirtyList.trans (by rw [heq])
      fences := hends.fences.trans (by rw [heq]), contexts := hends.contexts.trans (by rw [heq])
      tickets := hends.tickets.trans (by rw [heq]), flashOwed := hends.flashOwed.trans (by rw [heq])
      parked := hk.parked.trans (by rw [heq]), settings := hk.settings.trans (by rw [heq])
      sizes := hk.sizes.trans (by rw [heq]), windows := hk.windows.trans (by rw [heq])
      epoch := hk.epoch.trans (by rw [heq]), spindle := hk.spindle.trans (by rw [heq]) }
  · have hf := hk.front.out
    rwa [congrArg State.front heq] at hf
  · have hf := hk.flash.out
    rwa [congrArg State.flash heq] at hf
  · refine Stats.eq_of_rest (hends.stats.trans ?_)
    rw [congrArg State.stats heq]
  · exact State.segmentsOf_congr (congrArg State.records heq) e
  · have hw : w.residentOf e = some r := (State.residentOf_congr (congrArg State.records heq) e).trans hr
    obtain ⟨m, h1, -, h2⟩ := hends.residentOf hw
    exact ⟨m, h1, h2⟩

theorem State.Recorded.advance {q : Parked} {ds : List Decision} {v t : State} (h : State.Recorded q ds v t) :
    State.Recorded q ds v (t.advance .front) := { h with }

/-! ### The routed event -/

/-- The decisions of a route, and the state after them. -/
def State.decided (q : Parked) (s : State) : List Decision × State := (s.examineRoute q).decideRoute q

theorem State.decided_undecided (q : Parked) (s : State) : (s.decided q).2.undecided = s.undecided :=
  (State.decideSpans_undecided _ _ _ _).trans (State.undecided_of_unweighed (State.examineRoute_unweighed q s))

theorem State.decided_spans (q : Parked) (s : State) :
    (s.decided q).1.map (fun d => d.span) = routeSpans q.lba q.count :=
  State.decideSpans_spans _ _ _ _

/-- A routed event, with a place for the answer (R53). -/
theorem State.routed_recorded {q : Parked} {s : State} (h : s.hasRoom .front 1 = true) :
    State.Recorded q (s.decided q).1 ((s.decided q).2.trimEnded q (s.decided q).1) (s.routed q) := by
  refine State.recorded ?_
  have hf := State.undecided_front ((State.trimEnded_undecided q (s.decided q).1 (s.decided q).2).trans
    (State.decided_undecided q s))
  unfold State.hasRoom at h ⊢
  rw [show State.link _ .front = _ from hf]
  exact h

/-- A ROUTE that is taken and routed, as an event on the state without the request. -/
theorem exec_route_recorded {s : State} {tag kind lba count : Nat} {q : Parked} {ws : List Word}
    (hv : s.service = .serving) (hq : validRoute tag kind lba count = some q) (ht : s.tagInUse tag = false)
    (hp : s.routeParks q = false) (ho : s.offered .front (.route tag kind lba count) = some ws) :
    ∃ t, exec (.route tag kind lba count) s = .next t ∧
      State.Recorded q ((s.popFifo .front).decided q).1
        (((s.popFifo .front).decided q).2.trimEnded q ((s.popFifo .front).decided q).1) t :=
  ⟨_, exec_route_routed hv hq ho ht hp, (State.routed_recorded
    (by rw [State.hasRoom_popFifo]; exact State.hasRoom_of_offered ho)).advance⟩

end Sys2Proof.Machine
end

section
/-! PROOFS. The re-admission of a parked route, and the taking of a READ. -/

namespace Sys2Proof.Machine

/-! ### The decisions of a READ -/

/-- What a READ decides for a span, by the map as it stands (R55). -/
def State.readOf (s : State) (sp : Span) : Decision :=
  match s.residentOf sp.extent with
  | some r => sp.readDecision r
  | none => sp.allDisk false

theorem State.readOf_resident {s : State} {sp : Span} {r : Resident} (h : s.residentOf sp.extent = some r) :
    s.readOf sp = sp.readDecision r := by
  unfold State.readOf
  rw [h]

theorem State.readOf_absent {s : State} {sp : Span} (h : s.residentOf sp.extent = none) :
    s.readOf sp = sp.allDisk false := by
  unfold State.readOf
  rw [h]

/-- A READ's decision asks for a record's slot and segments alone. -/
theorem Span.readDecision_reheated (sp : Span) {r r' : Resident} (h : r.Reheated r') :
    sp.readDecision r' = sp.readDecision r := by
  unfold Span.readDecision Resident.absent
  rw [h.slot, h.valid, h.lost]

theorem State.Reheats.readOf {s t : State} (h : s.Reheats t) (sp : Span) : t.readOf sp = s.readOf sp := by
  cases hr : s.residentOf sp.extent with
  | none => rw [State.readOf_absent hr, State.readOf_absent (h.absent _ hr)]
  | some r =>
    obtain ⟨r', hr', k⟩ := h.resident _ r hr
    rw [State.readOf_resident hr, State.readOf_resident hr', sp.readDecision_reheated k]

theorem State.decideSpan_read (x : List Nat) (sp : Span) (s : State) : s.decideSpan .read x sp = (s.readOf sp, s) := by
  cases hr : s.residentOf sp.extent with
  | none =>
    rw [State.readOf_absent hr]
    simp only [State.decideSpan, hr]
  | some r =>
    rw [State.readOf_resident hr]
    simp only [State.decideSpan, hr]

theorem State.decideSpans_read (x : List Nat) (sps : List Span) (s : State) :
    s.decideSpans .read x sps = (sps.map s.readOf, s) := by
  induction sps with
  | nil => rfl
  | cons sp sps ih =>
    rw [State.decideSpans, State.decideSpan_read]
    dsimp only
    rw [ih]
    rfl

/-- A READ is decided from the map as it stands, and changes nothing of it (R55). -/
theorem State.decided_read {q : Parked} (h : q.kind = .read) (s : State) :
    s.decided q = ((routeSpans q.lba q.count).map s.readOf, s.examineRoute q) := by
  unfold State.decided State.decideRoute
  rw [h]
  dsimp only
  rw [State.decideSpans_read]
  exact congrArg (·, s.examineRoute q) (List.map_congr_left fun sp _ => (State.examineRoute_reheats q s).readOf sp)

/-- Only a WRITE absorbs, or fails to. -/
theorem State.decideSpans_no_absorb {k : RouteKind} (hk : k ≠ .write) (x : List Nat) (sps : List Span) (s : State) :
    ∀ d ∈ (s.decideSpans k x sps).1, d.failed = false ∧ d.absorbed = 0#32 := by
  have hone (sp : Span) (s : State) : (s.decideSpan k x sp).1.failed = false ∧ (s.decideSpan k x sp).1.absorbed = 0#32 := by
    unfold State.decideSpan
    split
    · split <;> exact ⟨rfl, rfl⟩
    · exact absurd rfl hk
    · unfold State.trimExtent
      split <;> exact ⟨rfl, rfl⟩
  induction sps generalizing s with
  | nil => exact nofun
  | cons sp sps ih =>
    intro d hd
    rcases List.mem_cons.1 hd with rfl | hd
    · exact hone sp s
    · exact ih _ d hd

/-- No sector is counted as absorbed where nothing was. -/
theorem absorbed_sum_eq_zero {ds : List Decision} (h : ∀ d ∈ ds, d.absorbed = 0#32) :
    (ds.map fun d => segCount d.absorbed).sum = 0 := by
  refine List.sum_eq_zero fun n hn => ?_
  obtain ⟨d, hd, rfl⟩ := List.mem_map.1 hn
  rw [h d hd]
  decide

theorem State.forcedWake_of_none {ds : List Decision} (h : ∀ d ∈ ds, d.failed = false) (s : State) :
    s.forcedWake ds = false := by
  unfold State.forcedWake
  rw [show ds.any (fun d => d.failed) = false from List.any_eq_false.2 fun d hd => by simp [h d hd], Bool.and_false]

/-! ### The Route Table entry and the counters -/

theorem routeSpans_head (lba count : Nat) : ((routeSpans lba count)[0]?.map (·.extent)).getD 0 = lba / 256 := by
  unfold routeSpans
  dsimp only
  split <;> rfl

/-- The first extent of an entry is the route's first (R15). -/
theorem routeEntry_first {q : Parked} {ds : List Decision} (h : ds.map (fun d => d.span) = routeSpans q.lba q.count) :
    (routeEntry q ds).first = q.lba / 256 := by
  rw [← routeSpans_head q.lba q.count, ← h, List.getElem?_map, Option.map_map]
  rfl

theorem State.undecided_routed {s t : State} (h : t.undecided = s.undecided) (k : RouteKind) (ps : List Piece) (n : Nat)
    (b : Bool) : (t.stats.routed k ps n b).routes = min (s.stats.routes + 1) 4294967295 ∧
      (t.stats.routed k ps n b).forcedWakes = if b then min (s.stats.forcedWakes + 1) 4294967295 else s.stats.forcedWakes := by
  have hr : t.stats.routes = s.stats.routes := (congrArg Stats.routes (State.undecided_stats h) :)
  have hf : t.stats.forcedWakes = s.stats.forcedWakes := (congrArg Stats.forcedWakes (State.undecided_stats h) :)
  rw [← hr, ← hf]
  exact ⟨rfl, rfl⟩

/-! ### The re-admission of a parked route -/

/-- A re-admissible route that the arbiter takes has a place for its answer (R173). -/
theorem State.hasRoom_of_readmitted {s : State} {q : Parked} (ha : s.arbiter = some .front)
    (hq : s.readmissible = some q) : s.hasRoom .front 1 = true := by
  have hr := State.ready_of_arbiter ha
  simp only [State.ready, State.headOf, if_true, hq, State.roomFor, Bool.and_eq_true] at hr
  exact hr.1

theorem exec_parkedRouteReadmit_routed {s : State} {q : Parked} (ha : s.arbiter = some .front)
    (hq : s.readmissible = some q) :
    exec .parkedRouteReadmit s = .next { State.routed q { s with parked := s.parked.erase q } with pointer := .flash } := by
  show execParkedRouteReadmit s = _
  unfold execParkedRouteReadmit
  rw [show s.readmitted = some q from (if_pos ha).trans hq]
  rfl

theorem exec_parkedRouteReadmit_idle {s : State} (h : s.arbiter ≠ some .front ∨ s.readmissible = none) :
    exec .parkedRouteReadmit s = .next s := by
  have hn : s.readmitted = none := by
    unfold State.readmitted
    rcases h with h | h
    · exact if_neg h
    · rw [h, ite_self]
  show execParkedRouteReadmit s = _
  unfold execParkedRouteReadmit
  rw [hn]

end Sys2Proof.Machine

open Sys2Proof.Machine in
/-- Settles O19: the re-admitted route is a routed event, and so is a ROUTE that is taken; what a routed event records
follows its decisions. -/
theorem theOldestReadmissibleRouteIsRouted : Obligations.TheOldestReadmissibleRouteIsRouted := by
  refine ⟨fun s q ha hq hv => ?_, fun s tag kind lba count q ws hv hq ht hp ho => exec_route_routed hv hq ho ht hp,
    fun s h => exec_parkedRouteReadmit_idle h⟩
  intro u ds forced ps
  have hrec : State.Recorded q ds ((u.decided q).2.trimEnded q ds) (u.routed q) :=
    State.routed_recorded (State.hasRoom_of_readmitted (s := s) ha hq)
  have hdec : ((u.decided q).2.trimEnded q ds).undecided = u.undecided :=
    (State.trimEnded_undecided q ds _).trans (State.decided_undecided q u)
  have hspans : ds.map (fun d => d.span) = routeSpans q.lba q.count := State.decided_spans q u
  have hforced : ((u.decided q).2.trimEnded q ds).forcedWake ds = forced := by
    unfold State.forcedWake
    rw [State.undecided_spindle hdec, Bool.eq_iff_iff]
    simp [forced, u]
  have hfront : ((u.decided q).2.trimEnded q ds).front = s.front := (State.undecided_front hdec :)
  have hroutes := hrec.routes
  rw [State.undecided_routes hdec] at hroutes
  have hout := hrec.front
  rw [hforced, hfront] at hout
  have hstats := hrec.stats
  rw [hforced] at hstats
  obtain ⟨hcount, hwakes⟩ := State.undecided_routed hdec q.kind (routePieces q.kind ds)
    (ds.map fun d => segCount d.absorbed).sum forced
  refine ⟨_, exec_parkedRouteReadmit_routed ha hq, rfl, hrec.parked.trans (State.undecided_parked hdec),
    hrec.fifo.trans (congrArg Link.fifo hfront), rfl, hroutes, ⟨routeEntry q ds, ?_, rfl, rfl, routeEntry_first hspans⟩,
    hout, fun hk => ?_, fun hk => ?_, ?_, ?_⟩
  · exact hroutes ▸ (mem_insertBy _ _ _ _).2 (.inl rfl)
  · exact congrArg Prod.fst (State.decided_read hk u)
  · rw [← hforced]
    exact State.forcedWake_of_none (fun d hd => (State.decideSpans_no_absorb hk _ _ _ d hd).1) _
  · exact (congrArg Stats.routes hstats).trans hcount
  · exact (congrArg Stats.forcedWakes hstats).trans hwakes

namespace Sys2Proof.Machine

/-! ### The segments of a READ -/

theorem ne_zero_iff_getLsbD (a : SegSet) : a ≠ 0#32 ↔ ∃ n, n < 32 ∧ a.getLsbD n = true := by
  constructor
  · intro h
    by_contra hn
    refine h (BitVec.eq_of_getLsbD_eq fun n hn' => ?_)
    rw [BitVec.getLsbD_zero]
    exact Bool.not_eq_true _ ▸ fun k => hn ⟨n, hn', k⟩
  · rintro ⟨n, -, h⟩ rfl
    simp at h

/-- What a READ's decision says of a segment (R55). -/
theorem Span.getLsbD_readDecision (sp : Span) (r : Resident) {n : Nat} (h : n < 32) :
    (sp.readDecision r).flash.getLsbD n = (sp.touchesSeg n && r.valid.getLsbD n) ∧
      (sp.readDecision r).none.getLsbD n = (sp.touchesSeg n && r.lost.getLsbD n) ∧
      (sp.readDecision r).disk.getLsbD n = (sp.touchesSeg n && !r.valid.getLsbD n && !r.lost.getLsbD n) := by
  simp only [Span.readDecision, BitVec.getLsbD_and, sp.getLsbD_touched h, r.getLsbD_absent h, Bool.and_assoc, and_self]

theorem Decision.mediaOf_eq_disk (d : Decision) (n : Nat) :
    d.mediaOf n = .disk ↔ d.flash.getLsbD n = false ∧ d.none.getLsbD n = false := by
  unfold Decision.mediaOf
  cases d.flash.getLsbD n <;> cases d.none.getLsbD n <;> simp

/-- A READ's decision routes a segment to DISK where it routes it to no other media. -/
theorem State.readOf_disk (s : State) (sp : Span) {n : Nat} (h : n < 32) :
    (s.readOf sp).disk.getLsbD n = true ↔ sp.touchesSeg n = true ∧ (s.readOf sp).mediaOf n = .disk := by
  rw [Decision.mediaOf_eq_disk]
  cases hr : s.residentOf sp.extent with
  | none =>
    rw [State.readOf_absent hr]
    simp [Span.allDisk, sp.getLsbD_touched h]
  | some r =>
    rw [State.readOf_resident hr]
    obtain ⟨h1, h2, h3⟩ := sp.getLsbD_readDecision r h
    rw [h1, h2, h3]
    cases sp.touchesSeg n <;> simp

theorem State.readOf_span (s : State) (sp : Span) : (s.readOf sp).span = sp := by
  unfold State.readOf
  split <;> rfl

theorem State.readOf_no_absorb (s : State) (sp : Span) : (s.readOf sp).failed = false ∧ (s.readOf sp).absorbed = 0#32 := by
  unfold State.readOf
  split <;> exact ⟨rfl, rfl⟩

theorem State.readOf_spans (s : State) (sps : List Span) : (sps.map s.readOf).map (fun d => d.span) = sps := by
  rw [List.map_map]
  exact (List.map_congr_left fun sp _ => s.readOf_span sp).trans (List.map_id sps)

/-- The media of a READ's segment, valid, lost or absent (R55). -/
theorem State.readOf_media {s : State} {sp : Span} {r : Resident} {n : Nat} (hr : s.residentOf sp.extent = some r)
    (hn : n < 32) (ht : sp.touchesSeg n = true) :
    (s.readOf sp).mediaOf n =
      if r.valid.getLsbD n then .flash r.slot else if r.lost.getLsbD n then .none else .disk := by
  rw [State.readOf_resident hr]
  obtain ⟨h1, h2, -⟩ := sp.getLsbD_readDecision r hn
  unfold Decision.mediaOf
  rw [h1, h2, ht, Bool.true_and, Bool.true_and]
  rfl

/-- A span of a route touches a segment where a sector of the route lies in it. -/
theorem routeSpans_touches {lba count n : Nat} (h : 1 ≤ count) (h' : count ≤ 256) {sp : Span}
    (hsp : sp ∈ routeSpans lba count) (hn : n < 32) :
    sp.touchesSeg n = true ↔ ∃ x, lba ≤ x ∧ x < lba + count ∧ x / 256 = sp.extent ∧ x % 256 / 8 = n := by
  simp only [Span.touchesSeg, Bool.and_eq_true, decide_eq_true_eq]
  have hsector : sp.lo < 8 * n + 8 ∧ 8 * n < sp.hi → sp.lo < sp.hi ∧ sp.hi ≤ 256 →
      (256 * sp.extent + max sp.lo (8 * n)) / 256 = sp.extent ∧ (256 * sp.extent + max sp.lo (8 * n)) % 256 / 8 = n := by
    omega
  have hb := routeSpans_bounds h h' hsp
  rcases routeSpans_cases (lba := lba) h h' with ⟨-, k, e⟩ | ⟨-, k, e⟩
  · rw [e] at hsp
    rw [List.mem_singleton.1 hsp] at hb hsector ⊢
    dsimp only at hb hsector ⊢
    refine ⟨fun ht => ⟨_, ?_, ?_, hsector ht hb⟩, ?_⟩
    · omega
    · omega
    · rintro ⟨x, h1, h2, h3, rfl⟩
      omega
  · rw [e] at hsp
    simp only [List.mem_cons, List.not_mem_nil, or_false] at hsp
    rcases hsp with rfl | rfl
    all_goals
      dsimp only at hb hsector ⊢
      refine ⟨fun ht => ⟨_, ?_, ?_, hsector ht hb⟩, ?_⟩
      · omega
      · omega
      · rintro ⟨x, h1, h2, h3, rfl⟩
        omega

/-- The segments that a READ takes from FLASH in an extent of its route (R66). -/
theorem State.readOf_flash {s : State} {sp : Span} {lba count n : Nat} (h : 1 ≤ count) (h' : count ≤ 256)
    (hsp : sp ∈ routeSpans lba count) (hn : n < 32) :
    (s.readOf sp).flash.getLsbD n = true ↔ ∃ r x, s.residentOf sp.extent = some r ∧ r.valid.getLsbD n = true ∧ lba ≤ x ∧
      x < lba + count ∧ x / 256 = sp.extent ∧ x % 256 / 8 = n := by
  have ht := routeSpans_touches h h' hsp hn
  cases hr : s.residentOf sp.extent with
  | none =>
    rw [State.readOf_absent hr]
    simp [Span.allDisk]
  | some r =>
    rw [State.readOf_resident hr, (sp.getLsbD_readDecision r hn).1, Bool.and_eq_true, ht]
    constructor
    · rintro ⟨⟨x, hx⟩, hval⟩
      exact ⟨r, x, rfl, hval, hx⟩
    · rintro ⟨r', x, hr', hval, hx⟩
      cases hr'
      exact ⟨⟨x, hx⟩, hval⟩

/-- The disk flag of a READ's entry is yes where a piece of its answer is DISK (R15, R66). -/
theorem State.readOf_any_disk (s : State) (sps : List Span) :
    (sps.map s.readOf).any (fun d => d.disk != 0#32) = true ↔ ∃ p ∈ answerPieces (sps.map s.readOf), p.media = .disk := by
  rw [exists_media_answerPieces, List.any_eq_true]
  simp only [List.mem_map, exists_exists_and_eq_and, bne_iff_ne, ne_zero_iff_getLsbD]
  refine exists_congr fun sp => and_congr_right fun _ => exists_congr fun n => and_congr_right fun hn => ?_
  rw [s.readOf_disk sp hn, s.readOf_span]

/-- The entry of a READ or WRITE of one extent (R66). -/
theorem routeEntry_one {q : Parked} (h : q.kind ≠ .trim) (d : Decision) :
    (routeEntry q [d]).firstFlash = d.flash ∧ (routeEntry q [d]).second = none :=
  ⟨if_neg h, rfl⟩

/-- The entry of a READ or WRITE of two extents (R66). -/
theorem routeEntry_two {q : Parked} (h : q.kind ≠ .trim) (d d' : Decision) :
    (routeEntry q [d, d']).firstFlash = d.flash ∧
      (routeEntry q [d, d']).second = some (d'.span.extent, d'.flash) :=
  ⟨if_neg h, congrArg some (Prod.ext rfl (if_neg h))⟩

/-! ### The counters of a route -/

theorem flashSectors_eq (ps : List Piece) : flashSectors ps = (ps.map fun p => if p.isFlash then p.count else 0).sum := by
  induction ps with
  | nil => rfl
  | cons p ps ih =>
    rw [List.map_cons, List.sum_cons, ← ih]
    unfold flashSectors
    rw [List.filter_cons]
    split <;> simp

theorem diskSectors_eq (ps : List Piece) : diskSectors ps = (ps.map fun p => if p.media = .disk then p.count else 0).sum := by
  induction ps with
  | nil => rfl
  | cons p ps ih =>
    rw [List.map_cons, List.sum_cons, ← ih]
    unfold diskSectors
    rw [List.filter_cons]
    by_cases hp : p.media = .disk <;> simp [hp]

end Sys2Proof.Machine

open Sys2Proof.Machine in
/-- Settles O13: a READ's decisions are those of the map as it stands, since the examination of its extents changes no
segments; the state after its record is the examined state. -/
theorem aReadIsRoutedFromTheMapAndChangesNoSegment : Obligations.AReadIsRoutedFromTheMapAndChangesNoSegment := by
  refine ⟨fun s tag lba count q ws hv hq ht hp ho => ?_, fun sp r n hn => ?_, fun kind ps absorbed forced c => ?_⟩
  · intro ds ps read
    obtain ⟨t, hexec, hrec⟩ := exec_route_recorded hv hq ht hp ho
    obtain ⟨k, hread, hqe, h, h'⟩ := validRoute_eq hq
    obtain rfl : RouteKind.read = k := Option.some.inj hread
    have hkind : q.kind = .read := by rw [hqe]
    have hk : q.kind ≠ .trim := by rw [hkind]; simp
    have hlba : q.lba = lba := by rw [hqe]
    have hds : ds = (routeSpans lba count).map s.readOf := rfl
    have hdec : (s.popFifo .front).decided q = (ds, (s.popFifo .front).examineRoute q) := by
      rw [State.decided_read hkind, hqe]
      rfl
    have hw := State.examineRoute_unweighed q (s.popFifo .front)
    have hseg := (State.examineRoute_reheats q (s.popFifo .front)).segmentsOf
    rw [hdec, State.trimEnded_of_ne hk] at hrec
    generalize (s.popFifo .front).examineRoute q = v at hrec hw hseg
    dsimp only at hrec
    subst hqe
    have hwake : v.forcedWake ds = false := State.forcedWake_of_none (fun d hd => by
      obtain ⟨sp, -, rfl⟩ := List.mem_map.1 (hds ▸ hd)
      exact (s.readOf_no_absorb sp).1) v
    have habs : (ds.map fun d => segCount d.absorbed).sum = 0 := absorbed_sum_eq_zero fun d hd => by
      obtain ⟨sp, -, rfl⟩ := List.mem_map.1 (hds ▸ hd)
      exact (s.readOf_no_absorb sp).2
    have hspans : ds.map (fun d => d.span) = routeSpans lba count := s.readOf_spans _
    have hfront := hrec.front
    rw [hwake, State.unweighed_front hw] at hfront
    have hstats := hrec.stats
    rw [hwake, habs, State.unweighed_stats hw] at hstats
    have hdisk : (routeEntry ⟨tag, .read, lba, count⟩ ds).disk = ds.any (fun d => d.disk != 0#32) := rfl
    refine ⟨t, hexec, hfront, fun p hpm x hx1 hx2 => ?_,
      ⟨routeEntry ⟨tag, .read, lba, count⟩ ds, ?_, rfl, rfl, rfl, routeEntry_first hspans, ?_, ?_,
      ?_, ?_⟩, fun e => (hrec.segmentsOf e).trans (hseg e),
      hrec.contexts.trans (State.unweighed_contexts hw :), hrec.free.trans (State.unweighed_free hw :),
      hrec.fences.trans (State.unweighed_fences hw :), hrec.tickets.trans (State.unweighed_tickets hw :),
      hrec.parked.trans (State.unweighed_parked hw :), hrec.settings.trans (State.unweighed_settings hw :),
      hrec.sizes.trans (State.unweighed_sizes hw :), hrec.windows.trans (State.unweighed_windows hw :),
      hrec.epoch.trans (State.unweighed_epoch hw :), hrec.spindle.trans (State.unweighed_spindle hw :), hstats⟩
    · obtain ⟨d, hd, he, hn, htouch, hm⟩ := media_of_holds h h' hspans hpm ⟨hx1, hx2⟩
      obtain ⟨sp, -, rfl⟩ := List.mem_map.1 (hds ▸ hd)
      rw [s.readOf_span] at he htouch
      rw [hm, ← he]
      refine ⟨fun hr => ?_, fun r hr => ?_⟩
      · rw [State.readOf_absent hr]
        exact (Decision.mediaOf_eq_disk _ _).2 ⟨BitVec.getLsbD_zero, BitVec.getLsbD_zero⟩
      · rw [State.readOf_media hr hn htouch]
        exact ⟨fun k => if_pos k, fun k1 k2 => by rw [k1, k2]; rfl, fun k1 k2 => by rw [k1, k2]; rfl⟩
    · exact hrec.routes.trans (by rw [State.unweighed_routes hw]; rfl)
    · have hflash {sp : Span} (hsp : sp ∈ routeSpans lba count) (n : Nat) (hn : n < 32) :=
        State.readOf_flash (s := s) h h' hsp hn
      rcases routeSpans_cases (lba := lba) h h' with ⟨-, -, e⟩ | ⟨-, -, e⟩ <;> rw [hds, e]
      · rw [List.map_singleton, (routeEntry_one hk _).1]
        exact hflash (by rw [e]; exact List.mem_singleton.2 rfl)
      · rw [List.map_cons, List.map_singleton, (routeEntry_two hk _ _).1]
        exact hflash (by rw [e]; exact List.mem_cons_self)
    · intro hone
      rcases routeSpans_cases (lba := lba) h h' with ⟨-, -, e⟩ | ⟨k, -, -⟩
      · rw [hds, e]
        exact (routeEntry_one hk _).2
      · exact absurd hone k
    · intro htwo
      rcases routeSpans_cases (lba := lba) h h' with ⟨k, -, -⟩ | ⟨-, -, e⟩
      · exact absurd k htwo
      · rw [hds, e]
        refine ⟨_, (routeEntry_two hk _ _).2.trans (by rw [s.readOf_span]), fun n hn => ?_⟩
        exact State.readOf_flash (s := s) h h' (by rw [e]; simp) hn
    · rw [hdisk, hds]
      exact s.readOf_any_disk _
  · intro d touched
    obtain ⟨h1, h2, h3⟩ := sp.getLsbD_readDecision r hn
    have ht : touched = sp.touchesSeg n := by simp [touched, Span.touchesSeg]
    rw [ht]
    exact ⟨rfl, h1, h2, h3, BitVec.getLsbD_zero, BitVec.getLsbD_zero, sp.getLsbD_touched hn⟩
  · intro flash disk u
    have hflash : flashSectors ps = flash := by
      rw [flashSectors_eq]
      refine congrArg List.sum (List.map_congr_left fun p _ => ?_)
      unfold Piece.isFlash
      cases p.media <;> rfl
    have hdisk : diskSectors ps = disk := by
      rw [diskSectors_eq]
      refine congrArg List.sum (List.map_congr_left fun p _ => ?_)
      cases p.media <;> rfl
    rw [← hflash, ← hdisk]
    exact ⟨rfl, rfl, fun k => ⟨if_pos k, if_pos k⟩, fun k => ⟨if_pos k, if_pos k⟩, fun k => ⟨if_neg k, if_neg k⟩,
      fun k => ⟨if_neg k, if_neg k⟩, rfl, rfl, rfl, rfl, rfl, rfl, rfl⟩
end

section
/-! SUPPORT. What the decisions of a WRITE leave of the extents they pass by, and what they do at a resident extent. -/

namespace Sys2Proof.Machine

/-! ### Extents that are passed by -/

/-- An event passes an extent by: its record and the move in flight on it stand, and it joins no queue. -/
structure State.PassesBy (y : Nat) (s t : State) : Prop where
  resident : t.residentOf y = s.residentOf y
  promo : y ∈ t.promo → y ∈ s.promo
  contexts : ∀ c : Fin 4, s.contexts[c].extentInMove = some y → t.contexts[c] = s.contexts[c]

namespace State.PassesBy

variable {y : Nat} {s t u : State}

theorem of_same (hr : t.records = s.records) (hp : y ∈ t.promo → y ∈ s.promo) (hc : t.contexts = s.contexts) :
    s.PassesBy y t :=
  ⟨State.residentOf_congr hr y, hp, fun c _ => by rw [hc]⟩

theorem refl (s : State) : s.PassesBy y s := of_same rfl id rfl

theorem trans (h : s.PassesBy y t) (k : t.PassesBy y u) : s.PassesBy y u :=
  ⟨k.resident.trans h.resident, fun m => h.promo (k.promo m), fun c m =>
    (k.contexts c (by rw [h.contexts c m]; exact m)).trans (h.contexts c m)⟩

theorem adjustPromo {e : Nat} (he : y ≠ e) (b : Bool) (s : State) : s.PassesBy y (s.adjustPromo e b) := by
  refine of_same (State.adjustPromo_records e b s) (fun h => ?_) (by rw [State.adjustPromo_eq])
  unfold State.adjustPromo at h
  split at h
  · split at h
    · exact h
    · split at h
      · exact (List.mem_append.1 h).resolve_right (by simpa using he)
      · exact h
  · exact ((mem_without _ _ _).1 h).1

theorem store {r : Resident} (hr : y ≠ r.extent) (a : ListEnd) (s : State) : s.PassesBy y (s.store a r) := by
  refine ⟨State.residentOf_store_of_ne a r s hr, fun h => ?_, fun _ _ => rfl⟩
  change y ∈ (if _ then without r.settled.extent s.promo else s.promo) at h
  split at h
  · exact ((mem_without _ _ _).1 h).1
  · exact h

theorem examineResident {r : Resident} (hr : y ≠ r.extent) (w : Nat) (s : State) :
    s.PassesBy y (s.examineResident w r) :=
  (store (r := s.caughtUpRecord w r) hr _ s).trans (adjustPromo hr _ _)

theorem examine {e : Nat} (he : y ≠ e) (w : Nat) (s : State) : s.PassesBy y (s.examine w e) := by
  unfold State.examine
  split
  · rename_i r hr
    exact examineResident (by rw [State.residentOf_extent hr]; exact he) w s
  · split
    · rename_i x hx
      have hx' := State.Becomes.watchOf_extent hx
      exact (of_same rfl id rfl : s.PassesBy y (s.setWatchHeat x.extent (s.heatNow w x.heat))).trans
        (adjustPromo (by rw [hx']; exact he) _ _)
    · exact refl s

/-- An extent that victim choice may not take is not skipped only if it is another (R95). -/
theorem ne_of_not_skipped {x : List Nat} {e : Nat} (hy : y ∈ x) (h : s.skipped x e = false) : y ≠ e := by
  rintro rfl
  simp [State.skipped, hy] at h

theorem walk {x : List Nat} (hy : y ∈ x) (b : List Band) (n : Nat) (s : State) : s.PassesBy y (s.walk x b n).2 := by
  induction n generalizing s with
  | zero => exact refl s
  | succ n ih =>
    unfold State.walk
    split
    · exact refl s
    · rename_i k v hv
      obtain ⟨k', -, hk⟩ := List.exists_of_findSome?_eq_some hv
      obtain ⟨v', hv', hpair⟩ := Option.map_eq_some_iff.1 hk
      simp only [Prod.mk.injEq] at hpair
      obtain ⟨rfl, rfl⟩ := hpair
      have hne : y ≠ v' := ne_of_not_skipped hy (by simpa using List.find?_some hv')
      dsimp only
      split
      · exact examine hne _ s
      · exact (examine hne _ s).trans (ih _)

theorem pinScan {x : List Nat} (hy : y ∈ x) (b : List Band) (l : List Nat) (s : State) :
    s.PassesBy y (State.pinScan x b l s).2 := by
  induction l generalizing s with
  | nil => exact refl s
  | cons e l ih =>
    unfold State.pinScan
    split
    · exact ih s
    · rename_i r hr
      split
      · rename_i hc
        simp only [Bool.and_eq_true, Bool.not_eq_true'] at hc
        have hne : y ≠ r.extent := by
          rw [State.residentOf_extent hr]
          exact ne_of_not_skipped hy hc.2
        dsimp only
        split
        · exact examineResident hne _ s
        · exact (examineResident hne _ s).trans (ih _)
      · exact ih s

theorem victim {x : List Nat} (hy : y ∈ x) (c : Option Band) (s : State) : s.PassesBy y (s.victim x c).2 := by
  have hw := walk hy (bandsUpTo c) (s.clean.size + 1) s
  unfold State.victim
  split
  · rename_i h; rw [h] at hw; exact hw
  · rename_i h; rw [h] at hw
    split
    · exact hw.trans (pinScan hy _ _ _)
    · exact hw

theorem mem_watchRoom_promo (h : y ∈ s.watchRoom.promo) : y ∈ s.promo := by
  unfold State.watchRoom at h
  split at h
  · exact h
  · split at h
    · exact h
    · exact ((mem_without _ _ _).1 h).1

theorem mem_returnHeat_promo {e : Nat} {k : Heat} (h : y ∈ (s.returnHeat e k).promo) : y ∈ s.promo := by
  unfold State.returnHeat at h
  split at h
  · exact ((mem_without _ _ _).1 h).1
  · exact mem_watchRoom_promo h

theorem remove {r : Resident} (hr : y ≠ r.extent) (f : SlotFate) (s : State) : s.PassesBy y (s.remove f r) := by
  refine ⟨State.residentOf_remove_of_ne f r s hr, fun h => ?_, fun c _ => ?_⟩
  · rw [State.remove_eq, State.settleSlot_eq] at h
    have hp := State.body_promo (State.announced_body f r.slot s)
    have hd : y ∈ (State.drop r (if f.announced then s.produceRetire r.slot else s)).promo := mem_returnHeat_promo h
    rw [← hp]
    exact hd
  · rw [State.unremoved_contexts (State.remove_unremoved f r s)]

theorem absorbSlot {x : List Nat} (hy : y ∈ x) (s : State) : s.PassesBy y (s.absorbSlot x).2 := by
  have hv := victim hy (some .b3) s
  rcases State.absorbSlot_cases x s with ⟨n, -, k⟩ | ⟨-, k⟩ | ⟨e, t, r, -, hvict, hr, k⟩ <;> rw [k]
  · exact of_same rfl id rfl
  · exact hv
  · rw [hvict] at hv
    have hne : y ≠ r.extent := by
      rw [State.residentOf_extent hr]
      exact ne_of_not_skipped hy (State.victim_some hvict).2
    exact hv.trans ((remove hne .passed t).trans (of_same rfl id rfl))

theorem enter {r : Resident} (hr : y ≠ r.extent) (s : State) : s.PassesBy y (s.enter r) := by
  refine ⟨State.residentOf_enter_of_ne r s hr, fun h => ?_, fun _ _ => rfl⟩
  change y ∈ (if _ then without r.extent s.promo else s.promo) at h
  split at h
  · exact ((mem_without _ _ _).1 h).1
  · exact h

theorem writeAbsent {x : List Nat} {sp : Span} (hy : y ∈ x) (hne : y ≠ sp.extent) (s : State) :
    s.PassesBy y (s.writeAbsent x sp).2 := by
  have h := absorbSlot hy s
  unfold State.writeAbsent
  split
  · exact refl s
  · split
    · rename_i k; rw [k] at h; exact h
    · rename_i n t k
      rw [k] at h
      exact h.trans (.trans (t := t.unwatch sp.extent) (of_same rfl id rfl)
        (enter (r := t.absorbedRecord sp.extent n sp.full) hne _))

theorem writeResident {sp : Span} {r : Resident} (hr : s.residentOf sp.extent = some r) (hne : y ≠ sp.extent) :
    s.PassesBy y (s.writeResident sp r).2 := by
  have he := State.residentOf_extent hr
  have h := store (y := y) (r := r.written (sp.writeFlash r (s.policyOf sp.extent))) (he.symm ▸ hne) .tail s
  refine ⟨h.resident, h.promo, fun c hc => ?_⟩
  refine (map_getElem_fin _ _ c).trans (Context.written_of_ne _ _ _ ?_)
  rw [show (s.store .tail _).contexts = s.contexts from rfl, hc]
  simpa using hne

theorem decideSpan {x : List Nat} {sp : Span} (hy : y ∈ x) (hne : y ≠ sp.extent) (s : State) :
    s.PassesBy y (s.decideSpan .write x sp).2 := by
  unfold State.decideSpan
  dsimp only
  split
  · rename_i r hr
    exact writeResident hr hne
  · exact writeAbsent hy hne s

theorem decideSpans {x : List Nat} {sps : List Span} (hy : y ∈ x) (hne : ∀ sp ∈ sps, y ≠ sp.extent) (s : State) :
    s.PassesBy y (s.decideSpans .write x sps).2 := by
  induction sps generalizing s with
  | nil => exact refl s
  | cons sp sps ih =>
    exact (decideSpan hy (hne sp (by simp)) s).trans (ih (fun a ha => hne a (List.mem_cons_of_mem _ ha)) _)

end State.PassesBy

/-! ### A resident extent that is written -/

/-- The segments of an extent after a WRITE to it: its record, the move in flight on it, and its place on the Promotion
Queue, gone where the record is whole (R56, R60, R111, R112, R119, R135). -/
structure State.WroteTo (sp : Span) (r : Resident) (flash : SegSet) (s t : State) : Prop where
  resident : t.residentOf sp.extent = some (r.written flash).settled
  promo : (r.written flash).valid ||| (r.written flash).lost = SegSet.all → sp.extent ∉ t.promo
  contexts : ∀ c : Fin 4, s.contexts[c].extentInMove = some sp.extent →
    t.contexts[c] = Context.written sp.extent (sp.touched &&& r.absent) flash (r.written flash).isEmpty s.contexts[c]

theorem State.PassesBy.trans_wroteTo {sp : Span} {r : Resident} {flash : SegSet} {s t u : State}
    (h : s.PassesBy sp.extent t) (k : t.WroteTo sp r flash u) : s.WroteTo sp r flash u :=
  ⟨k.resident, k.promo, fun c m => by
    have h1 := h.contexts c m
    rw [← h1]
    exact k.contexts c (by rw [h1]; exact m)⟩

theorem State.WroteTo.trans_passesBy {sp : Span} {r : Resident} {flash : SegSet} {s t u : State}
    (h : s.WroteTo sp r flash t) (k : t.PassesBy sp.extent u) : s.WroteTo sp r flash u :=
  ⟨k.resident.trans h.resident, fun m j => h.promo m (k.promo j), fun c m => by
    have h1 := h.contexts c m
    rw [← h1]
    exact k.contexts c (by rw [h1, Context.written_extentInMove]; exact m)⟩

/-- What a WRITE does at a resident extent. -/
theorem State.writeResident_wroteTo {s : State} {sp : Span} {r : Resident} (h : s.residentOf sp.extent = some r) :
    s.WroteTo sp r (sp.writeFlash r (s.policyOf sp.extent)) (s.writeResident sp r).2 := by
  have he := State.residentOf_extent h
  generalize hf : sp.writeFlash r (s.policyOf sp.extent) = flash
  have hw : (s.writeResident sp r).2 =
      { s.store .tail (r.written flash) with
        contexts := s.contexts.map (Context.written sp.extent (sp.touched &&& r.absent) flash (r.written flash).isEmpty) } := by
    rw [← hf]
    rfl
  have hr : s.residentOf (r.written flash).extent = some r := by
    rw [show (r.written flash).extent = sp.extent from he]
    exact h
  rw [hw]
  refine ⟨?_, fun k => ?_, fun c _ => map_getElem_fin _ _ c⟩
  · have := State.residentOf_store_same .tail hr
    rwa [show (r.written flash).extent = sp.extent from he] at this
  · show sp.extent ∉ (if (r.written flash).settled.valid ||| (r.written flash).settled.lost = SegSet.all then
      without (r.written flash).settled.extent s.promo else s.promo)
    rw [Resident.settled_valid, Resident.settled_lost, if_pos k, Resident.settled_extent,
      show (r.written flash).extent = sp.extent from he]
    simp

theorem State.decideSpan_write_resident {s : State} {sp : Span} {r : Resident} (x : List Nat)
    (h : s.residentOf sp.extent = some r) : s.decideSpan .write x sp = s.writeResident sp r := by
  simp only [State.decideSpan, h]

theorem State.decideSpan_write_absent {s : State} {sp : Span} (x : List Nat) (h : s.residentOf sp.extent = none) :
    s.decideSpan .write x sp = s.writeAbsent x sp := by
  simp only [State.decideSpan, h]

/-- The decisions of a WRITE at its resident extents, whatever its other extents are. -/
theorem State.decideSpans_write_at {x : List Nat} {sps : List Span} {sp : Span} {r : Resident} {s : State} {i : Nat}
    (hn : (sps.map (·.extent)).Nodup) (hx : ∀ a ∈ sps, a.extent ∈ x) (hi : sps[i]? = some sp)
    (hr : s.residentOf sp.extent = some r) :
    (s.decideSpans .write x sps).1[i]? = some (sp.writeDecision r (s.policyOf sp.extent)) ∧
      s.WroteTo sp r (sp.writeFlash r (s.policyOf sp.extent)) (s.decideSpans .write x sps).2 := by
  induction sps generalizing s i with
  | nil => simp at hi
  | cons a sps ih =>
    obtain ⟨ha, hn⟩ := List.nodup_cons.1 hn
    have hmem : sp ∈ a :: sps := List.mem_of_getElem? hi
    cases i with
    | zero =>
      obtain rfl : a = sp := by simpa using hi
      have hstep := State.decideSpan_write_resident x hr
      refine ⟨congrArg (fun o : Decision × State => some o.1) hstep, ?_⟩
      have hw := State.writeResident_wroteTo hr
      rw [← hstep] at hw
      refine hw.trans_passesBy (.decideSpans (hx a hmem) (fun b hb k => ha ?_) _)
      exact List.mem_map.2 ⟨b, hb, k.symm⟩
    | succ i =>
      have hi' : sps[i]? = some sp := by simpa using hi
      have hne : sp.extent ≠ a.extent := fun k => ha (List.mem_map.2 ⟨sp, List.mem_of_getElem? hi', k⟩)
      have hp := State.PassesBy.decideSpan (x := x) (sp := a) (hx sp hmem) hne s
      have hpol := State.undecided_policyOf (State.decideSpan_undecided .write x a s) sp.extent
      have h := ih hn (fun b hb => hx b (List.mem_cons_of_mem _ hb)) hi' (hp.resident.trans hr)
      rw [hpol] at h
      exact ⟨h.1, hp.trans_wroteTo h.2⟩

/-! ### The spans of a route, by their places -/

theorem routeSpans_nodup (lba count : Nat) : ((routeSpans lba count).map (·.extent)).Nodup := by
  unfold routeSpans
  dsimp only
  split <;> simp

theorem routeSpans_place {lba count : Nat} {sp : Span} (h : sp ∈ routeSpans lba count) :
    (routeSpans lba count)[0]? = some sp ∨ (routeSpans lba count)[1]? = some sp := by
  unfold routeSpans at h ⊢
  dsimp only at h ⊢
  split at h
  · rename_i k
    rw [if_pos k, List.mem_singleton.1 h]
    exact .inl rfl
  · rename_i k
    rw [if_neg k]
    simp only [List.mem_cons, List.not_mem_nil, or_false] at h
    rcases h with rfl | rfl
    · exact .inl rfl
    · exact .inr rfl

/-- An entry names the flash segments of each extent in its place (R15, R66). -/
theorem routeEntry_at {q : Parked} (hk : q.kind ≠ .trim) {ds : List Decision} {d : Decision} :
    (ds[0]? = some d → (routeEntry q ds).first = d.span.extent ∧ (routeEntry q ds).firstFlash = d.flash) ∧
      (ds[1]? = some d → (routeEntry q ds).second = some (d.span.extent, d.flash)) := by
  refine ⟨fun h => ?_, fun h => ?_⟩
  · unfold routeEntry
    rw [h]
    exact ⟨rfl, if_neg hk⟩
  · unfold routeEntry
    rw [h]
    exact congrArg some (Prod.ext rfl (if_neg hk))

/-- A WRITE's decision asks for a record's slot and segments alone. -/
theorem Span.writeDecision_reheated (sp : Span) {r r' : Resident} (h : r.Reheated r') (policy : Policy) :
    sp.writeDecision r' policy = sp.writeDecision r policy := by
  unfold Span.writeDecision Span.writeFlash Resident.absent
  rw [h.slot, h.valid, h.lost]

end Sys2Proof.Machine
end

section
/-! PROOFS. The taking of a WRITE that touches resident extents. -/

namespace Sys2Proof.Machine

/-! ### The examination of a WRITE's extents -/

/-- The weight of a WRITE (R22). -/
def State.writeWeight (q : Parked) (s : State) : Nat :=
  if (s.classify q.lba q.count).1 then s.settings.wSwrite else s.settings.wRwrite

/-- A WRITE weighs each extent that it touches, first extent first (R53). -/
theorem State.examineRoute_write {q : Parked} (h : q.kind = .write) (s : State) :
    s.examineRoute q = (routeSpans q.lba q.count).foldl (fun u sp => u.weighExtent (s.writeWeight q) sp.extent)
      (s.classify q.lba q.count).2 := by
  have hw (b d : Bool) : (s.classify q.lba q.count).2.routeWeight .write b d =
      if b then s.settings.wSwrite else s.settings.wRwrite := by
    unfold State.routeWeight
    rw [if_neg (by simp)]
    cases b <;> rfl
  simp only [State.examineRoute, h, State.weighRoute, hw]
  rfl

/-- The Dirty List says of some extents' records what their dirty sets say (R8). -/
def State.DirtyListed (es : List Nat) (s : State) : Prop :=
  ∀ e ∈ es, ∀ r, s.residentOf e = some r → (e ∈ s.dirtyList ↔ r.dirty ≠ 0#32)

theorem State.examineResident_dirtyList (w : Nat) (r : Resident) (s : State) :
    (s.examineResident w r).dirtyList =
      if r.dirty = 0#32 then without r.extent s.dirtyList
      else if r.extent ∈ s.dirtyList then s.dirtyList else s.dirtyList ++ [r.extent] := by
  rw [State.examineResident_eq, State.adjustPromo_eq]
  exact State.store_dirtyList (catchUpEnd r (s.caughtUpRecord w r)) (s.caughtUpRecord w r) s

/-- The examination of an extent that the Dirty List says right of leaves the list. -/
theorem State.weighExtent_dirtyList {es : List Nat} {s : State} {e : Nat} (w : Nat) (h : s.DirtyListed es) (he : e ∈ es) :
    (s.weighExtent w e).dirtyList = s.dirtyList := by
  unfold State.weighExtent
  split
  · rename_i r hr
    have hx := State.residentOf_extent hr
    have hd := h e he r hr
    rw [← hx] at hd
    show (s.examineResident _ r).dirtyList = _
    rw [State.examineResident_dirtyList]
    split
    · rename_i k
      exact without_of_notMem _ _ fun m => hd.1 m k
    · rename_i k
      exact if_pos (hd.2 k)
  · split
    · rename_i x _
      show (s.examineWatched _ x).dirtyList = _
      rw [State.examineWatched_eq, State.adjustPromo_eq]
      rfl
    · dsimp only
      split
      · rfl
      · rw [State.enterWatch_eq]

theorem State.Reheats.dirtyListed {es : List Nat} {s t : State} (h : s.Reheats t) (hl : t.dirtyList = s.dirtyList)
    (hd : s.DirtyListed es) : t.DirtyListed es := by
  intro e he r' hr'
  cases hr : s.residentOf e with
  | none =>
    rw [h.absent e hr] at hr'
    cases hr'
  | some r =>
    obtain ⟨r'', hr'', k⟩ := h.resident e r hr
    rw [hr'] at hr''
    cases hr''
    rw [hl, k.dirty]
    exact hd e he r hr

theorem State.weighAll_dirtyList {es : List Nat} (w : Nat) {sps : List Span} (hs : ∀ sp ∈ sps, sp.extent ∈ es) {s : State}
    (h : s.DirtyListed es) : (sps.foldl (fun u sp => u.weighExtent w sp.extent) s).dirtyList = s.dirtyList := by
  induction sps generalizing s with
  | nil => rfl
  | cons sp sps ih =>
    have h1 := State.weighExtent_dirtyList w h (hs sp (by simp))
    exact (ih (fun a ha => hs a (List.mem_cons_of_mem _ ha)) ((State.weighExtent_reheats w _ s).dirtyListed h1 h)).trans h1

/-! ### The tails of the clean lists -/

/-- Of some extents, those whose records belong on a clean list stand at its tail, in their order (R18). -/
def State.Tailed (es : List Nat) (s : State) : Prop :=
  ∀ b : Band, es.filter (fun e => (s.residentOf e).any fun r => r.cleanBand == some b) <:+ s.clean.get b

theorem suffix_without {l m : List Nat} (h : l <:+ m) (e : Nat) : without e l <:+ without e m := h.filter _

theorem State.store_clean (a : ListEnd) (r : Resident) (s : State) (b : Band) :
    (s.store a r).clean.get b =
      if r.cleanBand = some b then
        (if r.extent ∈ s.clean.get b then s.clean.get b else joinEnd a r.extent (s.clean.get b))
      else without r.extent (s.clean.get b) := by
  refine (CleanLists.get_change s.clean _ b).trans ?_
  rw [Resident.settled_cleanBand, Resident.settled_extent]

theorem joinEnd_without (a : ListEnd) (e : Nat) (l : List Nat) : without e (joinEnd a e l) = without e l := by
  cases a <;> simp [joinEnd, without]

/-- A clean list after a resident extent is weighed: the extent stands at its tail, or not on it (R18). -/
theorem State.weighExtent_clean {s : State} {e : Nat} {r : Resident} (w : Nat) (hr : s.residentOf e = some r) (b : Band) :
    (s.weighExtent w e).clean.get b = without e (s.clean.get b) ++
      if ((s.weighExtent w e).residentOf e).any (fun r => r.cleanBand == some b) then [e] else [] := by
  have he := State.residentOf_extent hr
  have hr' : s.residentOf r.extent = some r := he ▸ hr
  generalize hk : extentWeight (s.policyOf e) w = k
  have hw : s.weighExtent w e = (s.examineResident k r).touchClean e := by simp only [State.weighExtent, hr, hk]
  have hres : ((s.examineResident k r).touchClean e).residentOf e = some (s.caughtUpRecord k r).settled := by
    have := State.residentOf_examineResident k hr'
    rwa [he] at this
  have hany : ((s.weighExtent w e).residentOf e).any (fun r => r.cleanBand == some b) =
      decide ((s.caughtUpRecord k r).cleanBand = some b) := by
    rw [hw, hres, Option.any_some, Resident.settled_cleanBand, beq_eq_decide]
  rw [hany, hw]
  show CleanLists.get (CleanLists.change _ _) b = _
  rw [CleanLists.get_change, State.clean_examineResident, he]
  by_cases hb : (s.caughtUpRecord k r).cleanBand = some b
  · rw [if_pos hb, if_pos (decide_eq_true hb)]
    by_cases hm : e ∈ s.clean.get b
    · rw [if_pos hm, if_pos hm]
    · rw [if_neg hm, if_pos ((mem_joinEnd _ _ _ _).2 (.inl rfl)), joinEnd_without]
  · rw [if_neg hb, if_neg (by simp), if_neg (by simp [hb]), List.append_nil]

theorem State.residentOf_weighExtent_of_ne {s : State} {e x : Nat} (w : Nat) (h : x ≠ e) :
    (s.weighExtent w e).residentOf x = s.residentOf x := by
  unfold State.weighExtent
  split
  · rename_i r hr
    exact State.residentOf_examineResident_of_ne (s := s) (r := r) _ (by rw [State.residentOf_extent hr]; exact h)
  · split
    · rename_i y _
      exact State.residentOf_congr (State.examineWatched_records _ y s) x
    · dsimp only
      split
      · rfl
      · exact State.residentOf_congr (State.enterWatch_records _ _ _ s) x

theorem State.Tailed.weigh {es : List Nat} {s : State} {e : Nat} {r : Resident} (h : s.Tailed es) (he : e ∉ es)
    (hr : s.residentOf e = some r) (w : Nat) : (s.weighExtent w e).Tailed (es ++ [e]) := by
  intro b
  rw [State.weighExtent_clean w hr b, List.filter_append]
  have hsame : es.filter (fun x => ((s.weighExtent w e).residentOf x).any fun r => r.cleanBand == some b) =
      es.filter (fun x => (s.residentOf x).any fun r => r.cleanBand == some b) :=
    List.filter_congr fun x hx => by
      rw [State.residentOf_weighExtent_of_ne w (fun k : x = e => he (by rwa [k] at hx))]
  have hwithout : without e (es.filter fun x => (s.residentOf x).any fun r => r.cleanBand == some b) =
      es.filter fun x => (s.residentOf x).any fun r => r.cleanBand == some b :=
    without_of_notMem _ _ fun k => he (List.mem_of_mem_filter k)
  have hsuf := suffix_without (h b) e
  rw [hwithout] at hsuf
  rw [hsame, List.filter_singleton]
  obtain ⟨l, hl⟩ := hsuf
  refine ⟨l, ?_⟩
  rw [← hl, List.append_assoc, Bool.cond_eq_ite]

theorem State.Tailed.weighAll (w : Nat) {sps : List Span} {es : List Nat} {s : State} (h : s.Tailed es)
    (hn : (es ++ sps.map (·.extent)).Nodup) (hr : ∀ sp ∈ sps, s.residentOf sp.extent ≠ none) :
    (sps.foldl (fun u sp => u.weighExtent w sp.extent) s).Tailed (es ++ sps.map (·.extent)) := by
  induction sps generalizing es s with
  | nil => simpa using h
  | cons sp sps ih =>
    obtain ⟨r, hsp⟩ := Option.ne_none_iff_exists'.1 (hr sp (by simp))
    have he : sp.extent ∉ es := fun k => (List.nodup_append.1 hn).2.2 _ k _ (by simp) rfl
    have hl : es ++ (sp :: sps).map (·.extent) = (es ++ [sp.extent]) ++ sps.map (·.extent) := by simp
    rw [hl] at hn ⊢
    refine ih (h.weigh he hsp w) hn fun a ha k => hr a (List.mem_cons_of_mem _ ha) ?_
    exact ((State.weighExtent_reheats w sp.extent s).isSome _).1 k

/-! ### Writes where every extent is resident -/

/-- What a WRITE decides for a span, by the map as it stands (R56). -/
def State.writeOf (s : State) (sp : Span) : Decision :=
  match s.residentOf sp.extent with
  | some r => sp.writeDecision r (s.policyOf sp.extent)
  | none => sp.allDisk false

theorem State.writeOf_resident {s : State} {sp : Span} {r : Resident} (h : s.residentOf sp.extent = some r) :
    s.writeOf sp = sp.writeDecision r (s.policyOf sp.extent) := by
  unfold State.writeOf
  rw [h]

theorem State.writeOf_congr {s t : State} {sp : Span} (h : t.residentOf sp.extent = s.residentOf sp.extent)
    (hp : t.policyOf sp.extent = s.policyOf sp.extent) : t.writeOf sp = s.writeOf sp := by
  unfold State.writeOf
  rw [h, hp]

theorem State.writeOf_span (s : State) (sp : Span) : (s.writeOf sp).span = sp := by
  unfold State.writeOf
  split <;> rfl

theorem State.writeOf_no_absorb (s : State) (sp : Span) : (s.writeOf sp).failed = false ∧ (s.writeOf sp).absorbed = 0#32 := by
  unfold State.writeOf
  split <;> exact ⟨rfl, rfl⟩

theorem State.Reheats.writeOf {s t : State} (h : s.Reheats t) (hw : t.unweighed = s.unweighed) (sp : Span) :
    t.writeOf sp = s.writeOf sp := by
  have hp := State.unweighed_policyOf hw sp.extent
  cases hr : s.residentOf sp.extent with
  | none => exact State.writeOf_congr ((h.absent _ hr).trans hr.symm) hp
  | some r =>
    obtain ⟨r', hr', k⟩ := h.resident _ r hr
    rw [State.writeOf_resident hr, State.writeOf_resident hr', hp, sp.writeDecision_reheated k]

/-- The state after a WRITE's changes at one extent, unchanged where it is not resident. -/
def State.wrote (sp : Span) (s : State) : State :=
  match s.residentOf sp.extent with
  | some r => (s.writeResident sp r).2
  | none => s

theorem State.wrote_resident {s : State} {sp : Span} {r : Resident} (h : s.residentOf sp.extent = some r) :
    s.wrote sp = (s.writeResident sp r).2 := by
  unfold State.wrote
  rw [h]

theorem State.wrote_passesBy {sp : Span} {y : Nat} (hne : y ≠ sp.extent) (s : State) : s.PassesBy y (s.wrote sp) := by
  unfold State.wrote
  split
  · rename_i r hr
    exact .writeResident hr hne
  · exact .refl s

/-- A state without what a write to a resident extent changes. -/
def State.unwritten (s : State) : State := { s.unexamined with contexts := Vector.replicate 4 .idle }

theorem State.wrote_unwritten (sp : Span) (s : State) : (s.wrote sp).unwritten = s.unwritten := by
  unfold State.wrote
  split <;> rfl

theorem State.wrote_isSome (sp : Span) (s : State) (e : Nat) : (s.wrote sp).residentOf e = none ↔ s.residentOf e = none := by
  by_cases he : e = sp.extent
  · subst he
    cases hr : s.residentOf sp.extent with
    | none => simp [State.wrote, hr]
    | some r =>
      rw [State.wrote_resident hr, (State.writeResident_wroteTo hr).resident]
      simp
  · rw [(State.wrote_passesBy he s).resident]

/-- A WRITE whose extents are all resident, as its decisions and its changes extent by extent. -/
theorem State.decideSpans_write_residents (x : List Nat) {sps : List Span} (hn : (sps.map (·.extent)).Nodup) {s : State}
    (hr : ∀ sp ∈ sps, s.residentOf sp.extent ≠ none) :
    s.decideSpans .write x sps = (sps.map s.writeOf, sps.foldl (fun u sp => u.wrote sp) s) := by
  induction sps generalizing s with
  | nil => rfl
  | cons sp sps ih =>
    obtain ⟨r, hsp⟩ := Option.ne_none_iff_exists'.1 (hr sp (by simp))
    obtain ⟨ha, hn⟩ := List.nodup_cons.1 hn
    have hstep : s.decideSpan .write x sp = (s.writeOf sp, s.wrote sp) := by
      rw [State.decideSpan_write_resident x hsp, State.writeOf_resident hsp, State.wrote_resident hsp]
      rfl
    have hpol (e : Nat) : (s.wrote sp).policyOf e = s.policyOf e := by
      have := State.undecided_policyOf (State.decideSpan_undecided .write x sp s) e
      rwa [hstep] at this
    have hrest := ih hn (s := s.wrote sp) fun a h k => hr a (List.mem_cons_of_mem _ h) ((State.wrote_isSome sp s _).1 k)
    have hmap : sps.map (s.wrote sp).writeOf = sps.map s.writeOf := List.map_congr_left fun a h =>
      State.writeOf_congr (State.wrote_passesBy (fun k => ha (List.mem_map.2 ⟨a, h, k⟩)) s).resident (hpol _)
    rw [State.decideSpans, hstep]
    dsimp only
    rw [hrest, hmap]
    rfl

theorem State.wroteAll_passesBy {y : Nat} {sps : List Span} (hne : ∀ sp ∈ sps, y ≠ sp.extent) (s : State) :
    s.PassesBy y (sps.foldl (fun u sp => u.wrote sp) s) := by
  induction sps generalizing s with
  | nil => exact .refl s
  | cons sp sps ih =>
    exact (State.wrote_passesBy (hne sp (by simp)) s).trans (ih (fun a h => hne a (List.mem_cons_of_mem _ h)) _)

theorem State.wroteAll_unwritten (sps : List Span) (s : State) :
    (sps.foldl (fun u sp => u.wrote sp) s).unwritten = s.unwritten :=
  foldl_keeps_eq (fun u (sp : Span) => u.wrote sp) State.unwritten (fun u sp => State.wrote_unwritten sp u) sps s

/-- A context whose move is on none of the extents written stands. -/
theorem State.wroteAll_contexts {sps : List Span} {s : State} {c : Fin 4}
    (h : ∀ sp ∈ sps, s.contexts[c].extentInMove ≠ some sp.extent) :
    (sps.foldl (fun u sp => u.wrote sp) s).contexts[c] = s.contexts[c] := by
  induction sps generalizing s with
  | nil => rfl
  | cons sp sps ih =>
    have hstep : (s.wrote sp).contexts[c] = s.contexts[c] := by
      unfold State.wrote
      split
      · exact (map_getElem_fin _ _ c).trans (Context.written_of_ne _ _ _ (h sp (by simp)))
      · rfl
    exact (ih fun a ha => by rw [hstep]; exact h a (List.mem_cons_of_mem _ ha)).trans hstep

/-- Where the Dirty List says right of an extent, a WRITE puts it at the tail where it makes a clean record dirty, and
leaves the list otherwise (R8, R60). -/
theorem State.wrote_dirtyList {es : List Nat} {sp : Span} {s : State} (h : s.DirtyListed es) (he : sp.extent ∈ es)
    (hr : s.residentOf sp.extent ≠ none) :
    (s.wrote sp).dirtyList =
      s.dirtyList ++ if (s.writeOf sp).flash != 0#32 && !s.dirtyList.contains sp.extent then [sp.extent] else [] := by
  obtain ⟨r, hr⟩ := Option.ne_none_iff_exists'.1 hr
  have hx := State.residentOf_extent hr
  have hd := h _ he r hr
  rw [State.wrote_resident hr, State.writeOf_resident hr]
  refine (State.store_dirtyList .tail (r.written (sp.writeFlash r (s.policyOf sp.extent))) s).trans ?_
  rw [show (r.written (sp.writeFlash r (s.policyOf sp.extent))).extent = sp.extent from hx]
  show (if r.dirty ||| sp.writeFlash r (s.policyOf sp.extent) = 0#32 then without sp.extent s.dirtyList
    else if sp.extent ∈ s.dirtyList then s.dirtyList else s.dirtyList ++ [sp.extent]) =
    s.dirtyList ++ if sp.writeFlash r (s.policyOf sp.extent) != 0#32 && _ then _ else _
  generalize sp.writeFlash r (s.policyOf sp.extent) = flash
  by_cases hm : sp.extent ∈ s.dirtyList
  · have hdirty : r.dirty ||| flash ≠ 0#32 := fun k => hd.1 hm (BitVec.or_eq_zero_iff.1 k).1
    simp [hm, hdirty]
  · have hclean : r.dirty = 0#32 := by
      by_contra k
      exact hm (hd.2 k)
    by_cases hf : flash = 0#32
    · simp [hclean, hf, without_of_notMem _ _ hm]
    · simp [hclean, hf, hm]

theorem State.wroteAll_dirtyList {sps : List Span} (hn : (sps.map (·.extent)).Nodup) {s : State}
    (h : s.DirtyListed (sps.map (·.extent))) (hr : ∀ sp ∈ sps, s.residentOf sp.extent ≠ none) :
    (sps.foldl (fun u sp => u.wrote sp) s).dirtyList =
      s.dirtyList ++ ((sps.filter fun sp => (s.writeOf sp).flash != 0#32 && !s.dirtyList.contains sp.extent).map
        (·.extent)) := by
  induction sps generalizing s with
  | nil => simp
  | cons sp sps ih =>
    obtain ⟨ha, hn⟩ := List.nodup_cons.1 hn
    have hstep := State.wrote_dirtyList h (by simp) (hr sp (by simp))
    have hne (a : Span) (hm : a ∈ sps) : a.extent ≠ sp.extent := fun k => ha (List.mem_map.2 ⟨a, hm, k⟩)
    have hmem (a : Span) (hm : a ∈ sps) : a.extent ∈ (s.wrote sp).dirtyList ↔ a.extent ∈ s.dirtyList := by
      rw [hstep, List.mem_append]
      split <;> simp [hne a hm]
    have hpol (e : Nat) : (s.wrote sp).policyOf e = s.policyOf e := by
      have := congrArg State.windows (State.wrote_unwritten sp s)
      simp only [State.policyOf, show (s.wrote sp).windows = s.windows from this]
    have hrest := ih hn (s := s.wrote sp) (fun e he r' hr' => by
      obtain ⟨a, hm, rfl⟩ := List.mem_map.1 he
      rw [hmem a hm]
      exact h _ (List.mem_map.2 ⟨a, List.mem_cons_of_mem _ hm, rfl⟩) r'
        ((State.wrote_passesBy (hne a hm) s).resident.symm.trans hr'))
      fun a hm k => hr a (List.mem_cons_of_mem _ hm) ((State.wrote_isSome sp s _).1 k)
    have hfilter : sps.filter (fun a => ((s.wrote sp).writeOf a).flash != 0#32 && !(s.wrote sp).dirtyList.contains a.extent) =
        sps.filter (fun a => (s.writeOf a).flash != 0#32 && !s.dirtyList.contains a.extent) :=
      List.filter_congr fun a hm => by
        rw [State.writeOf_congr (State.wrote_passesBy (hne a hm) s).resident (hpol _), List.contains_eq_mem,
          List.contains_eq_mem, decide_eq_decide.2 (hmem a hm)]
    rw [List.foldl_cons, hrest, hfilter, hstep, List.append_assoc, List.filter_cons]
    split <;> rfl

theorem filter_eq_without {es : List Nat} {p q : Nat → Bool} {e : Nat} (hne : ∀ x ∈ es, x ≠ e → q x = p x)
    (he : q e = false) : es.filter q = without e (es.filter p) := by
  rw [without, List.filter_filter]
  refine List.filter_congr fun x hx => ?_
  by_cases hxe : x = e
  · subst hxe
    simp [he]
  · simp [hne x hx hxe, hxe]

/-- A WRITE keeps the tails of the clean lists: a record that it makes dirty leaves its list (R18). -/
theorem State.Tailed.wrote {es : List Nat} {s : State} (h : s.Tailed es) {sp : Span} (hm : sp.extent ∈ es) :
    (s.wrote sp).Tailed es := by
  cases hr : s.residentOf sp.extent with
  | none =>
    unfold State.wrote
    rw [hr]
    exact h
  | some r =>
    have hx := State.residentOf_extent hr
    have hres := (State.writeResident_wroteTo hr).resident
    intro b
    have hother (x : Nat) (hne : x ≠ sp.extent) : (s.wrote sp).residentOf x = s.residentOf x :=
      (State.wrote_passesBy hne s).resident
    have hclean : (s.wrote sp).clean.get b =
        if (r.written (sp.writeFlash r (s.policyOf sp.extent))).cleanBand = some b then
          (if sp.extent ∈ s.clean.get b then s.clean.get b else joinEnd .tail sp.extent (s.clean.get b))
        else without sp.extent (s.clean.get b) := by
      rw [State.wrote_resident hr]
      refine (State.store_clean .tail (r.written (sp.writeFlash r (s.policyOf sp.extent))) s b).trans ?_
      rw [show (r.written (sp.writeFlash r (s.policyOf sp.extent))).extent = sp.extent from hx]
    rw [hclean]
    rw [← State.wrote_resident hr] at hres
    generalize sp.writeFlash r (s.policyOf sp.extent) = flash at hres ⊢
    have hany : ((s.wrote sp).residentOf sp.extent).any (fun u => u.cleanBand == some b) =
        decide ((r.written flash).cleanBand = some b) := by
      rw [hres, Option.any_some, Resident.settled_cleanBand, beq_eq_decide]
    by_cases hb : (r.written flash).cleanBand = some b
    · have hold : r.cleanBand = some b := by
        unfold Resident.cleanBand at hb ⊢
        rw [Option.ite_none_right_eq_some] at hb ⊢
        exact ⟨⟨(BitVec.or_eq_zero_iff.1 hb.1.1).1, hb.1.2⟩, hb.2⟩
      have hsame : es.filter (fun x => ((s.wrote sp).residentOf x).any fun u => u.cleanBand == some b) =
          es.filter (fun x => (s.residentOf x).any fun u => u.cleanBand == some b) :=
        List.filter_congr fun x _ => by
          by_cases hxe : x = sp.extent
          · rw [hxe, hany, hr]
            simp [hb, hold]
          · rw [hother x hxe]
      have hin : sp.extent ∈ s.clean.get b :=
        (h b).subset (List.mem_filter.2 ⟨hm, by simp [hr, hold]⟩)
      rw [hsame, if_pos hb, if_pos hin]
      exact h b
    · rw [if_neg hb, filter_eq_without (e := sp.extent)
        (p := fun x => (s.residentOf x).any fun u => u.cleanBand == some b) (fun x _ hne => by rw [hother x hne])
        (by rw [hany]; simp [hb])]
      exact suffix_without (h b) _

theorem State.Tailed.wroteAll {es : List Nat} {sps : List Span} {s : State} (h : s.Tailed es)
    (hm : ∀ sp ∈ sps, sp.extent ∈ es) : (sps.foldl (fun u sp => u.wrote sp) s).Tailed es := by
  induction sps generalizing s with
  | nil => exact h
  | cons sp sps ih => exact ih (h.wrote (hm sp (by simp))) fun a ha => hm a (List.mem_cons_of_mem _ ha)

end Sys2Proof.Machine

end

section
/-! PROOFS. A WRITE to resident extents. -/

namespace Sys2Proof.Machine

theorem Resident.settled_drainMark_of_not {r : Resident} (h : r.drainMark = false) : r.settled.drainMark = false := by
  rw [Resident.settled_eq]
  simp [h]

theorem Resident.isEmpty_eq_decide (r : Resident) : r.isEmpty = decide (r.valid = 0#32 ∧ r.lost = 0#32) := by
  rw [Bool.eq_iff_iff, Resident.isEmpty_iff, decide_eq_true_iff]

/-- A WRITE that is taken and routed, of a state whose decisions and changes follow its examination. -/
theorem State.decided_write {q : Parked} (h : q.kind = .write) (s : State) :
    s.decided q = (s.examineRoute q).decideSpans .write ((routeSpans q.lba q.count).map (·.extent))
      (routeSpans q.lba q.count) := by
  unfold State.decided State.decideRoute
  rw [h]

/-- The last record of a state that ends an event: the segments it had, and the drain mark it had or none. -/
theorem State.Recorded.residentOf {q : Parked} {ds : List Decision} {v t : State} (h : State.Recorded q ds v t) {e : Nat}
    {r : Resident} (hr : v.residentOf e = some r) :
    ∃ u, t.residentOf e = some u ∧ (r.drainMark = false → u.drainMark = false) := by
  obtain ⟨m, ht, hm⟩ := h.resident e r hr
  exact ⟨_, ht, hm⟩

/-- Whether a record belongs on a clean list says nothing of its drain mark, so the end of an event keeps it. -/
theorem State.Recorded.cleanBand {q : Parked} {ds : List Decision} {v t : State} (h : State.Recorded q ds v t) (b : Band)
    (e : Nat) :
    ((t.residentOf e).any fun u => u.cleanBand == some b) = ((v.residentOf e).any fun u => u.cleanBand == some b) := by
  cases hr : v.residentOf e with
  | none =>
    have := (h.segmentsOf e).trans (State.segmentsOf_eq_none.2 hr)
    rw [State.segmentsOf_eq_none.1 this]
  | some r =>
    obtain ⟨m, ht, -⟩ := h.resident e r hr
    rw [ht]
    rfl

/-- The first part of O15: a WRITE at one of its extents, which is resident. -/
theorem exec_write_at {s : State} {tag lba count : Nat} {q : Parked} {sp : Span} {r : Resident} {ws : List Word}
    (hv : s.service = .serving) (hq : validRoute tag 1 lba count = some q) (ht : s.tagInUse tag = false)
    (hp : s.routeParks q = false) (ho : s.offered .front (.route tag 1 lba count) = some ws)
    (hsp : sp ∈ routeSpans lba count) (hr : s.residentOf sp.extent = some r) :
    ∃ t u x r₁, exec (.route tag 1 lba count) s = .next t ∧ r.Reheated r₁ ∧
      State.WroteTo sp r₁ (sp.writeFlash r (s.policyOf sp.extent)) s u ∧
      (∃ ds, State.Recorded q ds u t) ∧
      t.routes = insertBy (·.tag) x s.routes ∧ x.tag = tag ∧ x.kind = .write ∧
      ((x.first = sp.extent ∧ x.firstFlash = sp.writeFlash r (s.policyOf sp.extent)) ∨
        x.second = some (sp.extent, sp.writeFlash r (s.policyOf sp.extent))) := by
  obtain ⟨t, hexec, hrec⟩ := exec_route_recorded hv hq ht hp ho
  obtain ⟨k, hwrite, hqe, -, -⟩ := validRoute_eq hq
  obtain rfl : RouteKind.write = k := Option.some.inj hwrite
  have hkind : q.kind = .write := by rw [hqe]
  have hk : q.kind ≠ .trim := by rw [hkind]; simp
  have hu := State.examineRoute_unweighed q (s.popFifo .front)
  obtain ⟨r₁, hr₁, hheat⟩ := (State.examineRoute_reheats q (s.popFifo .front)).resident sp.extent r hr
  have hroutes := State.undecided_routes (State.decided_undecided q (s.popFifo .front))
  rw [State.trimEnded_of_ne hk] at hrec
  have hflash : sp.writeFlash r₁ (((s.popFifo .front).examineRoute q).policyOf sp.extent) =
      sp.writeFlash r (s.policyOf sp.extent) := by
    rw [State.unweighed_policyOf hu]
    exact congrArg Decision.flash (sp.writeDecision_reheated hheat _)
  have hcontexts : ((s.popFifo .front).examineRoute q).contexts = s.contexts := (State.unweighed_contexts hu :)
  obtain ⟨i, hi, hplace⟩ : ∃ i, (routeSpans lba count)[i]? = some sp ∧ (i = 0 ∨ i = 1) := by
    rcases routeSpans_place hsp with h | h
    · exact ⟨0, h, .inl rfl⟩
    · exact ⟨1, h, .inr rfl⟩
  obtain ⟨hd, hw⟩ := State.decideSpans_write_at (x := (routeSpans lba count).map (·.extent)) (routeSpans_nodup lba count)
    (fun a ha => List.mem_map.2 ⟨a, ha, rfl⟩) hi hr₁
  rw [hflash] at hw
  have hdec := State.decided_write hkind (s.popFifo .front)
  rw [show routeSpans q.lba q.count = routeSpans lba count by rw [hqe]] at hdec
  rw [hdec] at hrec hroutes
  generalize State.decideSpans _ _ _ _ = o at hrec hroutes hd hw
  refine ⟨t, o.2, routeEntry q o.1, r₁, hexec, hheat, ⟨hw.resident, hw.promo, fun c hc => ?_⟩, ⟨_, hrec⟩,
    hrec.routes.trans ?_, ?_, ?_, ?_⟩
  · rw [hw.contexts c (by rw [hcontexts]; exact hc), hcontexts]
  · rw [hroutes]
    rfl
  · rw [hqe]
    rfl
  · exact hkind
  · rcases hplace with rfl | rfl
    · have := (routeEntry_at hk).1 hd
      exact .inl ⟨this.1, this.2.trans hflash⟩
    · exact .inr (((routeEntry_at hk).2 hd).trans (congrArg (fun f => some (sp.extent, f)) hflash))

/-- A WRITE whose extents are all resident, as its examination, its decisions and its changes extent by extent. -/
theorem State.decided_write_residents {q : Parked} (h : q.kind = .write) {s : State}
    (hr : ∀ sp ∈ routeSpans q.lba q.count, s.residentOf sp.extent ≠ none) :
    s.decided q = ((routeSpans q.lba q.count).map s.writeOf,
      (routeSpans q.lba q.count).foldl (fun u sp => u.wrote sp) (s.examineRoute q)) := by
  have hheat := State.examineRoute_reheats q s
  have hds : (routeSpans q.lba q.count).map (s.examineRoute q).writeOf = (routeSpans q.lba q.count).map s.writeOf :=
    List.map_congr_left fun sp _ => hheat.writeOf (State.examineRoute_unweighed q s) sp
  rw [State.decided_write h, State.decideSpans_write_residents _ (routeSpans_nodup _ _)
    (fun sp hsp k => hr sp hsp ((hheat.isSome _).1 k)), hds]

/-- Before its changes, a WRITE leaves the Dirty List where the list says right of its extents. -/
theorem State.examineRoute_write_dirtyListed {q : Parked} (h : q.kind = .write) {s : State}
    (hd : s.DirtyListed ((routeSpans q.lba q.count).map (·.extent))) :
    (s.examineRoute q).dirtyList = s.dirtyList ∧
      (s.examineRoute q).DirtyListed ((routeSpans q.lba q.count).map (·.extent)) := by
  have hl : (s.examineRoute q).dirtyList = s.dirtyList := by
    rw [State.examineRoute_write h]
    exact State.weighAll_dirtyList (s := (s.classify q.lba q.count).2) _ (fun sp hsp => List.mem_map.2 ⟨sp, hsp, rfl⟩) hd
  exact ⟨hl, (State.examineRoute_reheats q s).dirtyListed hl hd⟩

/-- After its changes, a WRITE's extents stand at the tails of their clean lists, in their order (R18). -/
theorem State.decided_write_tailed {q : Parked} (h : q.kind = .write) {s : State}
    (hr : ∀ sp ∈ routeSpans q.lba q.count, s.residentOf sp.extent ≠ none) :
    (s.decided q).2.Tailed ((routeSpans q.lba q.count).map (·.extent)) := by
  rw [State.decided_write_residents h hr, State.examineRoute_write h]
  have hnone : (s.classify q.lba q.count).2.Tailed [] := fun b => List.nil_suffix
  have hweighed := hnone.weighAll (s.writeWeight q) (routeSpans_nodup q.lba q.count) hr
  exact State.Tailed.wroteAll hweighed fun sp hsp => List.mem_map.2 ⟨sp, hsp, rfl⟩

end Sys2Proof.Machine

open Sys2Proof.Machine in
/-- Settles O15: the examination of the extents changes no segments, each resident extent's changes are its own, and
another extent's decision passes it by, an absorb among them, since victim choice takes no extent of the route. -/
theorem aWriteToAResidentExtentDirtiesItsFlashSegments : Obligations.AWriteToAResidentExtentDirtiesItsFlashSegments := by
  refine ⟨fun s tag lba count q sp r ws hv hq ht hp ho hsp hr => ?_,
    fun s tag lba count q ws hv hq ht hp ho hall => ?_, ?_, ?_, fun e a b bare x h => Context.written_of_ne a b bare h⟩
  · intro d
    obtain ⟨t, u, x, r₁, hexec, hheat, hw, ⟨ds, hrec⟩, hroutes, htag, hkind, hplace⟩ :=
      exec_write_at hv hq ht hp ho hsp hr
    have hflash : sp.writeFlash r (s.policyOf sp.extent) = d.flash := rfl
    rw [hflash] at hw hplace
    have habsent : r₁.absent = r.absent := by simp only [Resident.absent, hheat.valid, hheat.lost]
    have hempty : (r₁.written d.flash).isEmpty =
        decide (r.valid ||| d.flash = 0#32 ∧ segLess r.lost d.flash = 0#32) := by
      rw [Resident.isEmpty_eq_decide, ← hheat.valid, ← hheat.lost]
      rfl
    obtain ⟨m, htu, hm⟩ := hrec.residentOf hw.resident
    refine ⟨t, m, x, hexec, (hrec.segmentsOf _).trans ?_, fun c hc => ?_, fun k => ?_, htu, fun k => hm ?_, hroutes, htag,
      hkind, hplace⟩
    · rw [State.segmentsOf_of_resident hw.resident, ← hheat.slot, ← hheat.state, ← hheat.valid, ← hheat.dirty,
        ← hheat.lost]
      simp only [Resident.settled_slot, Resident.settled_state, Resident.settled_valid, Resident.settled_dirty,
        Resident.settled_lost]
      rfl
    · rw [hrec.contexts, hw.contexts c hc, habsent, hempty]
    · rw [hrec.promo]
      refine hw.promo ?_
      rw [← k, ← hheat.valid, ← hheat.lost]
      rfl
    · exact Resident.settled_drainMark_of_not (hheat.drainMark k)
  · intro ds
    obtain ⟨t, hexec, hrec⟩ := exec_route_recorded hv hq ht hp ho
    obtain ⟨k, hwrite, hqe, -, -⟩ := validRoute_eq hq
    obtain rfl : RouteKind.write = k := Option.some.inj hwrite
    have hkind : q.kind = .write := by rw [hqe]
    have hk : q.kind ≠ .trim := by rw [hkind]; simp
    have hds : ds = (routeSpans lba count).map s.writeOf := rfl
    have hspans : routeSpans q.lba q.count = routeSpans lba count := by rw [hqe]
    have hdec := State.decided_write_residents hkind (s := s.popFifo .front) (by rw [hspans]; exact hall)
    have htail := State.decided_write_tailed hkind (s := s.popFifo .front) (by rw [hspans]; exact hall)
    have hheat := State.examineRoute_reheats q (s.popFifo .front)
    have hw := State.examineRoute_unweighed q (s.popFifo .front)
    have hlisted := State.examineRoute_write_dirtyListed hkind (s := s.popFifo .front)
    rw [State.trimEnded_of_ne hk] at hrec
    rw [hspans] at hdec htail hlisted
    rw [hdec] at hrec htail
    generalize (s.popFifo .front).examineRoute q = v at hrec htail hheat hw hlisted
    have hun := State.wroteAll_unwritten (routeSpans lba count) v
    have hpasses {e : Nat} := State.wroteAll_passesBy (y := e) (sps := routeSpans lba count) (s := v)
    have hcontexts {c : Fin 4} := State.wroteAll_contexts (c := c) (sps := routeSpans lba count) (s := v)
    have hdirty := State.wroteAll_dirtyList (routeSpans_nodup lba count) (s := v)
    generalize (routeSpans lba count).foldl (fun u sp => u.wrote sp) v = w at hrec htail hun hpasses hcontexts hdirty
    dsimp only at hrec htail
    change State.Recorded q ds w t at hrec
    have hwake : w.forcedWake ds = false := State.forcedWake_of_none (fun d hd => by
      obtain ⟨sp, -, rfl⟩ := List.mem_map.1 (hds ▸ hd)
      exact (s.writeOf_no_absorb sp).1) w
    have habs : (ds.map fun d => segCount d.absorbed).sum = 0 := absorbed_sum_eq_zero fun d hd => by
      obtain ⟨sp, -, rfl⟩ := List.mem_map.1 (hds ▸ hd)
      exact (s.writeOf_no_absorb sp).2
    have hfront : w.front = v.front := (congrArg State.front hun :)
    have hroutes : w.routes = v.routes := (congrArg State.routes hun :)
    have hstat : w.stats = v.stats := (congrArg State.stats hun :)
    have hout := hrec.front
    rw [hwake, hfront, State.unweighed_front hw] at hout
    have hstats := hrec.stats
    rw [hwake, habs, hstat, State.unweighed_stats hw, hkind] at hstats
    refine ⟨t, hexec, fun e he => ?_, fun c hc => ?_, ?_, ?_, ?_, ?_, ?_, ?_, ?_, fun hl => ?_, fun b => ?_⟩
    · have h1 := (hpasses fun sp hsp => (he sp hsp).symm).resident
      exact (hrec.segmentsOf e).trans ((congrArg (Option.map _) h1).trans (hheat.segmentsOf e))
    · have hv : v.contexts = s.contexts := (State.unweighed_contexts hw :)
      rw [hrec.contexts, hcontexts (by rw [hv]; exact hc), hv]
    · rw [hqe] at hout
      exact hout
    · exact hrec.routes.trans (by rw [hroutes, State.unweighed_routes hw]; rfl)
    · exact hrec.free.trans ((congrArg State.free hun :).trans (State.unweighed_free hw :))
    · exact hrec.fences.trans ((congrArg State.fences hun :).trans (State.unweighed_fences hw :))
    · exact hrec.tickets.trans ((congrArg State.tickets hun :).trans (State.unweighed_tickets hw :))
    · exact hrec.parked.trans ((congrArg State.parked hun :).trans (State.unweighed_parked hw :))
    · exact hstats
    · obtain ⟨hsame, hv⟩ := hlisted fun e he r hr => by
        obtain ⟨sp, hsp, rfl⟩ := List.mem_map.1 he
        exact hl sp hsp r hr
      have hfilter : (routeSpans lba count).filter
          (fun sp => (v.writeOf sp).flash != 0#32 && !v.dirtyList.contains sp.extent) =
          (routeSpans lba count).filter (fun sp => (s.writeOf sp).flash != 0#32 && !s.dirtyList.contains sp.extent) :=
        List.filter_congr fun sp _ => by
          rw [hheat.writeOf hw, hsame]
          rfl
      rw [hrec.dirtyList, hdirty hv fun sp hsp k => hall sp hsp ((hheat.isSome _).1 k), hfilter, hsame, hds,
        List.filter_map, List.map_map]
      simp only [Function.comp_def, s.writeOf_span]
      rfl
    · rw [hrec.clean]
      simp only [hrec.cleanBand b]
      exact htail b
  · rintro e gone flash bare m rfl
    exact if_pos rfl
  · rintro e gone flash bare m rfl
    exact if_pos rfl
end

section
/-! SUPPORT. The retirements and the marks of a TRIM, one extent and two. -/

namespace Sys2Proof.Machine

/-! ### The slots of retirements -/

/-- A list of slots in ascending order. -/
def sortedSlots (l : List Nat) : List Nat := l.foldl (fun k n => insertBy id n k) []

theorem sortedSlots_of_le_one {l : List Nat} (h : l.length ≤ 1) : sortedSlots l = l := by
  match l, h with
  | [], _ => rfl
  | [_], _ => rfl

theorem sortedSlots_pair {a b : Nat} (h : a ≤ b) : sortedSlots [a, b] = [a, b] ∧ sortedSlots [b, a] = [a, b] := by
  refine ⟨?_, if_pos h⟩
  by_cases k : b ≤ a
  · obtain rfl : a = b := Nat.le_antisymm h k
    exact if_pos k
  · exact if_neg k

theorem mem_foldl_insertBy (l m : List Nat) (n : Nat) :
    n ∈ l.foldl (fun k n => insertBy id n k) m ↔ n ∈ m ∨ n ∈ l := by
  induction l generalizing m with
  | nil => simp
  | cons a l ih =>
    rw [List.foldl_cons, ih, mem_insertBy, List.mem_cons]
    tauto

/-- What the retirement of some slots, in their order, does to the free pool and to the flash port: with room, and nothing
owed there before, each RETIRE_SLOT is placed; behind a record owed it is owed (R101). -/
structure State.Retired (ms : List Nat) (s t : State) : Prop where
  free : t.free = ms.foldl (fun k n => insertBy id n k) s.free
  placed : s.flash.out.length + ms.length ≤ 16 → s.flashOwed = [] →
    t.flash.out = s.flash.out ++ ms.map .retireSlot ∧ t.flashOwed = []
  owed : s.flashOwed ≠ [] → t.flash.out = s.flash.out ∧ t.flashOwed = s.flashOwed ++ ms.map .retire

theorem State.Retired.refl (s : State) : State.Retired [] s s :=
  ⟨rfl, fun _ h => ⟨(List.append_nil _).symm, h⟩, fun _ => ⟨rfl, (List.append_nil _).symm⟩⟩

theorem State.Retired.trans {ms ns : List Nat} {s t u : State} (h : State.Retired ms s t) (k : State.Retired ns t u) :
    State.Retired (ms ++ ns) s u where
  free := by rw [k.free, h.free, List.foldl_append]
  placed hl ho := by
    rw [List.length_append] at hl
    obtain ⟨h1, h2⟩ := h.placed (by omega) ho
    obtain ⟨h3, h4⟩ := k.placed (by rw [h1, List.length_append, List.length_map]; omega) h2
    exact ⟨by rw [h3, h1, List.append_assoc, List.map_append], h4⟩
  owed ho := by
    obtain ⟨h1, h2⟩ := h.owed ho
    obtain ⟨h3, h4⟩ := k.owed (by rw [h2]; exact fun e => ho (List.append_eq_nil_iff.1 e).1)
    exact ⟨h3.trans h1, by rw [h4, h2, List.append_assoc, List.map_append]⟩

theorem State.Retired.of_remove (r : Resident) (s : State) : State.Retired [r.slot] s (s.remove .freed r) where
  free := State.remove_freed_free r s
  placed hl ho := (State.remove_freed_announces r s).1 hl ho
  owed ho := (State.remove_freed_announces r s).2 (.inr ho)

/-- The slot of an extent's record, if the record is retired where its hold ends. -/
def State.retiredSlots (s : State) (e : Nat) : List Nat :=
  match s.residentOf e with
  | none => []
  | some r => if s.retires e = true then [r.slot] else []

theorem State.retiredSlots_of_kept {s : State} {e : Nat} (h : s.retires e = false) : s.retiredSlots e = [] := by
  unfold State.retiredSlots
  split
  · rfl
  · exact if_neg (by simp [h])

theorem State.retiredSlots_of_retired {s : State} {e : Nat} {r : Resident} (hr : s.residentOf e = some r)
    (h : s.retires e = true) : s.retiredSlots e = [r.slot] := by
  simp [State.retiredSlots, hr, h]

theorem State.retiredSlots_length_le (s : State) (e : Nat) : (s.retiredSlots e).length ≤ 1 := by
  unfold State.retiredSlots
  split
  · exact Nat.zero_le _
  · split <;> simp

theorem State.retiredSlots_retireIfEmpty_of_ne {e x : Nat} (h : x ≠ e) (s : State) :
    (s.retireIfEmpty .freed e).retiredSlots x = s.retiredSlots x := by
  unfold State.retiredSlots
  rw [State.residentOf_retireIfEmpty_of_ne .freed s h, State.retires_retireIfEmpty_of_ne .freed s h]

theorem State.retireIfEmpty_retired (e : Nat) (s : State) :
    State.Retired (s.retiredSlots e) s (s.retireIfEmpty .freed e) := by
  rcases State.retireIfEmpty_cases .freed e s with ⟨h1, h2⟩ | ⟨r, hr, h1, h2⟩ <;> rw [h2]
  · rw [State.retiredSlots_of_kept h1]
    exact .refl s
  · rw [State.retiredSlots_of_retired hr h1]
    exact .of_remove r s

theorem State.retireIfEmpty_pair_retired {a b : Nat} (h : a ≠ b) (s : State) :
    State.Retired (s.retiredSlots a ++ s.retiredSlots b) s ((s.retireIfEmpty .freed a).retireIfEmpty .freed b) := by
  have hb := State.retireIfEmpty_retired b (s.retireIfEmpty .freed a)
  rw [State.retiredSlots_retireIfEmpty_of_ne h.symm] at hb
  exact (State.retireIfEmpty_retired a s).trans hb

theorem State.retireEmpties_one (a : Nat) (s : State) : s.retireEmpties [a] = s.retireIfEmpty .freed a := by
  have ha : (s.retireIfEmpty .freed a).retireIfEmpty .freed a = s.retireIfEmpty .freed a :=
    State.retireIfEmpty_of_kept (State.retires_retireIfEmpty_same .freed a s)
  rcases State.retireEmpties_pair (es := [a]) (a := a) (b := a) (by simp) s with k | k
  · exact k.trans ha
  · exact k.trans ha

/-- The table's order names the record of the lower slot first (R2, R101). -/
def State.SlotsInOrder (es : List Nat) (s : State) : Prop :=
  ∀ a ∈ es, ∀ b ∈ es, a ≠ b → ∀ r u, s.residentOf a = some r → s.residentOf b = some u → r.slot ≤ u.slot →
    (s.presentAmong es).head? = some a

/-- The retirements among one extent or two, each once, and in ascending slot order where the table stands in it (R101). -/
theorem State.retireEmpties_retired {es : List Nat} (hn : es.Nodup) (hl : es.length ≤ 2) (s : State) :
    ∃ ms, State.Retired ms s (s.retireEmpties es) ∧ ms.Perm (es.flatMap s.retiredSlots) ∧
      (s.SlotsInOrder es ∨ (es.flatMap s.retiredSlots).length ≤ 1 → ms = sortedSlots (es.flatMap s.retiredSlots)) := by
  match es, hn, hl with
  | [], _, _ =>
    refine ⟨[], ?_, .refl _, fun _ => rfl⟩
    rw [State.retireEmpties_of_kept (by simp)]
    exact .refl s
  | [a], _, _ =>
    have ha : [a].flatMap s.retiredSlots = s.retiredSlots a := List.flatMap_singleton _ _
    have hlen := s.retiredSlots_length_le a
    rw [ha, State.retireEmpties_one]
    exact ⟨_, State.retireIfEmpty_retired a s, .refl _, fun _ => (sortedSlots_of_le_one hlen).symm⟩
  | [a, b], hn, _ =>
    have hab : a ≠ b := by simpa using hn
    have hmem : ∀ y, y ∈ [a, b] ↔ y = a ∨ y = b := by simp
    have hflat : [a, b].flatMap s.retiredSlots = s.retiredSlots a ++ s.retiredSlots b := by simp
    rw [hflat]
    have h1 := State.retireIfEmpty_pair_retired hab s
    have h2 := State.retireIfEmpty_pair_retired hab.symm s
    by_cases hboth : s.retires a = true ∧ s.retires b = true
    · cases hr : s.residentOf a with
      | none => exact absurd hboth.1 (by simp [State.retires_of_none hr])
      | some r =>
        cases hu : s.residentOf b with
        | none => exact absurd hboth.2 (by simp [State.retires_of_none hu])
        | some u =>
          rw [State.retiredSlots_of_retired hr hboth.1, State.retiredSlots_of_retired hu hboth.2] at h1 h2 ⊢
          have hlen : ¬ ([r.slot] ++ [u.slot]).length ≤ 1 := by simp
          have hlist := fun y (hy : y ∈ s.presentAmong [a, b]) => (hmem y).1 (by simpa using (List.mem_filter.1 hy).2)
          have ha := State.retires_of_not_present (s := s) (e := a) (es := [a, b]) (by simp)
          have hb := State.retires_of_not_present (s := s) (e := b) (es := [a, b]) (by simp)
          by_cases hhead : (s.presentAmong [a, b]).head? = some a
          · have heq : s.retireEmpties [a, b] = (s.retireIfEmpty .freed a).retireIfEmpty .freed b :=
              State.retireList_of_head hlist hb hhead
            refine ⟨_, heq ▸ h1, .refl _, fun k => ?_⟩
            have hord := k.resolve_right hlen
            by_cases hle : r.slot ≤ u.slot
            · exact (sortedSlots_pair hle).1.symm
            · have := hord b (by simp) a (by simp) hab.symm u r hu hr (by omega)
              exact absurd (Option.some.inj (hhead.symm.trans this)) hab
          · obtain ⟨y, hy⟩ : ∃ y, (s.presentAmong [a, b]).head? = some y := by
              cases hh : (s.presentAmong [a, b]).head? with
              | some y => exact ⟨y, rfl⟩
              | none =>
                rw [List.head?_eq_none_iff] at hh
                exact absurd hboth.1 (by rw [ha (by rw [hh]; simp)]; simp)
            have hyb : y = b := (hlist y (List.mem_of_head? hy)).resolve_left fun k => hhead (k ▸ hy)
            subst hyb
            have heq : s.retireEmpties [a, y] = (s.retireIfEmpty .freed y).retireIfEmpty .freed a :=
              State.retireList_of_head (fun z hz => (hlist z hz).symm) ha hy
            refine ⟨_, heq ▸ h2, .swap _ _ _, fun k => ?_⟩
            have hord := k.resolve_right hlen
            by_cases hle : r.slot ≤ u.slot
            · exact absurd (hord a (by simp) y (by simp) hab r u hr hu hle) hhead
            · exact (sortedSlots_pair (by omega)).2.symm
    · have hcomm : s.retiredSlots b ++ s.retiredSlots a = s.retiredSlots a ++ s.retiredSlots b ∧
          (s.retiredSlots a ++ s.retiredSlots b).length ≤ 1 := by
        rcases not_and_or.1 hboth with k | k
        · rw [State.retiredSlots_of_kept (e := a) (by simpa using k)]
          simpa using s.retiredSlots_length_le b
        · rw [State.retiredSlots_of_kept (e := b) (by simpa using k)]
          simpa using s.retiredSlots_length_le a
      rw [hcomm.1] at h2
      refine ⟨s.retiredSlots a ++ s.retiredSlots b, ?_, .refl _, fun _ => (sortedSlots_of_le_one hcomm.2).symm⟩
      rcases State.retireEmpties_pair hmem s with k | k <;> rw [k]
      · exact h1
      · exact h2

/-! ### The marks -/

/-- The TRIM_MARK of a decision, if it has one (R63). -/
def Decision.mark (d : Decision) : List Outbound := if d.trimmed = 0#32 then [] else [.trimMark d.slot d.trimmed]

theorem Decision.mark_length_le (d : Decision) : d.mark.length ≤ 1 := by
  unfold Decision.mark
  split <;> simp

theorem State.trimMark_eq {d : Decision} {s : State} (h : s.flash.out.length + d.mark.length ≤ 16) :
    s.trimMark d = { s with flash := { s.flash with out := s.flash.out ++ d.mark } } := by
  unfold State.trimMark
  unfold Decision.mark at h ⊢
  split
  · rw [List.append_nil]
  · rename_i k
    rw [if_neg k] at h
    exact State.place_of_room (p := .flash) _ (State.hasRoom_of_lt (p := .flash) h)

theorem State.trimMarks_eq {ds : List Decision} {s : State}
    (h : s.flash.out.length + (ds.flatMap Decision.mark).length ≤ 16) :
    ds.foldl State.trimMark s =
      { s with flash := { s.flash with out := s.flash.out ++ ds.flatMap Decision.mark } } := by
  induction ds generalizing s with
  | nil => simp
  | cons d ds ih =>
    rw [List.flatMap_cons, List.length_append] at h
    rw [List.foldl_cons, State.trimMark_eq (by omega), ih (by simp only [List.length_append]; omega), List.flatMap_cons,
      List.append_assoc]

end Sys2Proof.Machine
end

section
/-! SUPPORT. What a TRIM does at an extent, and leaves of the others. -/

namespace Sys2Proof.Machine

/-! ### The examination of a TRIM's extents -/

theorem State.examine_watch_of_resident {s : State} {e : Nat} {r : Resident} (w : Nat) (h : s.residentOf e = some r) :
    (s.examine w e).watch = s.watch := by
  have := State.examineResident_unexamined w r s
  simp only [State.examine, h]
  exact (congrArg State.watch this :)

theorem State.examine_watch_of_unknown {s : State} {e : Nat} (w : Nat) (hr : s.residentOf e = none)
    (hw : s.watchOf e = none) : s.examine w e = s := by
  simp only [State.examine, hr, hw]

theorem State.examine_watched {s : State} {e : Nat} {x : WatchEntry} (w : Nat) (hr : s.residentOf e = none)
    (hw : s.watchOf e = some x) : s.examine w e = s.examineWatched w x := by
  simp only [State.examine, hr, hw]

theorem State.examineWatched_watch (w : Nat) (x : WatchEntry) (s : State) :
    (s.examineWatched w x).watch = (s.setWatchHeat x.extent (s.heatNow w x.heat)).watch := by
  rw [State.examineWatched_eq, State.adjustPromo_watch]

theorem State.watchOf_examine_of_ne {e y : Nat} (h : y ≠ e) (w : Nat) (s : State) :
    (s.examine w e).watchOf y = s.watchOf y := by
  cases hr : s.residentOf e with
  | some r => exact State.watchOf_congr (State.examine_watch_of_resident w hr) y
  | none =>
    cases hw : s.watchOf e with
    | none => rw [State.examine_watch_of_unknown w hr hw]
    | some x =>
      rw [State.examine_watched w hr hw, State.watchOf_congr (State.examineWatched_watch w x s)]
      exact State.watchOf_setWatchHeat_of_ne _ s (by rw [State.Becomes.watchOf_extent hw]; exact h)

theorem State.watchOf_examine_same {s : State} {e : Nat} {x : WatchEntry} (w : Nat) (hr : s.residentOf e = none)
    (hw : s.watchOf e = some x) : (s.examine w e).watchOf e = some { x with heat := s.heatNow w x.heat } := by
  have he := State.Becomes.watchOf_extent hw
  have := State.watchOf_examineWatched w (s := s) (x := x) (by rw [he]; exact hw)
  rw [he, ← State.examine_watched w hr hw] at this
  rw [this, ← he]

theorem State.examine_watch_extents (w e : Nat) (s : State) :
    (s.examine w e).watch.map (·.extent) = s.watch.map (·.extent) := by
  cases hr : s.residentOf e with
  | some r => rw [State.examine_watch_of_resident w hr]
  | none =>
    cases hw : s.watchOf e with
    | none => rw [State.examine_watch_of_unknown w hr hw]
    | some x =>
      rw [State.examine_watched w hr hw, State.examineWatched_watch]
      exact State.setWatchHeat_map _ _ _ _ fun _ => rfl

theorem State.examine_extents (w e : Nat) (s : State) :
    (s.examine w e).records.map (·.extent) = s.records.map (·.extent) := by
  unfold State.examine
  split
  · rename_i r _
    rw [State.examineResident_eq, State.adjustPromo_records]
    exact State.store_extents (catchUpEnd r (s.caughtUpRecord w r)) (s.caughtUpRecord w r) s
  · split
    · rw [State.examineWatched_records]
    · rfl

theorem State.examineRoute_trim {q : Parked} (h : q.kind = .trim) (s : State) :
    s.examineRoute q = (routeSpans q.lba q.count).foldl (fun u sp => u.examine 0 sp.extent) s := by
  simp only [State.examineRoute, h]

theorem State.heatNow_congr {s t : State} (h : t.unweighed = s.unweighed) (w : Nat) (k : Heat) :
    t.heatNow w k = s.heatNow w k := by
  simp only [State.heatNow, State.unweighed_settings h, State.unweighed_epoch h]

theorem State.examineAll_watchOf_of_ne {y : Nat} {sps : List Span} (h : ∀ sp ∈ sps, y ≠ sp.extent) (s : State) :
    (sps.foldl (fun u sp => u.examine 0 sp.extent) s).watchOf y = s.watchOf y := by
  induction sps generalizing s with
  | nil => rfl
  | cons a sps ih =>
    exact (ih (fun b hb => h b (List.mem_cons_of_mem _ hb)) _).trans (State.watchOf_examine_of_ne (h a (by simp)) 0 s)

/-- The examination of several extents, each once: the extents of the two tables stand, and each watch entry examined is
caught up (R24, R61). -/
theorem State.examineAll_watchOf {sps : List Span} (hn : (sps.map (·.extent)).Nodup) {sp : Span} (hsp : sp ∈ sps) {s : State}
    {x : WatchEntry} (hr : s.residentOf sp.extent = none) (hw : s.watchOf sp.extent = some x) :
    (sps.foldl (fun u sp => u.examine 0 sp.extent) s).watchOf sp.extent = some { x with heat := s.heatNow 0 x.heat } := by
  induction sps generalizing s x with
  | nil => cases hsp
  | cons a sps ih =>
    obtain ⟨ha, hn⟩ := List.nodup_cons.1 hn
    rcases List.mem_cons.1 hsp with rfl | hsp
    · rw [List.foldl_cons, State.examineAll_watchOf_of_ne (fun b hb k => ha (List.mem_map.2 ⟨b, hb, k.symm⟩)),
        State.watchOf_examine_same 0 hr hw]
    · have hne : sp.extent ≠ a.extent := fun k => ha (List.mem_map.2 ⟨sp, hsp, k⟩)
      have := ih hn hsp (s := s.examine 0 a.extent) (x := x)
        (((State.examine_reheats 0 a.extent s).isSome _).2 hr) ((State.watchOf_examine_of_ne hne 0 s).trans hw)
      rwa [State.heatNow_congr (State.examine_unweighed 0 a.extent s)] at this

theorem State.examineAll_extents (sps : List Span) (s : State) :
    (sps.foldl (fun u sp => u.examine 0 sp.extent) s).records.map (·.extent) = s.records.map (·.extent) :=
  foldl_keeps_eq _ (fun u : State => u.records.map (·.extent)) (fun u (sp : Span) => State.examine_extents 0 sp.extent u) sps s

theorem State.examineAll_watch_length (sps : List Span) (s : State) :
    (sps.foldl (fun u sp => u.examine 0 sp.extent) s).watch.length = s.watch.length :=
  foldl_keeps_eq _ (fun u : State => u.watch.length) (fun u (sp : Span) => by
    simpa using congrArg List.length (State.examine_watch_extents 0 sp.extent u)) sps s

/-! ### The trimmed extents -/

/-- What a TRIM decides for a span, by the map as it stands (R61, R63). -/
def State.trimOf (s : State) (sp : Span) : Decision :=
  match s.residentOf sp.extent with
  | some r => sp.trimDecision r.slot (sp.full &&& (r.valid ||| r.lost))
  | none => sp.trimDecision 0 0#32

/-- The state after a TRIM's changes at one extent. -/
def State.trimmed (sp : Span) (s : State) : State := (s.trimExtent sp).2

theorem State.trimExtent_eq (sp : Span) (s : State) : s.trimExtent sp = (s.trimOf sp, s.trimmed sp) := by
  refine Prod.ext ?_ rfl
  unfold State.trimExtent State.trimOf
  cases s.residentOf sp.extent <;> rfl

theorem State.trimOf_congr {s t : State} {sp : Span} (h : t.residentOf sp.extent = s.residentOf sp.extent) :
    t.trimOf sp = s.trimOf sp := by
  unfold State.trimOf
  rw [h]

theorem State.trimOf_span (s : State) (sp : Span) : (s.trimOf sp).span = sp := by
  unfold State.trimOf
  split <;> rfl

theorem State.trimOf_no_absorb (s : State) (sp : Span) : (s.trimOf sp).failed = false ∧ (s.trimOf sp).absorbed = 0#32 := by
  unfold State.trimOf
  split <;> exact ⟨rfl, rfl⟩

theorem State.Reheats.trimOf {s t : State} (h : s.Reheats t) (sp : Span) : t.trimOf sp = s.trimOf sp := by
  cases hr : s.residentOf sp.extent with
  | none => exact State.trimOf_congr ((h.absent _ hr).trans hr.symm)
  | some r =>
    obtain ⟨r', hr', k⟩ := h.resident _ r hr
    unfold State.trimOf
    rw [hr, hr']
    dsimp only
    rw [k.slot, k.valid, k.lost]

theorem State.trimmed_resident {s : State} {sp : Span} {r : Resident} (h : s.residentOf sp.extent = some r) :
    s.trimmed sp = { s.store .tail (r.trim sp.full) with
      contexts := s.contexts.map (Context.trimmed sp.extent sp.full) } := by
  simp only [State.trimmed, State.trimExtent, h]
  rfl

theorem State.trimmed_absent {s : State} {sp : Span} (h : s.residentOf sp.extent = none) :
    s.trimmed sp = if sp.full = SegSet.all ∧ (s.watchOf sp.extent).isSome then (s.unwatch sp.extent).unqueue sp.extent
      else s := by
  simp only [State.trimmed, State.trimExtent, h]

/-- A state without what a TRIM changes at an extent. -/
def State.untrimmed (s : State) : State := { s.unweighed with contexts := Vector.replicate 4 .idle }

theorem State.trimmed_untrimmed (sp : Span) (s : State) : (s.trimmed sp).untrimmed = s.untrimmed := by
  cases hr : s.residentOf sp.extent with
  | none =>
    rw [State.trimmed_absent hr]
    split <;> rfl
  | some r =>
    rw [State.trimmed_resident hr]
    rfl

theorem State.trimmed_extents (sp : Span) (s : State) :
    (s.trimmed sp).records.map (·.extent) = s.records.map (·.extent) := by
  cases hr : s.residentOf sp.extent with
  | none =>
    rw [State.trimmed_absent hr]
    split <;> rfl
  | some r =>
    rw [State.trimmed_resident hr]
    exact State.store_extents .tail (r.trim sp.full) s

theorem State.trimmed_watch_length_le (sp : Span) (s : State) : (s.trimmed sp).watch.length ≤ s.watch.length := by
  cases hr : s.residentOf sp.extent with
  | none =>
    rw [State.trimmed_absent hr]
    split
    · exact List.length_filter_le _ _
    · exact Nat.le_refl _
  | some r =>
    rw [State.trimmed_resident hr]
    exact Nat.le_refl _

/-- A TRIM leaves an extent aside: its record and the move in flight on it stand, its watch entry stands, and it joins no
list. -/
structure State.LeavesAside (y : Nat) (s t : State) : Prop extends State.PassesBy y s t where
  dirty : y ∈ t.dirtyList → y ∈ s.dirtyList
  watch : t.watchOf y = s.watchOf y

theorem State.LeavesAside.refl (y : Nat) (s : State) : s.LeavesAside y s := ⟨.refl s, id, rfl⟩

theorem State.LeavesAside.trans {y : Nat} {s t u : State} (h : s.LeavesAside y t) (k : t.LeavesAside y u) :
    s.LeavesAside y u :=
  ⟨h.toPassesBy.trans k.toPassesBy, fun m => h.dirty (k.dirty m), k.watch.trans h.watch⟩

theorem State.watchOf_unwatch_of_ne {y e : Nat} (h : y ≠ e) (s : State) : (s.unwatch e).watchOf y = s.watchOf y := by
  unfold State.watchOf State.unwatch
  rw [List.find?_filter]
  congr 1
  funext w
  by_cases hw : w.extent = y <;> simp [hw, h]

theorem State.trimmed_leavesAside {y : Nat} {sp : Span} (h : y ≠ sp.extent) (s : State) : s.LeavesAside y (s.trimmed sp) := by
  cases hr : s.residentOf sp.extent with
  | none =>
    rw [State.trimmed_absent hr]
    split
    · exact ⟨.of_same rfl (fun k => ((mem_without _ _ _).1 k).1) rfl, id, State.watchOf_unwatch_of_ne h s⟩
    · exact .refl y s
  | some r =>
    have he := State.residentOf_extent hr
    have hne : y ≠ (r.trim sp.full).extent := by
      rw [show (r.trim sp.full).extent = sp.extent from he]
      exact h
    have hp := State.PassesBy.store hne .tail s
    rw [State.trimmed_resident hr]
    refine ⟨⟨hp.resident, hp.promo, fun c hc => (map_getElem_fin _ _ c).trans (Context.trimmed_of_ne _ ?_)⟩,
      fun k => ?_, rfl⟩
    · rw [hc]
      simpa using h
    · change y ∈ (s.store .tail (r.trim sp.full)).dirtyList at k
      rw [State.store_dirtyList] at k
      split at k
      · exact ((mem_without _ _ _).1 k).1
      · split at k
        · exact k
        · exact (List.mem_append.1 k).resolve_right (by simpa using hne)

/-- What a TRIM does at an extent of its own: the record loses the fully covered segments, the move in flight on it loses
them from its validate set, a record left clean is not on the Dirty List, and the watch entry stands unless the whole
extent is covered (R61, R62). -/
structure State.TrimmedTo (sp : Span) (s t : State) : Prop where
  resident : t.residentOf sp.extent = (s.residentOf sp.extent).map fun r => (r.trim sp.full).settled
  contexts : s.residentOf sp.extent ≠ none → ∀ c : Fin 4, s.contexts[c].extentInMove = some sp.extent →
    t.contexts[c] = Context.trimmed sp.extent sp.full s.contexts[c]
  dirty : ∀ r, s.residentOf sp.extent = some r → segLess r.dirty sp.full = 0#32 → sp.extent ∉ t.dirtyList
  watch : s.residentOf sp.extent = none → sp.full ≠ SegSet.all → t.watchOf sp.extent = s.watchOf sp.extent

theorem State.trimmed_trimmedTo (sp : Span) (s : State) : s.TrimmedTo sp (s.trimmed sp) := by
  cases hr : s.residentOf sp.extent with
  | none =>
    have hs : (s.trimmed sp).residentOf sp.extent = none := by
      rw [State.trimmed_absent hr]
      split
      · exact hr
      · exact hr
    refine ⟨by rw [hs, hr]; rfl, fun k => absurd hr k, fun r k => absurd (hr.symm.trans k) nofun, fun _ k => ?_⟩
    rw [State.trimmed_absent hr, if_neg fun j => k j.1]
  | some r =>
    have he : (r.trim sp.full).extent = sp.extent := (State.residentOf_extent hr :)
    rw [State.trimmed_resident hr]
    refine ⟨?_, fun _ c _ => map_getElem_fin _ _ c, fun r' k hd => ?_, fun k => absurd (hr.symm.trans k) nofun⟩
    · have := State.residentOf_store_same (r := r.trim sp.full) .tail (by rw [he]; exact hr)
      rw [he] at this
      rw [hr]
      exact this
    · obtain rfl : r = r' := Option.some.inj (hr.symm.trans k)
      show sp.extent ∉ (s.store .tail (r.trim sp.full)).dirtyList
      rw [State.store_dirtyList, if_pos (show (r.trim sp.full).dirty = 0#32 from hd), he]
      simp

theorem State.LeavesAside.trans_trimmedTo {sp : Span} {s t u : State} (h : s.LeavesAside sp.extent t)
    (k : t.TrimmedTo sp u) : s.TrimmedTo sp u where
  resident := by rw [k.resident, h.resident]
  contexts hr c hc := by
    have h1 := h.contexts c hc
    rw [← h1]
    exact k.contexts (by rw [h.resident]; exact hr) c (by rw [h1]; exact hc)
  dirty r hr := k.dirty r (h.resident.trans hr)
  watch hr hf := (k.watch (h.resident.trans hr) hf).trans h.watch

theorem State.TrimmedTo.trans_leavesAside {sp : Span} {s t u : State} (h : s.TrimmedTo sp t)
    (k : t.LeavesAside sp.extent u) : s.TrimmedTo sp u where
  resident := k.resident.trans h.resident
  contexts hr c hc := by
    have h1 := h.contexts hr c hc
    rw [← h1]
    exact k.contexts c (by rw [h1, Context.trimmed_extentInMove]; exact hc)
  dirty r hr hd j := h.dirty r hr hd (k.dirty j)
  watch hr hf := k.watch.trans (h.watch hr hf)

theorem State.trimAll_leavesAside {y : Nat} {sps : List Span} (h : ∀ sp ∈ sps, y ≠ sp.extent) (s : State) :
    s.LeavesAside y (sps.foldl (fun u sp => u.trimmed sp) s) := by
  induction sps generalizing s with
  | nil => exact .refl y s
  | cons sp sps ih =>
    exact (State.trimmed_leavesAside (h sp (by simp)) s).trans (ih (fun a ha => h a (List.mem_cons_of_mem _ ha)) _)

theorem State.trimAll_trimmedTo {sps : List Span} (hn : (sps.map (·.extent)).Nodup) {sp : Span} (hsp : sp ∈ sps) (s : State) :
    s.TrimmedTo sp (sps.foldl (fun u sp => u.trimmed sp) s) := by
  induction sps generalizing s with
  | nil => cases hsp
  | cons a sps ih =>
    obtain ⟨ha, hn⟩ := List.nodup_cons.1 hn
    rcases List.mem_cons.1 hsp with rfl | hsp
    · exact (State.trimmed_trimmedTo sp s).trans_leavesAside
        (State.trimAll_leavesAside (fun b hb k => ha (List.mem_map.2 ⟨b, hb, k.symm⟩)) _)
    · exact (State.trimmed_leavesAside (fun k => ha (List.mem_map.2 ⟨sp, hsp, k⟩)) s).trans_trimmedTo (ih hn hsp _)

theorem State.trimAll_untrimmed (sps : List Span) (s : State) :
    (sps.foldl (fun u sp => u.trimmed sp) s).untrimmed = s.untrimmed :=
  foldl_keeps_eq (fun u (sp : Span) => u.trimmed sp) State.untrimmed (fun u sp => State.trimmed_untrimmed sp u) sps s

/-- A context whose move is on none of the extents trimmed stands. -/
theorem State.trimAll_contexts {sps : List Span} {s : State} {c : Fin 4}
    (h : ∀ sp ∈ sps, s.contexts[c].extentInMove ≠ some sp.extent) :
    (sps.foldl (fun u sp => u.trimmed sp) s).contexts[c] = s.contexts[c] := by
  induction sps generalizing s with
  | nil => rfl
  | cons sp sps ih =>
    have hstep : (s.trimmed sp).contexts[c] = s.contexts[c] := by
      cases hr : s.residentOf sp.extent with
      | none =>
        rw [State.trimmed_absent hr]
        split <;> rfl
      | some r =>
        rw [State.trimmed_resident hr]
        exact (map_getElem_fin _ _ c).trans (Context.trimmed_of_ne _ (h sp (by simp)))
    exact (ih fun a ha => by rw [hstep]; exact h a (List.mem_cons_of_mem _ ha)).trans hstep

theorem State.trimAll_extents (sps : List Span) (s : State) :
    (sps.foldl (fun u sp => u.trimmed sp) s).records.map (·.extent) = s.records.map (·.extent) :=
  foldl_keeps_eq (fun u (sp : Span) => u.trimmed sp) (fun u : State => u.records.map (·.extent))
    (fun u sp => State.trimmed_extents sp u) sps s

theorem State.trimAll_watch_length_le (sps : List Span) (s : State) :
    (sps.foldl (fun u sp => u.trimmed sp) s).watch.length ≤ s.watch.length := by
  induction sps generalizing s with
  | nil => exact Nat.le_refl _
  | cons sp sps ih => exact (ih _).trans (State.trimmed_watch_length_le sp s)

/-- The decisions of a TRIM, and its changes extent by extent. -/
theorem State.decideSpans_trim (x : List Nat) {sps : List Span} (hn : (sps.map (·.extent)).Nodup) (s : State) :
    s.decideSpans .trim x sps = (sps.map s.trimOf, sps.foldl (fun u sp => u.trimmed sp) s) := by
  induction sps generalizing s with
  | nil => rfl
  | cons sp sps ih =>
    obtain ⟨ha, hn⟩ := List.nodup_cons.1 hn
    have hstep : s.decideSpan .trim x sp = (s.trimOf sp, s.trimmed sp) := State.trimExtent_eq sp s
    have hmap : sps.map (s.trimmed sp).trimOf = sps.map s.trimOf := List.map_congr_left fun a h =>
      State.trimOf_congr (State.trimmed_leavesAside (fun k => ha (List.mem_map.2 ⟨a, h, k⟩)) s).resident
    rw [State.decideSpans, hstep]
    dsimp only
    rw [ih hn, hmap]
    rfl

theorem State.decided_trim {q : Parked} (h : q.kind = .trim) (s : State) :
    s.decided q = ((routeSpans q.lba q.count).map s.trimOf,
      (routeSpans q.lba q.count).foldl (fun u sp => u.trimmed sp) (s.examineRoute q)) := by
  have hds : (routeSpans q.lba q.count).map (s.examineRoute q).trimOf = (routeSpans q.lba q.count).map s.trimOf :=
    List.map_congr_left fun sp _ => (State.examineRoute_reheats q s).trimOf sp
  unfold State.decided State.decideRoute
  rw [h]
  exact (State.decideSpans_trim _ (routeSpans_nodup _ _) _).trans (by rw [hds])

end Sys2Proof.Machine
end

section
/-! PROOFS. A TRIM. -/

namespace Sys2Proof.Machine

/-! ### The places of the marks and the retirements -/

theorem length_flatMap_le_filter {α β : Type} {f : α → List β} {p : α → Bool} {l : List α}
    (h : ∀ a ∈ l, (f a).length ≤ if p a = true then 1 else 0) : (l.flatMap f).length ≤ (l.filter p).length := by
  induction l with
  | nil => exact Nat.le_refl _
  | cons a l ih =>
    have ha := h a (by simp)
    have hl := ih fun b hb => h b (List.mem_cons_of_mem _ hb)
    rw [List.flatMap_cons, List.length_append, List.filter_cons]
    split at ha
    · rw [if_pos ‹_›, List.length_cons]
      omega
    · rw [if_neg ‹_›]
      omega

theorem routeSpans_length_le (lba count : Nat) : (routeSpans lba count).length ≤ 2 := by
  unfold routeSpans
  dsimp only
  split <;> simp

/-- A TRIM is offered only with two flash places free for each resident extent that it touches (R54, R173). -/
theorem State.trimRoom_of_offered {s : State} {tag lba count : Nat} {q : Parked} {ws : List Word}
    (hq : validRoute tag 2 lba count = some q) (ho : s.offered .front (.route tag 2 lba count) = some ws) :
    s.flash.out.length +
      2 * ((routeSpans lba count).filter fun sp => (s.residentOf sp.extent).isSome).length ≤ 16 := by
  have hsound : soundRange lba count = true := by
    unfold validRoute at hq
    split at hq
    · cases hq
    · split at hq
      · rename_i k
        exact (Bool.and_eq_true_iff.1 k).2
      · cases hq
  have hneeds : s.frontNeeds (.entry (.request ws)) = s.routeNeeds (some .trim) lba count := by
    simp only [State.frontNeeds, (State.offered_iff.1 ho).2.2, hsound]
    rfl
  have hroom := State.roomFor_of_offered ho
  simp only [State.roomFor, Bool.and_eq_true, hneeds, State.hasRoom, decide_eq_true_eq] at hroom
  have hflash : s.flash.out.length + s.routeNeeds (some .trim) lba count ≤ 16 := hroom.2
  have hle := (List.length_filter_le (fun sp : Span => (s.residentOf sp.extent).isSome) (routeSpans lba count)).trans
    (routeSpans_length_le lba count)
  cases hb : s.bothResident lba count with
  | true =>
    rw [State.routeNeeds, if_pos ⟨rfl, hb⟩] at hflash
    omega
  | false =>
    rw [State.routeNeeds, if_neg fun k => by simp [hb] at k] at hflash
    have hlt : ((routeSpans lba count).filter fun sp => (s.residentOf sp.extent).isSome).length ≠ 2 := by
      intro k
      have hlen : (routeSpans lba count).length = 2 :=
        Nat.le_antisymm (routeSpans_length_le lba count) (k ▸ List.length_filter_le _ _)
      have hall := List.length_filter_eq_length_iff.1 (k.trans hlen.symm)
      have : s.bothResident lba count = true := by
        unfold State.bothResident
        rw [hlen, List.all_eq_true.2 hall]
        rfl
      rw [hb] at this
      cases this
    omega

/-! ### Retirements by segments -/

/-- Whether a record is retired where its hold ends, by its segments (R5). -/
theorem State.retiredSlots_of_segments {s : State} {e n : Nat} {st : RecordState} {valid dirty lost : SegSet}
    (h : s.segmentsOf e = some (n, st, valid, dirty, lost)) :
    s.retiredSlots e = if valid = 0#32 ∧ lost = 0#32 ∧ st = .resident ∧ s.held e = false then [n] else [] := by
  unfold State.segmentsOf at h
  obtain ⟨r, hr, hseg⟩ := Option.map_eq_some_iff.1 h
  simp only [Prod.mk.injEq] at hseg
  obtain ⟨rfl, rfl, rfl, -, rfl⟩ := hseg
  unfold State.retiredSlots State.retires
  rw [hr]
  refine if_congr ?_ rfl rfl
  simp [Resident.isEmpty, and_assoc]

theorem State.segmentsOf_eq_of_resident {s t : State} {e : Nat} (h : t.residentOf e = s.residentOf e) :
    t.segmentsOf e = s.segmentsOf e := by
  unfold State.segmentsOf
  rw [h]

theorem State.retiredSlots_of_absent {s : State} {e : Nat} (h : s.residentOf e = none) : s.retiredSlots e = [] := by
  unfold State.retiredSlots
  rw [h]

theorem State.retiredSlots_eq_nil {s : State} {e : Nat} : s.retiredSlots e = [] ↔ s.retires e = false := by
  cases hr : s.residentOf e with
  | none => exact iff_of_true (State.retiredSlots_of_absent hr) (State.retires_of_none hr)
  | some r =>
    cases h : s.retires e with
    | false => exact iff_of_true (State.retiredSlots_of_kept h) rfl
    | true => exact iff_of_false (by rw [State.retiredSlots_of_retired hr h]; simp) (by simp)

theorem State.segmentsOf_retireEmpties {es : List Nat} {s : State} {e : Nat} :
    (s.retireEmpties es).segmentsOf e = if e ∈ es ∧ s.retiredSlots e ≠ [] then none else s.segmentsOf e := by
  unfold State.segmentsOf
  rw [State.residentOf_retireEmpties]
  simp only [ne_eq, State.retiredSlots_eq_nil, Bool.not_eq_false]
  split <;> rfl

/-- An extent among one or two, not resident, keeps its watch entry in the retirement of the other's record, unless the
Watch List is full (R14). -/
theorem State.watchOf_retireEmpties {es : List Nat} (hn : es.Nodup) (hl : es.length ≤ 2) {y : Nat} (hy : y ∈ es) {s : State}
    (hr : s.residentOf y = none) (hw : s.watch.length < 4096) : (s.retireEmpties es).watchOf y = s.watchOf y := by
  have hone (a : Nat) (ha : a ≠ y) : (s.retireIfEmpty .freed a).watchOf y = s.watchOf y := by
    rcases State.retireIfEmpty_cases .freed a s with ⟨-, h⟩ | ⟨r, hra, -, h⟩ <;> rw [h]
    exact State.watchOf_remove_of_ne (by rw [State.residentOf_extent hra]; exact ha.symm) hw
  have hkept : s.retireIfEmpty .freed y = s := State.retireIfEmpty_of_kept (State.retires_of_none hr)
  have hpair (a : Nat) (ha : a ≠ y) (h : ∀ z, z ∈ es ↔ z = a ∨ z = y) : (s.retireEmpties es).watchOf y = s.watchOf y := by
    have hkept' : (s.retireIfEmpty .freed a).retireIfEmpty .freed y = s.retireIfEmpty .freed a :=
      State.retireIfEmpty_of_kept (by
        rw [State.retires_retireIfEmpty_of_ne .freed s ha.symm]
        exact State.retires_of_none hr)
    rcases State.retireEmpties_pair h s with k | k <;> rw [k]
    · rw [hkept']
      exact hone a ha
    · rw [hkept]
      exact hone a ha
  match es, hn, hl, hy with
  | [a], _, _, hy =>
    obtain rfl : y = a := by simpa using hy
    rw [State.retireEmpties_one, hkept]
  | [a, b], hn, _, hy =>
    have hab : a ≠ b := by simpa using hn
    rcases List.mem_pair.1 hy with rfl | rfl
    · exact hpair b hab.symm (by simp [or_comm])
    · exact hpair a hab (by simp)

/-! ### The state before the retirements -/

/-- What a record is after a TRIM of a span of its extent (R61). -/
def Span.trimSegments (sp : Span) (r : Resident) : Nat × RecordState × SegSet × SegSet × SegSet :=
  (r.slot, r.state, segLess r.valid sp.full, segLess r.dirty sp.full, segLess r.lost sp.full)

/-- A TRIM's state once its marks are placed, before its retirements, from the state that it is taken in (R61 to R63). -/
structure State.Marked (sps : List Span) (s w : State) : Prop where
  segments : ∀ sp ∈ sps, w.segmentsOf sp.extent = (s.residentOf sp.extent).map sp.trimSegments
  others : ∀ e, (∀ sp ∈ sps, sp.extent ≠ e) → w.segmentsOf e = s.segmentsOf e
  dirty : ∀ sp ∈ sps, ∀ r, s.residentOf sp.extent = some r → segLess r.dirty sp.full = 0#32 → sp.extent ∉ w.dirtyList
  moves : ∀ c : Fin 4, ∀ sp ∈ sps, s.contexts[c].extentInMove = some sp.extent → s.residentOf sp.extent ≠ none →
    w.contexts[c] = Context.trimmed sp.extent sp.full s.contexts[c]
  contexts : ∀ c : Fin 4, (∀ sp ∈ sps, s.contexts[c].extentInMove ≠ some sp.extent) → w.contexts[c] = s.contexts[c]
  watch : ∀ sp ∈ sps, ∀ x, s.residentOf sp.extent = none → s.watchOf sp.extent = some x → sp.full ≠ SegSet.all →
    w.watchOf sp.extent = some { x with heat := s.heatNow 0 x.heat }
  watched : w.watch.length ≤ s.watch.length
  extents : w.records.map (·.extent) = s.records.map (·.extent)
  out : w.flash.out = s.flash.out ++ (sps.map s.trimOf).flatMap Decision.mark
  flashOwed : w.flashOwed = s.flashOwed
  free : w.free = s.free
  fences : w.fences = s.fences
  routes : w.routes = s.routes
  front : w.front = (s.popFifo .front).front
  stats : w.stats = s.stats

theorem State.trimOf_mark (s : State) (sp : Span) :
    (s.trimOf sp).mark = match s.residentOf sp.extent with
      | none => []
      | some r => if sp.full &&& (r.valid ||| r.lost) = 0#32 then []
          else [.trimMark r.slot (sp.full &&& (r.valid ||| r.lost))] := by
  unfold State.trimOf
  cases s.residentOf sp.extent with
  | none => exact if_pos rfl
  | some r => rfl

theorem State.trimOf_mark_length (s : State) (sp : Span) :
    (s.trimOf sp).mark.length ≤ if (s.residentOf sp.extent).isSome = true then 1 else 0 := by
  cases hr : s.residentOf sp.extent with
  | none => simp [State.trimOf_mark, hr]
  | some r => exact Decision.mark_length_le _

/-- A TRIM that is taken and routed ends in the retirements of the records it emptied (R53, R61 to R63, R101). -/
theorem exec_trim {s : State} {tag lba count : Nat} {q : Parked} {ws : List Word}
    (hv : s.service = .serving) (hq : validRoute tag 2 lba count = some q) (ht : s.tagInUse tag = false)
    (hp : s.routeParks q = false) (ho : s.offered .front (.route tag 2 lba count) = some ws) :
    ∃ t w, exec (.route tag 2 lba count) s = .next t ∧ State.Marked (routeSpans lba count) s w ∧
      State.Recorded q ((routeSpans lba count).map s.trimOf)
        (w.retireEmpties ((routeSpans lba count).map (·.extent))) t := by
  obtain ⟨t, hexec, hrec⟩ := exec_route_recorded hv hq ht hp ho
  obtain ⟨k, htrim, hqe, -, -⟩ := validRoute_eq hq
  obtain rfl : RouteKind.trim = k := Option.some.inj htrim
  have hkind : q.kind = .trim := by rw [hqe]
  have hspans : routeSpans q.lba q.count = routeSpans lba count := by rw [hqe]
  have hnodup := routeSpans_nodup lba count
  have hlength := routeSpans_length_le lba count
  have hroom := State.trimRoom_of_offered hq ho
  have hdec := State.decided_trim hkind (s.popFifo .front)
  have hheat := State.examineRoute_reheats q (s.popFifo .front)
  have hw := State.examineRoute_unweighed q (s.popFifo .front)
  have hexam := State.examineRoute_trim hkind (s.popFifo .front)
  rw [hspans] at hdec hexam
  have hext := State.examineAll_extents (routeSpans lba count) (s.popFifo .front)
  have hlen := State.examineAll_watch_length (routeSpans lba count) (s.popFifo .front)
  have hwatch {sp : Span} (hsp : sp ∈ routeSpans lba count) {x : WatchEntry} :=
    State.examineAll_watchOf hnodup hsp (s := s.popFifo .front) (x := x)
  rw [← hexam] at hext hlen
  simp only [← hexam] at hwatch
  rw [hdec, State.trimEnded, if_pos hkind] at hrec
  generalize (s.popFifo .front).examineRoute q = v at *
  generalize routeSpans lba count = sps at *
  have hto {sp : Span} (hsp : sp ∈ sps) := State.trimAll_trimmedTo hnodup hsp v
  have haside {y : Nat} (h : ∀ sp ∈ sps, y ≠ sp.extent) := State.trimAll_leavesAside h v
  have hun := State.trimAll_untrimmed sps v
  have hext' := State.trimAll_extents sps v
  have hlen' := State.trimAll_watch_length_le sps v
  have hall {c : Fin 4} (h : ∀ sp ∈ sps, v.contexts[c].extentInMove ≠ some sp.extent) := State.trimAll_contexts h
  dsimp only at hrec
  generalize sps.foldl (fun u sp => u.trimmed sp) v = u at *
  have hu : u.untrimmed = (s.popFifo .front).untrimmed :=
    hun.trans (congrArg (fun x : State => { x with contexts := Vector.replicate 4 .idle }) hw)
  have hflash : u.flash = s.flash := (congrArg State.flash hu :)
  have hcontexts : v.contexts = s.contexts := (State.unweighed_contexts hw :)
  have hmarks : (sps.map s.trimOf).flatMap Decision.mark = sps.flatMap fun sp => (s.trimOf sp).mark := by
    rw [List.flatMap_map]
  have hmarked : u.flash.out.length + ((sps.map s.trimOf).flatMap Decision.mark).length ≤ 16 := by
    have := length_flatMap_le_filter (l := sps) fun sp _ => s.trimOf_mark_length sp
    rw [hmarks, hflash]
    omega
  have hends : (sps.map s.trimOf).map (fun d => d.span.extent) = sps.map (·.extent) := by
    rw [List.map_map]
    exact List.map_congr_left fun sp _ => congrArg Span.extent (s.trimOf_span sp)
  change State.Recorded q (sps.map s.trimOf) (u.endTrim (sps.map s.trimOf)) t at hrec
  rw [State.endTrim, State.trimMarks_eq hmarked, hends] at hrec
  refine ⟨t, _, hexec, ?_, hrec⟩
  refine
    { segments := fun sp hsp => ?_
      others := fun e he =>
        (State.segmentsOf_eq_of_resident (haside fun sp hsp => (he sp hsp).symm).resident).trans (hheat.segmentsOf e)
      dirty := fun sp hsp r hr hd => ?_
      moves := fun c sp hsp hc hr => ?_
      contexts := fun c hc => (hall (by rw [hcontexts]; exact hc)).trans (by rw [hcontexts])
      watch := fun sp hsp x hr hx hf =>
        ((hto hsp).watch ((hheat.isSome _).2 hr) hf).trans (hwatch hsp hr hx)
      watched := hlen'.trans (Nat.le_of_eq hlen)
      extents := hext'.trans hext
      out := congrArg (fun f : Link => f.out ++ _) hflash
      flashOwed := (congrArg State.flashOwed hu :)
      free := (congrArg State.free hu :)
      fences := (congrArg State.fences hu :)
      routes := (congrArg State.routes hu :)
      front := (congrArg State.front hu :)
      stats := (congrArg State.stats hu :) }
  · show u.segmentsOf sp.extent = _
    unfold State.segmentsOf
    rw [(hto hsp).resident]
    cases hr : s.residentOf sp.extent with
    | none =>
      rw [hheat.absent sp.extent hr]
      rfl
    | some r =>
      obtain ⟨r', hr', k⟩ := hheat.resident sp.extent r hr
      rw [hr']
      simp only [Option.map_some, Resident.settled_slot, Resident.settled_state, Resident.settled_valid,
        Resident.settled_dirty, Resident.settled_lost, Span.trimSegments, Resident.trim, k.slot, k.state, k.valid, k.dirty,
        k.lost]
  · obtain ⟨r', hr', k⟩ := hheat.resident sp.extent r hr
    exact (hto hsp).dirty r' hr' (by rw [k.dirty]; exact hd)
  · rw [← hcontexts] at hc ⊢
    exact (hto hsp).contexts (fun k => hr ((hheat.isSome _).1 k)) c hc

theorem mem_iff_of_pair {l : List Nat} (hl : l.length ≤ 2) {a b : Nat} (ha : a ∈ l) (hb : b ∈ l) (hab : a ≠ b) (y : Nat) :
    y ∈ l ↔ y = a ∨ y = b := by
  match l, hl with
  | [], _ => cases ha
  | [c], _ => exact absurd ((List.mem_singleton.1 ha).trans (List.mem_singleton.1 hb).symm) hab
  | [c, d], _ =>
    rcases List.mem_pair.1 ha with rfl | rfl <;> rcases List.mem_pair.1 hb with rfl | rfl
    · exact absurd rfl hab
    · simp
    · simp [or_comm]
    · exact absurd rfl hab

/-- A TRIM keeps the slots of its records, so the table that stands in slot order stands in it before the retirements. -/
theorem State.Marked.slotsInOrder {sps : List Span} (hl : sps.length ≤ 2) {s w : State} (h : State.Marked sps s w)
    (hs : s.Ascending) : w.SlotsInOrder (sps.map (·.extent)) := by
  have hback {e : Nat} (he : e ∈ sps.map (·.extent)) {r : Resident} (hr : w.residentOf e = some r) :
      ∃ r', s.residentOf e = some r' ∧ r'.slot = r.slot := by
    obtain ⟨sp, hsp, rfl⟩ := List.mem_map.1 he
    have hseg := h.segments sp hsp
    rw [State.segmentsOf_of_resident hr] at hseg
    obtain ⟨r', hr', k⟩ := Option.map_eq_some_iff.1 hseg.symm
    exact ⟨r', hr', congrArg Prod.fst k⟩
  intro a ha b hb hab r u hr hu hle
  obtain ⟨r', hr', hslot⟩ := hback ha hr
  obtain ⟨u', hu', hslot'⟩ := hback hb hu
  have hmem : ∀ y, y ∈ sps.map (·.extent) ↔ y = a ∨ y = b := by
    exact mem_iff_of_pair (by rw [List.length_map]; exact hl) ha hb hab
  have hpresent : w.presentAmong (sps.map (·.extent)) = s.presentAmong (sps.map (·.extent)) := by
    unfold State.presentAmong
    rw [h.extents]
  rw [hpresent]
  exact State.presentAmong_head hmem hs.records hr' hu' hab (by omega)

/-- The entry of a TRIM names its extents and no segments (R66). -/
theorem routeEntry_trim {tag lba count : Nat} (h : 1 ≤ count) (h' : count ≤ 256) (s : State) :
    routeEntry ⟨tag, .trim, lba, count⟩ ((routeSpans lba count).map s.trimOf) =
      { tag := tag, kind := .trim, first := lba / 256, firstFlash := 0#32,
        second := if (lba + count - 1) / 256 = lba / 256 then none else some (lba / 256 + 1, 0#32), disk := false } := by
  rcases routeSpans_cases (lba := lba) h h' with ⟨k, -, e⟩ | ⟨k, -, e⟩
  · rw [e, if_pos k]
    simp [routeEntry, State.trimOf_span]
  · rw [e, if_neg k]
    simp [routeEntry, State.trimOf_span]

/-! ### A TRIM of an extent that is not resident -/

/-- A TRIM of one extent that is not resident changes its watch entry alone (R61, R62). -/
theorem exec_trim_absent {s : State} {tag lba count : Nat} {q : Parked} {sp : Span} {ws : List Word}
    (hv : s.service = .serving) (hq : validRoute tag 2 lba count = some q) (ht : s.tagInUse tag = false)
    (hp : s.routeParks q = false) (ho : s.offered .front (.route tag 2 lba count) = some ws)
    (hone : routeSpans lba count = [sp]) (hr : s.residentOf sp.extent = none) :
    ∃ t, exec (.route tag 2 lba count) s = .next t ∧
      State.Recorded q [s.trimOf sp] (((s.popFifo .front).examine 0 sp.extent).trimmed sp) t := by
  obtain ⟨t, hexec, hrec⟩ := exec_route_recorded hv hq ht hp ho
  obtain ⟨k, htrim, hqe, -, -⟩ := validRoute_eq hq
  obtain rfl : RouteKind.trim = k := Option.some.inj htrim
  have hkind : q.kind = .trim := by rw [hqe]
  have hspans : routeSpans q.lba q.count = [sp] := by rw [hqe]; exact hone
  have hdec := State.decided_trim hkind (s.popFifo .front)
  rw [State.examineRoute_trim hkind, hspans] at hdec
  have habsent : (((s.popFifo .front).examine 0 sp.extent).trimmed sp).residentOf sp.extent = none := by
    have h1 := ((State.examine_reheats 0 sp.extent (s.popFifo .front)).isSome sp.extent).2 hr
    rw [(State.trimmed_trimmedTo sp _).resident, h1]
    rfl
  have hnone : (s.trimOf sp).trimmed = 0#32 := by simp [State.trimOf, hr, Span.trimDecision]
  rw [hdec, State.trimEnded, if_pos hkind] at hrec
  refine ⟨t, hexec, ?_⟩
  have hend (u : State) (hu : u.residentOf sp.extent = none) : u.endTrim [s.trimOf sp] = u := by
    have hmark : [s.trimOf sp].foldl State.trimMark u = u := if_pos hnone
    rw [State.endTrim, hmark]
    refine State.retireEmpties_of_kept fun e he => ?_
    obtain rfl : e = (s.trimOf sp).span.extent := List.mem_singleton.1 he
    rw [s.trimOf_span]
    exact State.retires_of_none hu
  exact hend _ habsent ▸ hrec

/-- The state that a TRIM leaves of an extent that is not resident differs in its watch entry and its queue entry. -/
theorem State.examine_trimmed_absent {s : State} {sp : Span} (h : s.residentOf sp.extent = none) :
    let t := (s.examine 0 sp.extent).trimmed sp
    t = { s with watch := t.watch, touch := t.touch, promo := t.promo } := by
  have hr := ((State.examine_reheats 0 sp.extent s).isSome sp.extent).2 h
  dsimp only
  rw [State.trimmed_absent hr]
  cases hw : s.watchOf sp.extent with
  | none =>
    rw [State.examine_watch_of_unknown 0 h hw, hw, if_neg (by simp)]
  | some x =>
    rw [State.examine_watched 0 h hw, State.examineWatched_eq, State.adjustPromo_eq]
    split <;> rfl

theorem State.setWatchHeat_filter (e : Nat) (k : Heat) (s : State) :
    (s.setWatchHeat e k).watch.filter (fun w => w.extent ≠ e) = s.watch.filter (fun w => w.extent ≠ e) := by
  unfold State.setWatchHeat
  induction s.watch with
  | nil => rfl
  | cons w l ih =>
    rw [List.map_cons, List.filter_cons, List.filter_cons, ih]
    by_cases hw : w.extent = e <;> simp [hw]

theorem State.without_adjustPromo (e : Nat) (b : Bool) (s : State) :
    without e (s.adjustPromo e b).promo = without e s.promo := by
  unfold State.adjustPromo
  split
  · split
    · rfl
    · split
      · simp [without]
      · rfl
  · simp [without, State.unqueue]

/-! ### The whole extent -/

theorem Span.full_eq_all (sp : Span) : sp.full = SegSet.all ↔ sp.lo = 0 ∧ 256 ≤ sp.hi := by
  have hall {n : Nat} (h : n < 32) : SegSet.all.getLsbD n = true := by
    rw [SegSet.all, BitVec.getLsbD_allOnes, decide_eq_true h]
  have hcovers (n : Nat) : sp.coversSeg n = true ↔ sp.lo ≤ 8 * n ∧ 8 * n + 8 ≤ sp.hi := by
    simp [Span.coversSeg]
  constructor
  · intro h
    have h0 := (hcovers 0).1 (by rw [← sp.getLsbD_full (by omega), h, hall (by omega)])
    have h31 := (hcovers 31).1 (by rw [← sp.getLsbD_full (by omega), h, hall (by omega)])
    omega
  · rintro ⟨hlo, hhi⟩
    refine BitVec.eq_of_getLsbD_eq fun n hn => ?_
    rw [sp.getLsbD_full hn, hall hn, (hcovers n).2 (by omega)]

end Sys2Proof.Machine

open Sys2Proof.Machine in
/-- Settles O17: the retirements are those of a list of one extent or two, after the marks; what the decisions did at one
extent leaves the other aside. -/
theorem aTrimTakesItsSegmentsOutOfTheMap : Obligations.ATrimTakesItsSegmentsOutOfTheMap := by
  refine ⟨fun s tag lba count q ws hv hq ht hp ho => ?_, fun s tag lba count q sp ws hv hq ht hp ho hone hr => ?_,
    Span.full_eq_all, ?_, fun e full m => rfl, fun e full x h => Context.trimmed_of_ne full h⟩
  · intro gone mark retired spans
    obtain ⟨t, w, hexec, hm, hrec⟩ := exec_trim hv hq ht hp ho
    obtain ⟨k, htrim, hqe, h, h'⟩ := validRoute_eq hq
    obtain rfl : RouteKind.trim = k := Option.some.inj htrim
    have hroom : s.flash.out.length + 2 * (spans.filter fun sp => (s.residentOf sp.extent).isSome).length ≤ 16 :=
      State.trimRoom_of_offered hq ho
    change State.Marked spans s w at hm
    have hspans : (spans.map s.trimOf).map (fun d => d.span) = spans := by
      rw [List.map_map]
      exact (List.map_congr_left fun sp _ => s.trimOf_span sp).trans (List.map_id spans)
    have hmarks : (spans.map s.trimOf).flatMap Decision.mark = spans.flatMap mark := by
      rw [List.flatMap_map]
      exact List.flatMap_congr fun sp _ => s.trimOf_mark sp
    have hheld (e : Nat) : w.held e = s.held e := by simp only [State.held, hm.routes]
    have hretired {sp : Span} (hsp : sp ∈ spans) : w.retiredSlots sp.extent = retired sp := by
      have hseg := hm.segments sp hsp
      cases hr : s.residentOf sp.extent with
      | none =>
        rw [hr] at hseg
        rw [State.retiredSlots_of_absent (State.segmentsOf_eq_none.1 hseg)]
        simp only [retired, hr]
      | some r =>
        rw [hr] at hseg
        rw [State.retiredSlots_of_segments hseg, hheld]
        simp only [retired, hr]
    have hflat : (spans.map (·.extent)).flatMap w.retiredSlots = spans.flatMap retired := by
      rw [List.flatMap_map]
      exact List.flatMap_congr fun sp hsp => hretired hsp
    obtain ⟨ms, hms, hperm, hsorted⟩ := State.retireEmpties_retired (routeSpans_nodup lba count)
      (by rw [List.length_map]; exact routeSpans_length_le lba count) w
    change State.Retired ms w (w.retireEmpties (spans.map (·.extent))) at hms
    change State.Recorded q (spans.map s.trimOf) (w.retireEmpties (spans.map (·.extent))) t at hrec
    rw [hflat] at hperm hsorted
    have hfits : w.flash.out.length + ms.length ≤ 16 := by
      have h1 := length_flatMap_le_filter (l := spans) fun sp _ => s.trimOf_mark_length sp
      have h2 := length_flatMap_le_filter (l := spans) (f := retired) (p := fun sp => (s.residentOf sp.extent).isSome)
        fun sp hsp => by
          cases hr : s.residentOf sp.extent with
          | none => simp [retired, hr]
          | some r => exact hretired hsp ▸ w.retiredSlots_length_le sp.extent
      rw [hm.out, List.length_append, hperm.length_eq, List.flatMap_map]
      omega
    have hun := State.retireEmpties_unremoved (spans.map (·.extent)) w
    have hwake : (w.retireEmpties (spans.map (·.extent))).forcedWake (spans.map s.trimOf) = false :=
      State.forcedWake_of_none (fun d hd => by
        obtain ⟨sp, -, rfl⟩ := List.mem_map.1 hd
        exact (s.trimOf_no_absorb sp).1) _
    have habs : ((spans.map s.trimOf).map fun d => segCount d.absorbed).sum = 0 := absorbed_sum_eq_zero fun d hd => by
      obtain ⟨sp, -, rfl⟩ := List.mem_map.1 hd
      exact (s.trimOf_no_absorb sp).2
    have hkind : q.kind = .trim := by rw [hqe]
    have hout := hrec.front
    rw [hwake, hkind, State.unremoved_front hun, hm.front] at hout
    have hstats := hrec.stats
    rw [hwake, habs, hkind, State.unremoved_stats hun, hm.stats] at hstats
    have hseg (e : Nat) : t.segmentsOf e =
        if e ∈ spans.map (·.extent) ∧ w.retiredSlots e ≠ [] then none else w.segmentsOf e :=
      (hrec.segmentsOf e).trans State.segmentsOf_retireEmpties
    have hmem {sp : Span} (hsp : sp ∈ spans) : sp.extent ∈ spans.map (·.extent) := List.mem_map.2 ⟨sp, hsp, rfl⟩
    have hfree := hrec.free.trans hms.free
    rw [hm.free] at hfree
    have hplaced (ho : s.flashOwed = []) := hms.placed hfits (hm.flashOwed.trans ho)
    have howed (ho : s.flashOwed ≠ []) := hms.owed (by rw [hm.flashOwed]; exact ho)
    rw [hm.out, hmarks] at hplaced howed
    rw [hm.flashOwed] at howed
    have hpast : s.flash.out ++ spans.flatMap mark <+: (w.retireEmpties (spans.map (·.extent))).flash.out := by
      by_cases ho : s.flashOwed = []
      · rw [(hplaced ho).1]
        exact List.prefix_append _ _
      · rw [(howed ho).1]
    refine ⟨t, hexec, ?_, fun e he => ?_, fun sp hsp hr => ?_,
      fun sp hsp r hr => ⟨fun k => ?_, fun k => ?_, fun k => ?_⟩,
      fun c => ⟨fun sp hsp hc hr => ?_, fun hc => ?_⟩, ?_, ?_, fun k => ?_, fun n => ?_, fun hord => ?_, ?_, ?_,
      fun sp hsp x hr hx hf hl => ?_⟩
    · rw [hqe] at hout
      exact hout
    · rw [hseg, if_neg fun k => ?_, hm.others e he]
      obtain ⟨sp, hsp, hk⟩ := List.mem_map.1 k.1
      exact he sp hsp hk
    · rw [hseg, hm.segments sp hsp, hr]
      exact ite_self _
    · rw [hseg, if_neg (by rw [hretired hsp]; exact fun j => j.2 k), hm.segments sp hsp, hr]
      rfl
    · rw [hseg, if_pos ⟨hmem hsp, by rw [hretired hsp]; exact k⟩]
    · rw [hrec.dirtyList]
      exact fun j => hm.dirty sp hsp r hr k (State.retireEmpties_dirtyList _ w _ j)
    · rw [hrec.contexts, State.unremoved_contexts hun]
      exact hm.moves c sp hsp hc hr
    · rw [hrec.contexts, State.unremoved_contexts hun]
      exact hm.contexts c hc
    · exact hrec.fences.trans ((State.retireEmpties_fences _ w).trans hm.fences)
    · exact hpast.trans hrec.flash
    · exact hrec.flashOwed.trans (hplaced k).2
    · rw [hfree, mem_foldl_insertBy, hperm.mem_iff]
    · have hms' : ms = sortedSlots (spans.flatMap retired) :=
        hsorted (hord.imp_left (hm.slotsInOrder (routeSpans_length_le lba count)))
      have hord' : (spans.flatMap retired).foldl (fun l n => insertBy id n l) [] = ms := hms'.symm
      rw [hord']
      exact ⟨hfree, fun k => (hplaced k).1 ▸ hrec.flash, fun k => hrec.flashOwed.trans (howed k).2⟩
    · rw [hrec.routes, State.unremoved_routes hun, hm.routes, ← routeEntry_trim h h' s, hqe]
    · exact hstats
    · have hwr : w.residentOf sp.extent = none := by
        have := hm.segments sp hsp
        rw [hr] at this
        exact State.segmentsOf_eq_none.1 this
      have hkeep := State.watchOf_retireEmpties (routeSpans_nodup lba count)
        (by rw [List.length_map]; exact routeSpans_length_le lba count) (hmem hsp) hwr (by have := hm.watched; omega)
      exact (State.watchOf_congr hrec.watch _).trans (hkeep.trans (hm.watch sp hsp x hr hx hf))
  · obtain ⟨t, hexec, hrec⟩ := exec_trim_absent hv hq ht hp ho hone hr
    have hur : (s.popFifo .front).residentOf sp.extent = none := hr
    have hvr := ((State.examine_reheats 0 sp.extent (s.popFifo .front)).isSome sp.extent).2 hur
    have heq := State.examine_trimmed_absent hur
    have habsent := State.trimmed_absent hvr
    refine ⟨t, hexec, fun e => (hrec.segmentsOf e).trans ?_, ?_, ?_, ?_, ?_, fun hw => ?_, fun hf hw => ?_, fun x hf hw => ?_⟩
    · rw [heq]
      rfl
    · rw [hrec.contexts, heq]
      rfl
    · rw [hrec.free, heq]
      rfl
    · rw [hrec.dirtyList, heq]
      rfl
    · rw [hrec.clean, heq]
      rfl
    · have hwu : (s.popFifo .front).watchOf sp.extent = none := hw
      rw [hrec.watch, hrec.touch, hrec.promo, habsent, State.examine_watch_of_unknown 0 hur hwu, hwu, if_neg (by simp)]
      exact ⟨rfl, rfl, rfl⟩
    · obtain ⟨x, hx⟩ := Option.ne_none_iff_exists'.1 hw
      have hxu : (s.popFifo .front).watchOf sp.extent = some x := hx
      have hxe := State.Becomes.watchOf_extent hx
      have hxv := State.watchOf_examine_same 0 hur hxu
      rw [hrec.watch, hrec.touch, hrec.promo, habsent, hxv, if_pos ⟨hf, rfl⟩, State.examine_watched 0 hur hxu]
      refine ⟨?_, ?_, ?_⟩
      · show List.filter _ (State.examineWatched 0 x _).watch = _
        rw [State.examineWatched_watch, hxe]
        exact State.setWatchHeat_filter _ _ _
      · rw [State.examineWatched_eq, State.adjustPromo_eq]
        rfl
      · rw [State.examineWatched_eq, hxe]
        exact State.without_adjustPromo _ _ _
    · have hxu : (s.popFifo .front).watchOf sp.extent = some x := hw
      have hsame : ((s.popFifo .front).examine 0 sp.extent).trimmed sp = (s.popFifo .front).examine 0 sp.extent := by
        rw [habsent, if_neg fun k => hf k.1]
      rw [hsame] at hrec
      refine ⟨(State.watchOf_congr hrec.watch _).trans (State.watchOf_examine_same 0 hur hxu), hrec.touch.trans ?_,
        fun e he => (State.watchOf_congr hrec.watch e).trans (State.watchOf_examine_of_ne he 0 (s.popFifo .front))⟩
      rw [State.examine_watched 0 hur hxu, State.examineWatched_eq, State.adjustPromo_eq]
      rfl
  · rintro e full m rfl
    exact if_pos rfl
end

section
/-! SUPPORT. What a WRITE examines before it absorbs, beside the front link, and the absorb itself. -/

namespace Sys2Proof.Machine

/-! ### The front link stands aside of the examinations -/

/-- A state with another front link. -/
def State.withFront (l : Link) (s : State) : State := { s with front := l }

theorem State.popFifo_front_eq (s : State) :
    s.popFifo .front = s.withFront { s.front with fifo := s.front.fifo.tail } := rfl

theorem State.adjustPromo_withFront (l : Link) (e : Nat) (b : Bool) (s : State) :
    State.adjustPromo e b (s.withFront l) = (s.adjustPromo e b).withFront l := by
  have hp : (s.withFront l).promo = s.promo := rfl
  unfold State.adjustPromo
  cases b with
  | false => rfl
  | true =>
    rw [hp, if_pos rfl, if_pos rfl]
    by_cases h1 : e ∈ s.promo
    · rw [if_pos h1, if_pos h1]
    · by_cases h2 : s.promo.length < Config.promoDepth
      · rw [if_neg h1, if_neg h1, if_pos h2, if_pos h2]
        rfl
      · rw [if_neg h1, if_neg h1, if_neg h2, if_neg h2]

theorem State.examineResident_withFront (l : Link) (w : Nat) (r : Resident) (s : State) :
    State.examineResident w r (s.withFront l) = (s.examineResident w r).withFront l :=
  State.adjustPromo_withFront l _ _ (s.refiled w r)

theorem State.examineWatched_withFront (l : Link) (w : Nat) (x : WatchEntry) (s : State) :
    State.examineWatched w x (s.withFront l) = (s.examineWatched w x).withFront l :=
  State.adjustPromo_withFront l _ _ (s.setWatchHeat x.extent (s.heatNow w x.heat))

theorem State.examine_withFront (l : Link) (w e : Nat) (s : State) :
    State.examine w e (s.withFront l) = (s.examine w e).withFront l := by
  have hr : (s.withFront l).residentOf e = s.residentOf e := rfl
  have hw : (s.withFront l).watchOf e = s.watchOf e := rfl
  unfold State.examine
  rw [hr, hw]
  cases s.residentOf e with
  | some r => exact State.examineResident_withFront l w r s
  | none =>
    cases s.watchOf e with
    | some x => exact State.examineWatched_withFront l w x s
    | none => rfl

theorem State.watchRoom_withFront (l : Link) (s : State) : (s.withFront l).watchRoom = s.watchRoom.withFront l := by
  have hw : (s.withFront l).watch = s.watch := rfl
  have ht : (s.withFront l).touch = s.touch := rfl
  unfold State.watchRoom
  rw [hw, ht]
  split
  · rfl
  · cases s.touch <;> rfl

theorem State.enterWatch_withFront (l : Link) (a : ListEnd) (e : Nat) (h : Heat) (s : State) :
    State.enterWatch a e h (s.withFront l) = (s.enterWatch a e h).withFront l := by
  unfold State.enterWatch
  rw [State.watchRoom_withFront]
  rfl

theorem State.weighExtent_withFront (l : Link) (w e : Nat) (s : State) :
    State.weighExtent w e (s.withFront l) = (s.weighExtent w e).withFront l := by
  have hr : (s.withFront l).residentOf e = s.residentOf e := rfl
  have hw : (s.withFront l).watchOf e = s.watchOf e := rfl
  have hp : (s.withFront l).policyOf e = s.policyOf e := rfl
  unfold State.weighExtent
  rw [hr, hw, hp]
  generalize extentWeight (s.policyOf e) w = k
  cases s.residentOf e with
  | some r => exact congrArg (State.touchClean e) (State.examineResident_withFront l k r s)
  | none =>
    cases s.watchOf e with
    | some x => exact congrArg (State.touchWatch e) (State.examineWatched_withFront l k x s)
    | none =>
      by_cases hk : k = 0
      · exact (if_pos hk).trans (congrArg (State.withFront l) (if_pos hk).symm)
      · exact (if_neg hk).trans ((State.enterWatch_withFront l .tail e _ s).trans
          (congrArg (State.withFront l) (if_neg hk).symm))

theorem State.examineRoute_withFront {q : Parked} (h : q.kind = .write) (l : Link) (s : State) :
    (s.withFront l).examineRoute q = (s.examineRoute q).withFront l := by
  rw [State.examineRoute_write h, State.examineRoute_write h]
  have hw : (s.withFront l).writeWeight q = s.writeWeight q := rfl
  have hc : ((s.withFront l).classify q.lba q.count).2 = (s.classify q.lba q.count).2.withFront l := rfl
  rw [hw, hc]
  generalize (s.classify q.lba q.count).2 = u
  induction routeSpans q.lba q.count generalizing u with
  | nil => rfl
  | cons sp sps ih =>
    rw [List.foldl_cons, State.weighExtent_withFront, ih]
    rfl

theorem State.walk_withFront (l : Link) (x : List Nat) (b : List Band) (n : Nat) (s : State) :
    (s.withFront l).walk x b n = ((s.walk x b n).1, (s.walk x b n).2.withFront l) := by
  induction n generalizing s with
  | zero => rfl
  | succ n ih =>
    have hoff : (s.withFront l).firstOffered x b = s.firstOffered x b := rfl
    unfold State.walk
    rw [hoff]
    cases s.firstOffered x b with
    | none => rfl
    | some p =>
      dsimp only
      rw [State.examine_withFront, ih]
      by_cases hm : p.2 ∈ (s.examine 0 p.2).clean.get p.1
      · rw [if_pos hm]
        exact if_pos hm
      · rw [if_neg hm]
        exact if_neg hm

theorem State.pinScan_withFront (l : Link) (x : List Nat) (b : List Band) (es : List Nat) (s : State) :
    State.pinScan x b es (s.withFront l) =
      ((State.pinScan x b es s).1, (State.pinScan x b es s).2.withFront l) := by
  induction es generalizing s with
  | nil => rfl
  | cons e es ih =>
    have hr : (s.withFront l).residentOf e = s.residentOf e := rfl
    have hs : (s.withFront l).skipped x e = s.skipped x e := rfl
    unfold State.pinScan
    rw [hr, hs]
    cases s.residentOf e with
    | none => exact ih s
    | some r =>
      dsimp only
      by_cases hc : (r.isPinnedClean && r.state != .filling && !s.skipped x e) = true
      · rw [if_pos hc, if_pos hc, State.examineResident_withFront, ih]
        have hl : ((s.examineResident 0 r).withFront l).onList b e = (s.examineResident 0 r).onList b e := rfl
        rw [hl]
        split <;> rfl
      · rw [if_neg hc, if_neg hc]
        exact ih s

/-- Victim choice asks nothing of the front link. -/
theorem State.victim_withFront (l : Link) (x : List Nat) (c : Option Band) (s : State) :
    (s.withFront l).victim x c = ((s.victim x c).1, (s.victim x c).2.withFront l) := by
  have hsize : (s.withFront l).clean = s.clean := rfl
  unfold State.victim
  rw [hsize, State.walk_withFront]
  generalize s.walk x (bandsUpTo c) (s.clean.size + 1) = o
  obtain ⟨o, t⟩ := o
  cases o with
  | some e => rfl
  | none =>
    dsimp only
    by_cases hp : 0 < t.pinnedCleanCount
    · rw [if_pos hp]
      exact (if_pos hp).trans (State.pinScan_withFront l x _ _ t)
    · rw [if_neg hp]
      exact if_neg hp

/-! ### The examination of a WRITE whose extents are not resident -/

/-- A state without what the examination of extents that are not resident changes. -/
def State.heatless (s : State) : State :=
  { s with streams := Vector.replicate 4 none, streamUse := [], watch := [], touch := [], promo := [] }

theorem State.heatless_records {s t : State} (h : t.heatless = s.heatless) : t.records = s.records :=
  (congrArg State.records h : t.heatless.records = _)

theorem State.weighExtent_heatless {s : State} {e : Nat} (w : Nat) (h : s.residentOf e = none) :
    (s.weighExtent w e).heatless = s.heatless := by
  unfold State.weighExtent
  rw [h]
  dsimp only
  split
  · rw [State.examineWatched_eq, State.adjustPromo_eq]
    rfl
  · split
    · rfl
    · rw [State.enterWatch_eq]
      rfl

theorem State.examineRoute_heatless {q : Parked} (h : q.kind = .write) {s : State}
    (hr : ∀ sp ∈ routeSpans q.lba q.count, s.residentOf sp.extent = none) : (s.examineRoute q).heatless = s.heatless := by
  rw [State.examineRoute_write h]
  have hfold (l : List Span) (u : State) (hu : ∀ sp ∈ l, u.residentOf sp.extent = none) (w : Nat) :
      (l.foldl (fun u sp => u.weighExtent w sp.extent) u).heatless = u.heatless := by
    induction l generalizing u with
    | nil => rfl
    | cons sp l ih =>
      have h1 := State.weighExtent_heatless w (hu sp (by simp))
      exact (ih _ fun a ha => (State.residentOf_congr (State.heatless_records h1) _).trans
        (hu a (List.mem_cons_of_mem _ ha))).trans h1
  exact hfold _ (s.classify q.lba q.count).2 hr _

/-- The heat that a record takes, once its extent is weighed: that of the watch entry, caught up and weighed, or a fresh
one (R6, R13, R23). -/
theorem State.inheritedHeat_weighExtent {s : State} {e : Nat} (w : Nat) (h : s.residentOf e = none) :
    (∀ x, s.watchOf e = some x →
      (s.weighExtent w e).inheritedHeat e = s.heatNow (extentWeight (s.policyOf e) w) x.heat) ∧
    (s.watchOf e = none → (s.weighExtent w e).inheritedHeat e = s.newHeat (extentWeight (s.policyOf e) w)) := by
  unfold State.weighExtent
  rw [h]
  dsimp only
  refine ⟨fun x hx => ?_, fun hw => ?_⟩
  · have he := State.Becomes.watchOf_extent hx
    have := State.watchOf_examineWatched (extentWeight (s.policyOf e) w) (s := s) (x := x) (by rw [he]; exact hx)
    rw [he] at this
    rw [hx]
    unfold State.inheritedHeat
    rw [show (State.touchWatch e (s.examineWatched _ x)).watchOf e = _ from this]
  · rw [hw]
    dsimp only
    split
    · rename_i hk
      unfold State.inheritedHeat
      rw [hw, hk]
    · have hfind : (s.enterWatch .tail e (s.newHeat (extentWeight (s.policyOf e) w))).watchOf e =
          some { place := lowestGap 0 s.watchRoom.watch, extent := e, heat := s.newHeat (extentWeight (s.policyOf e) w) } :=
        find?_insertBy_of_none _ _ _ s.watchRoom.watch (by simp) (State.HeatApart.watchRoom_watchOf hw)
      unfold State.inheritedHeat
      rw [hfind]

theorem State.watchRoom_watch_length_le (s : State) : s.watchRoom.watch.length ≤ s.watch.length := by
  unfold State.watchRoom
  split
  · exact Nat.le_refl _
  · split
    · exact Nat.le_refl _
    · exact List.length_filter_le _ _

theorem length_insertBy {α : Type} (key : α → Nat) (x : α) (l : List α) : (insertBy key x l).length = l.length + 1 := by
  induction l with
  | nil => rfl
  | cons y l ih =>
    unfold insertBy
    split
    · rfl
    · simp [ih]

theorem State.weighExtent_watch_absent {s : State} {e : Nat} (w : Nat) (h : s.residentOf e = none) :
    (s.weighExtent w e).watch.length ≤ s.watch.length + 1 ∧
      ∀ y, y ≠ e → s.watchOf y = none → (s.weighExtent w e).watchOf y = none := by
  unfold State.weighExtent
  rw [h]
  dsimp only
  cases hx : s.watchOf e with
  | some x =>
    have hlen : (s.examineWatched (extentWeight (s.policyOf e) w) x).watch.length = s.watch.length := by
      rw [State.examineWatched_watch]
      exact List.length_map _
    refine ⟨(Nat.le_of_eq hlen).trans (Nat.le_succ _), fun y hy hn => ?_⟩
    refine (State.watchOf_congr (State.examineWatched_watch _ x s) y).trans ?_
    rw [State.watchOf_setWatchHeat, hn]
    rfl
  | none =>
    dsimp only
    split
    · exact ⟨Nat.le_succ _, fun _ _ hn => hn⟩
    · refine ⟨?_, fun y hy hn => ?_⟩
      · refine (Nat.le_of_eq (length_insertBy _ _ s.watchRoom.watch)).trans ?_
        have := s.watchRoom_watch_length_le
        omega
      · exact (find?_insertBy_of_not _ _ _ s.watchRoom.watch (by simpa using hy.symm)).trans
          (State.HeatApart.watchRoom_watchOf hn)

/-! ### The absorb -/

/-- The decision of an absorb into a slot (R57, R58). -/
def Span.absorbDecision (sp : Span) (n : Nat) : Decision :=
  { span := sp, slot := n, flash := sp.full, disk := segLess sp.touched sp.full, none := 0#32, trimmed := 0#32,
    absorbed := sp.full, failed := false }

/-- The state after an absorb's record enters in a slot that it was given (R58). -/
def State.absorbInto (sp : Span) (n : Nat) (s : State) : State :=
  (s.unwatch sp.extent).enter (s.absorbedRecord sp.extent n sp.full)

theorem State.writeAbsent_taken {s t : State} {x : List Nat} {sp : Span} {n : Nat} (hf : sp.full ≠ 0#32)
    (ha : s.absorbApplies sp.extent = true) (hs : s.absorbSlot x = (some n, t)) :
    s.writeAbsent x sp = (sp.absorbDecision n, t.absorbInto sp n) := by
  unfold State.writeAbsent
  rw [if_neg (by simp [hf, ha]), hs]
  rfl

theorem State.writeAbsent_failed {s t : State} {x : List Nat} {sp : Span} (hf : sp.full ≠ 0#32)
    (ha : s.absorbApplies sp.extent = true) (hs : s.absorbSlot x = (none, t)) :
    s.writeAbsent x sp = (sp.allDisk true, t) := by
  unfold State.writeAbsent
  rw [if_neg (by simp [hf, ha]), hs]

theorem State.absorbSlot_of_free {s : State} {n : Nat} (x : List Nat) (h : s.handOut = some n) :
    s.absorbSlot x = (some n, s.takeSlot n) := by
  unfold State.absorbSlot
  rw [h]

theorem State.absorbSlot_of_victim {s t : State} {x : List Nat} {e : Nat} {r : Resident} (h : s.handOut = none)
    (hv : s.victim x (some .b3) = (some e, t)) (hr : t.residentOf e = some r) :
    s.absorbSlot x = (some r.slot, t.evict .passed r) := by
  unfold State.absorbSlot
  rw [h]
  dsimp only
  rw [hv]
  dsimp only
  rw [hr]

theorem State.enter_unexamined (r : Resident) (s : State) : (s.enter r).unexamined = s.unexamined := by
  unfold State.enter State.fileLists State.filePromo State.fileDirty State.fileClean
  rfl

section
variable (sp : Span) (n : Nat) (s : State)

theorem State.absorbInto_unweighed : (s.absorbInto sp n).unweighed = s.unweighed :=
  State.unweighed_of_unexamined (s := s.unwatch sp.extent)
    (State.enter_unexamined (s.absorbedRecord sp.extent n sp.full) (s.unwatch sp.extent))

variable {sp s} in
theorem State.residentOf_absorbInto_same (h : s.residentOf sp.extent = none) :
    (s.absorbInto sp n).residentOf sp.extent = some (s.absorbedRecord sp.extent n sp.full) :=
  State.residentOf_enter_same (s := s.unwatch sp.extent) (r := s.absorbedRecord sp.extent n sp.full) h

theorem State.residentOf_absorbInto_of_ne {e : Nat} (h : e ≠ sp.extent) :
    (s.absorbInto sp n).residentOf e = s.residentOf e :=
  State.residentOf_enter_of_ne (s.absorbedRecord sp.extent n sp.full) (s.unwatch sp.extent) h

theorem State.watchOf_absorbInto_same : (s.absorbInto sp n).watchOf sp.extent = none :=
  State.HeatApart.unwatch_watchOf sp.extent

theorem State.watchOf_absorbInto_of_ne {e : Nat} (h : e ≠ sp.extent) : (s.absorbInto sp n).watchOf e = s.watchOf e :=
  State.watchOf_unwatch_of_ne h s

theorem State.touch_absorbInto : (s.absorbInto sp n).touch = without sp.extent s.touch := rfl

variable {sp} in
theorem State.dirtyList_absorbInto (h : sp.full ≠ 0#32) :
    (s.absorbInto sp n).dirtyList =
      if sp.extent ∈ s.dirtyList then s.dirtyList else s.dirtyList ++ [sp.extent] :=
  (State.fileLists_dirtyList .tail (s.absorbedRecord sp.extent n sp.full) _).trans (if_neg h)

variable {sp} in
theorem State.clean_absorbInto (h : sp.full ≠ 0#32) (b : Band) :
    (s.absorbInto sp n).clean.get b = without sp.extent (s.clean.get b) := by
  refine (State.fileLists_clean .tail (s.absorbedRecord sp.extent n sp.full) _ b).trans (if_neg ?_)
  unfold Resident.cleanBand
  rw [Option.ite_none_right_eq_some]
  exact fun k => h k.1.1

theorem State.mem_promo_absorbInto {e : Nat} (h : e ≠ sp.extent) : e ∈ (s.absorbInto sp n).promo ↔ e ∈ s.promo := by
  show e ∈ (if _ then without sp.extent s.promo else s.promo) ↔ _
  split
  · simp [mem_without, h]
  · exact Iff.rfl

end

end Sys2Proof.Machine
end

section
/-! PROOFS. The absorbs of a WRITE: into free slots. -/

namespace Sys2Proof.Machine

theorem State.absorbApplies_iff (s : State) (e : Nat) :
    s.absorbApplies e = true ↔
      (s.spindle ≠ .up ∧ s.policyOf e ≠ .bypass) ∨ (s.policyOf e = .pin ∧ s.pinnedCount < s.pinLimit) := by
  simp [State.absorbApplies, State.pinRoom]

theorem State.policyOf_heatless {s t : State} (h : t.heatless = s.heatless) (e : Nat) : t.policyOf e = s.policyOf e := by
  have hw : t.windows = s.windows := (congrArg State.windows h : t.heatless.windows = _)
  simp only [State.policyOf, hw]

theorem State.pinRoom_heatless {s t : State} (h : t.heatless = s.heatless) : t.pinRoom = s.pinRoom := by
  have hs : t.sizes = s.sizes := (congrArg State.sizes h : t.heatless.sizes = _)
  unfold State.pinRoom State.pinnedCount State.pinLimit
  rw [State.heatless_records h, hs]

theorem State.absorbApplies_heatless {s t : State} (h : t.heatless = s.heatless) (e : Nat) :
    t.absorbApplies e = s.absorbApplies e := by
  have hs : t.spindle = s.spindle := (congrArg State.spindle h : t.heatless.spindle = _)
  simp only [State.absorbApplies, State.pinRoom_heatless h, State.policyOf_heatless h, hs]

theorem State.handOut_congr {s t : State} (hf : t.free = s.free) (ho : t.flashOwed = s.flashOwed) :
    t.handOut = s.handOut := by
  simp only [State.handOut, State.retireOwed, hf, ho]

/-- A record without a drain mark is what it was at the end of an event. -/
theorem State.Recorded.residentOf_unmarked {q : Parked} {ds : List Decision} {v t : State} (h : State.Recorded q ds v t)
    {e : Nat} {r : Resident} (hr : v.residentOf e = some r) (hm : r.drainMark = false) : t.residentOf e = some r := by
  obtain ⟨m, ht, hfalse⟩ := h.resident e r hr
  rw [ht, hfalse hm, ← hm]

theorem State.Recorded.evictions {q : Parked} {ds : List Decision} {v t : State} (h : State.Recorded q ds v t) :
    t.stats.evictions = v.stats.evictions := by
  rw [h.stats]
  rfl

theorem State.Recorded.absorbed {q : Parked} {ds : List Decision} {v t : State} (h : State.Recorded q ds v t) :
    t.stats.absorbed = min (v.stats.absorbed + (ds.map fun d => segCount d.absorbed).sum) 4294967295 := by
  rw [h.stats]
  rfl

theorem State.Recorded.forcedWakes {q : Parked} {ds : List Decision} {v t : State} (h : State.Recorded q ds v t) :
    t.stats.forcedWakes =
      if v.forcedWake ds = true then min (v.stats.forcedWakes + 1) 4294967295 else v.stats.forcedWakes := by
  rw [h.stats]
  unfold Stats.routed
  cases v.forcedWake ds <;> rfl

/-- A WRITE of one extent, not resident, that is taken and routed (R53, R57). -/
theorem exec_write_absent {s : State} {tag lba count : Nat} {q : Parked} {sp : Span} {ws : List Word}
    (hv : s.service = .serving) (hq : validRoute tag 1 lba count = some q) (ht : s.tagInUse tag = false)
    (hp : s.routeParks q = false) (ho : s.offered .front (.route tag 1 lba count) = some ws)
    (hone : routeSpans lba count = [sp]) (hr : s.residentOf sp.extent = none) :
    ∃ t, exec (.route tag 1 lba count) s = .next t ∧ q = ⟨tag, .write, lba, count⟩ ∧
      ((s.popFifo .front).examineRoute q).heatless = (s.popFifo .front).heatless ∧
      State.Recorded q [(((s.popFifo .front).examineRoute q).writeAbsent [sp.extent] sp).1]
        (((s.popFifo .front).examineRoute q).writeAbsent [sp.extent] sp).2 t := by
  obtain ⟨t, hexec, hrec⟩ := exec_route_recorded hv hq ht hp ho
  obtain ⟨k, hwrite, hqe, -, -⟩ := validRoute_eq hq
  obtain rfl : RouteKind.write = k := Option.some.inj hwrite
  have hkind : q.kind = .write := by rw [hqe]
  have hspans : routeSpans q.lba q.count = [sp] := by rw [hqe]; exact hone
  have hnone : ∀ a ∈ routeSpans q.lba q.count, (s.popFifo .front).residentOf a.extent = none := by
    intro a ha
    rw [hspans] at ha
    rw [List.mem_singleton.1 ha]
    exact hr
  have hheat := State.examineRoute_heatless hkind hnone
  have habsent : ((s.popFifo .front).examineRoute q).residentOf sp.extent = none :=
    (State.residentOf_congr (State.heatless_records hheat) _).trans hr
  rw [State.trimEnded_of_ne (by rw [hkind]; simp), State.decided_write hkind, hspans] at hrec
  refine ⟨t, hexec, hqe, hheat, ?_⟩
  rw [← State.decideSpan_write_absent [sp.extent] habsent]
  exact hrec

/-- The examination of a WRITE of one extent gives its heat what the weight gives it. -/
theorem State.examineRoute_write_one {q : Parked} {sp : Span} (h : q.kind = .write)
    (hone : routeSpans q.lba q.count = [sp]) (s : State) :
    s.examineRoute q = (s.classify q.lba q.count).2.weighExtent (s.writeWeight q) sp.extent := by
  rw [State.examineRoute_write h, hone]
  rfl

/-- A state whose slot is taken and whose record enters, beside what an absorb changes. -/
theorem State.takeSlot_absorbInto_unweighed {s v : State} (sp : Span) (n : Nat) (h : v.unweighed = s.unweighed) :
    ((v.takeSlot n).absorbInto sp n).unweighed = (s.takeSlot n).unweighed :=
  (State.absorbInto_unweighed sp n (v.takeSlot n)).trans
    (congrArg (fun x : State => { x with free := without n x.free }) h)

/-! ### An absorb beside a resident extent -/

theorem State.wrote_watchOf (sp : Span) (s : State) (e : Nat) : (s.wrote sp).watchOf e = s.watchOf e := by
  refine State.watchOf_congr ?_ e
  exact (congrArg State.watch (State.wrote_unwritten sp s) : (s.wrote sp).unwritten.watch = _)

theorem State.wrote_policyOf (sp : Span) (s : State) (e : Nat) : (s.wrote sp).policyOf e = s.policyOf e := by
  have hw : (s.wrote sp).windows = s.windows := (congrArg State.windows (State.wrote_unwritten sp s) :)
  simp only [State.policyOf, hw]

/-- What the decisions of a WRITE to an absorbed extent and a resident one do at the absorbed one, in either order. -/
structure State.AbsorbedBeside (sp other : Span) (n : Nat) (s : State) (o : List Decision × State) : Prop where
  count : (o.1.map fun d => segCount d.absorbed).sum = segCount sp.full
  resident : ∃ u : State, u.inheritedHeat sp.extent = s.inheritedHeat sp.extent ∧
    o.2.residentOf sp.extent = some (u.absorbedRecord sp.extent n sp.full)
  free : o.2.free = without n s.free
  watch : o.2.watchOf sp.extent = none
  segments : ∀ e, e ≠ sp.extent → e ≠ other.extent → o.2.segmentsOf e = s.segmentsOf e
  stats : o.2.stats = s.stats

section
variable {s : State} {x : List Nat} {sp other : Span} {n : Nat} (hne : sp.extent ≠ other.extent)
  (hr : s.residentOf sp.extent = none) (ho : s.residentOf other.extent ≠ none) (hf : sp.full ≠ 0#32)
  (hup : s.spindle ≠ .up) (hby : s.policyOf sp.extent ≠ .bypass) (hn : s.handOut = some n)
include hne hr ho hf hup hby hn

theorem State.decideSpans_absorb_resident :
    State.AbsorbedBeside sp other n s (s.decideSpans .write x [sp, other]) := by
  have happ : s.absorbApplies sp.extent = true := (s.absorbApplies_iff sp.extent).2 (.inl ⟨hup, hby⟩)
  have h1 : s.decideSpan .write x sp = (sp.absorbDecision n, (s.takeSlot n).absorbInto sp n) := by
    rw [State.decideSpan_write_absent x hr]
    exact State.writeAbsent_taken hf happ (State.absorbSlot_of_free x hn)
  have hu := State.absorbInto_unweighed sp n (s.takeSlot n)
  have hsp : ((s.takeSlot n).absorbInto sp n).residentOf sp.extent =
      some ((s.takeSlot n).absorbedRecord sp.extent n sp.full) := State.residentOf_absorbInto_same n hr
  have hother (e : Nat) (he : e ≠ sp.extent) : ((s.takeSlot n).absorbInto sp n).residentOf e = s.residentOf e :=
    State.residentOf_absorbInto_of_ne sp n (s.takeSlot n) he
  have hwatch := State.watchOf_absorbInto_same sp n (s.takeSlot n)
  generalize (s.takeSlot n).absorbInto sp n = u at *
  obtain ⟨r, hor⟩ := Option.ne_none_iff_exists'.1 ho
  have hur : u.residentOf other.extent = some r := (hother _ hne.symm).trans hor
  have h2 : s.decideSpans .write x [sp, other] =
      ([sp.absorbDecision n, other.writeDecision r (u.policyOf other.extent)], u.wrote other) := by
    simp only [State.decideSpans, h1, State.decideSpan_write_resident x hur, State.wrote_resident hur]
    rfl
  have hw := State.wrote_unwritten other u
  rw [h2]
  exact
    { count := (congrArg (segCount sp.full + ·) (absorbed_sum_eq_zero (by simp [Span.writeDecision]))).trans (Nat.add_zero _)
      resident := ⟨s.takeSlot n, rfl, (State.wrote_passesBy hne u).resident.trans hsp⟩
      free := (congrArg State.free hw :).trans (congrArg State.free hu :)
      watch := (State.wrote_watchOf other u _).trans hwatch
      segments := fun e he he' => State.segmentsOf_eq_of_resident ((State.wrote_passesBy he' u).resident.trans (hother e he))
      stats := (congrArg State.stats hw :).trans (congrArg State.stats hu :) }

theorem State.decideSpans_resident_absorb :
    State.AbsorbedBeside sp other n s (s.decideSpans .write x [other, sp]) := by
  obtain ⟨r, hor⟩ := Option.ne_none_iff_exists'.1 ho
  have hw := State.wrote_unwritten other s
  have hu : (s.wrote other).residentOf sp.extent = none := (State.wrote_passesBy hne s).resident.trans hr
  have hother (e : Nat) (he : e ≠ other.extent) : (s.wrote other).residentOf e = s.residentOf e :=
    (State.wrote_passesBy he s).resident
  have hpol := State.wrote_policyOf other s sp.extent
  have hspin : (s.wrote other).spindle = s.spindle := (congrArg State.spindle hw :)
  have hwatch := State.wrote_watchOf other s sp.extent
  have h1 : s.decideSpan .write x other = (other.writeDecision r (s.policyOf other.extent), s.wrote other) := by
    rw [State.decideSpan_write_resident x hor, State.wrote_resident hor]
    rfl
  generalize s.wrote other = u at *
  have happ : u.absorbApplies sp.extent = true := (u.absorbApplies_iff sp.extent).2
    (.inl ⟨by rw [hspin]; exact hup, by rw [hpol]; exact hby⟩)
  have hout : u.handOut = some n := (State.handOut_congr (congrArg State.free hw :) (congrArg State.flashOwed hw :)).trans hn
  have h2 : s.decideSpans .write x [other, sp] =
      ([other.writeDecision r (s.policyOf other.extent), sp.absorbDecision n], (u.takeSlot n).absorbInto sp n) := by
    simp only [State.decideSpans, h1, State.decideSpan_write_absent x hu,
      State.writeAbsent_taken hf happ (State.absorbSlot_of_free x hout)]
  have hun := State.absorbInto_unweighed sp n (u.takeSlot n)
  have hheat : u.inheritedHeat sp.extent = s.inheritedHeat sp.extent := by
    have he : u.epoch = s.epoch := (congrArg State.epoch hw :)
    simp only [State.inheritedHeat, hwatch, State.newHeat, he]
  rw [h2]
  exact
    { count := (congrArg (· + (segCount sp.full + 0)) (absorbed_sum_eq_zero
        (ds := [other.writeDecision r (s.policyOf other.extent)]) (by simp [Span.writeDecision]))).trans (Nat.zero_add _)
      resident := ⟨u.takeSlot n, hheat, State.residentOf_absorbInto_same n hu⟩
      free := (congrArg State.free hun :).trans (congrArg (without n) (congrArg State.free hw :))
      watch := State.watchOf_absorbInto_same sp n (u.takeSlot n)
      segments := fun e he he' => State.segmentsOf_eq_of_resident
        ((State.residentOf_absorbInto_of_ne sp n (u.takeSlot n) he).trans (hother e he'))
      stats := (congrArg State.stats hun :).trans (congrArg State.stats hw :) }

end

/-! ### Two absorbs -/

theorem handOut_without {s : State} {m n : Nat} {rest : List Nat}
    (h : s.free.filter (fun k => !s.retireOwed k) = m :: n :: rest) (hmn : m ≠ n) :
    s.handOut = some m ∧ (s.takeSlot m).handOut = some n := by
  have hfirst (l : List Nat) : l.find? (fun k => !s.retireOwed k) = (l.filter fun k => !s.retireOwed k).head? :=
    List.head?_filter.symm
  refine ⟨(hfirst s.free).trans (by rw [h]; rfl), (hfirst (without m s.free)).trans ?_⟩
  rw [without, List.filter_filter]
  simp only [Bool.and_comm]
  rw [← List.filter_filter, h]
  simp [hmn.symm]

/-- The decisions of a WRITE to two absorbed extents, the first before the second (R57, R58). -/
theorem State.decideSpans_absorbs {s : State} {x : List Nat} {a b : Span} {m n : Nat} {rest : List Nat}
    (hne : b.extent ≠ a.extent) (hra : s.residentOf a.extent = none) (hrb : s.residentOf b.extent = none)
    (hfa : a.full ≠ 0#32) (hfb : b.full ≠ 0#32) (hup : s.spindle ≠ .up) (hba : s.policyOf a.extent ≠ .bypass)
    (hbb : s.policyOf b.extent ≠ .bypass) (hfree : s.free.filter (fun k => !s.retireOwed k) = m :: n :: rest)
    (hmn : m ≠ n) :
    s.decideSpans .write x [a, b] =
      ([a.absorbDecision m, b.absorbDecision n],
        (((s.takeSlot m).absorbInto a m).takeSlot n).absorbInto b n) := by
  obtain ⟨hm, hn⟩ := handOut_without hfree hmn
  have happ : s.absorbApplies a.extent = true := (s.absorbApplies_iff _).2 (.inl ⟨hup, hba⟩)
  have h1 : s.decideSpan .write x a = (a.absorbDecision m, (s.takeSlot m).absorbInto a m) := by
    rw [State.decideSpan_write_absent x hra]
    exact State.writeAbsent_taken hfa happ (State.absorbSlot_of_free x hm)
  have hu := State.absorbInto_unweighed a m (s.takeSlot m)
  have hub : ((s.takeSlot m).absorbInto a m).residentOf b.extent = none :=
    (State.residentOf_absorbInto_of_ne a m (s.takeSlot m) hne).trans hrb
  generalize (s.takeSlot m).absorbInto a m = u at *
  have happ' : u.absorbApplies b.extent = true := (u.absorbApplies_iff _).2
    (.inl ⟨by rw [State.unweighed_spindle hu]; exact hup, by rw [State.unweighed_policyOf hu]; exact hbb⟩)
  have hout : u.handOut = some n :=
    (State.handOut_congr (State.unweighed_free hu) (State.unweighed_flashOwed hu)).trans hn
  simp only [State.decideSpans, h1, State.decideSpan_write_absent x hub,
    State.writeAbsent_taken hfb happ' (State.absorbSlot_of_free x hout)]

end Sys2Proof.Machine
end

section
/-! SUPPORT. The absorbs of a WRITE that find no free slot: the victim, and the want of one. -/

namespace Sys2Proof.Machine

/-! ### The victim's heat -/

theorem Heat.caughtUp_of_stamp {g : Settings} {epoch : Nat} {h : Heat} (hs : h.stamp = epoch) : h.caughtUp g epoch = h := by
  have ho : h.owedSteps epoch = 0 := by
    unfold Heat.owedSteps Config.wrap16
    rw [hs, Nat.add_sub_cancel_left]
  rw [Heat.caughtUp_of_le g (by omega), ho, ← hs]
  rfl

theorem State.stamp_heatNow (w : Nat) (h : Heat) (s : State) : (s.heatNow w h).stamp = s.epoch := by
  unfold State.heatNow Heat.gain Heat.caughtUp
  split <;> rfl

/-- An examined record bears the epoch (R24). -/
theorem State.stamp_examine {s : State} {e : Nat} {r : Resident} (w : Nat) (h : (s.examine w e).residentOf e = some r) :
    r.heat.stamp = (s.examine w e).epoch := by
  have he : (s.examine w e).epoch = s.epoch := State.unweighed_epoch (State.examine_unweighed w e s)
  cases hr : s.residentOf e with
  | none =>
    rw [(State.examine_reheats w e s).absent e hr] at h
    cases h
  | some r' =>
    have hx := State.residentOf_extent hr
    have := State.residentOf_examineResident w (s := s) (r := r') (by rw [hx]; exact hr)
    rw [hx, ← show s.examine w e = s.examineResident w r' by simp only [State.examine, hr], h] at this
    rw [he, Option.some.inj this, Resident.settled_heat]
    exact State.stamp_heatNow w _ s

theorem State.stamp_walk {x : List Nat} {b : List Band} {n : Nat} {s t : State} {e : Nat} {r : Resident}
    (h : s.walk x b n = (some e, t)) (hr : t.residentOf e = some r) : r.heat.stamp = t.epoch := by
  induction n generalizing s with
  | zero => cases h
  | succ n ih =>
    unfold State.walk at h
    split at h
    · cases h
    · dsimp only at h
      split at h
      · simp only [Prod.mk.injEq, Option.some.injEq] at h
        obtain ⟨rfl, rfl⟩ := h
        exact State.stamp_examine 0 hr
      · exact ih h

theorem State.stamp_pinScan {x : List Nat} {b : List Band} {l : List Nat} {s t : State} {e : Nat} {r : Resident}
    (h : State.pinScan x b l s = (some e, t)) (hr : t.residentOf e = some r) : r.heat.stamp = t.epoch := by
  induction l generalizing s with
  | nil => cases h
  | cons v l ih =>
    unfold State.pinScan at h
    split at h
    · exact ih h
    · rename_i u hu
      have hexam : s.examineResident 0 u = s.examine 0 v := by simp only [State.examine, hu]
      split at h
      · dsimp only at h
        rw [hexam] at h
        split at h
        · simp only [Prod.mk.injEq, Option.some.injEq] at h
          obtain ⟨rfl, rfl⟩ := h
          exact State.stamp_examine 0 hr
        · exact ih h
      · exact ih h

/-- A victim is caught up where it is chosen (R96). -/
theorem State.stamp_victim {x : List Nat} {c : Option Band} {s t : State} {e : Nat} {r : Resident}
    (h : s.victim x c = (some e, t)) (hr : t.residentOf e = some r) : r.heat.stamp = t.epoch := by
  unfold State.victim at h
  split at h
  · rename_i hw
    cases h
    exact State.stamp_walk hw hr
  · split at h
    · exact State.stamp_pinScan h hr
    · cases h

/-! ### The want of a victim -/

/-- Every clean record is held, claimed or, where pinned, under a FILL (R95). -/
def State.NoVictim (s : State) : Prop :=
  (∀ b : Band, ∀ x ∈ s.clean.get b, s.held x = true ∨ s.claimed x = true) ∧
    ∀ r ∈ s.records, r.isPinnedClean = true → r.state = .filling ∨ s.held r.extent = true ∨ s.claimed r.extent = true

theorem State.skipped_of_held_or_claimed {s : State} {e : Nat} (x : List Nat) (h : s.held e = true ∨ s.claimed e = true) :
    s.skipped x e = true := by
  rcases h with h | h <;> simp [State.skipped, h]

theorem State.NoVictim.firstOffered {s : State} (h : s.NoVictim) (x : List Nat) (b : List Band) :
    s.firstOffered x b = none := by
  unfold State.firstOffered
  rw [List.findSome?_eq_none_iff]
  intro k _
  rw [Option.map_eq_none_iff, List.find?_eq_none]
  intro e he
  simp [State.skipped_of_held_or_claimed x (h.1 k e he)]

theorem State.NoVictim.pinScan {s : State} (h : s.NoVictim) (x : List Nat) (b : List Band) (l : List Nat) :
    State.pinScan x b l s = (none, s) := by
  induction l with
  | nil => rfl
  | cons e l ih =>
    unfold State.pinScan
    cases hr : s.residentOf e with
    | none => exact ih
    | some r =>
      have hx := State.residentOf_extent hr
      have hskip : (r.isPinnedClean && r.state != .filling && !s.skipped x e) = false := by
        cases hp : r.isPinnedClean with
        | false => rfl
        | true =>
          rcases h.2 r (State.residentOf_mem hr).1 hp with k | k
          · simp [k]
          · rw [hx] at k
            simp [State.skipped_of_held_or_claimed x k]
      exact (if_neg (by rw [hskip]; simp)).trans ih

/-- Without a record to be had, victim choice finds none and examines none (R95, R96). -/
theorem State.NoVictim.victim {s : State} (h : s.NoVictim) (x : List Nat) (c : Option Band) :
    s.victim x c = (none, s) := by
  have hwalk : s.walk x (bandsUpTo c) (s.clean.size + 1) = (none, s) := by
    unfold State.walk
    rw [h.firstOffered x]
  unfold State.victim
  rw [hwalk]
  dsimp only
  split
  · exact h.pinScan x _ _
  · rfl

theorem State.absorbSlot_of_no_victim {s : State} (x : List Nat) (h : s.handOut = none) (hv : s.NoVictim) :
    s.absorbSlot x = (none, s) := by
  unfold State.absorbSlot
  rw [h]
  dsimp only
  rw [hv.victim x]

/-- Victim choice asks nothing of the heat of extents that are not resident. -/
theorem State.NoVictim.congr {s t : State} (h : s.NoVictim) (hr : t.records = s.records) (hc : t.clean = s.clean)
    (hh : t.routes = s.routes) (hk : t.claims = s.claims) : t.NoVictim := by
  have hheld (e : Nat) : t.held e = s.held e := by simp only [State.held, hh]
  have hclaimed (e : Nat) : t.claimed e = s.claimed e := by simp only [State.claimed, State.claimIndex, hk]
  unfold State.NoVictim
  simp only [hr, hc, hheld, hclaimed]
  exact h

/-- An extent to which absorb applies goes to DISK for want of a slot, or of a covered segment (R57, R59). -/
theorem State.writeAbsent_no_victim {s : State} {x : List Nat} {sp : Span} (ha : s.absorbApplies sp.extent = true)
    (h : s.handOut = none) (hv : s.NoVictim) : s.writeAbsent x sp = (sp.allDisk (decide (sp.full ≠ 0#32)), s) := by
  by_cases hf : sp.full = 0#32
  · unfold State.writeAbsent
    rw [if_pos (.inl hf), decide_eq_false (by simpa using hf)]
  · rw [State.writeAbsent_failed hf ha (State.absorbSlot_of_no_victim x h hv), decide_eq_true hf]

/-- An answer whose decisions route every segment to DISK is one piece (R64). -/
theorem answerPieces_all_disk {lba count : Nat} {ds : List Decision} (h : 1 ≤ count) (h' : count ≤ 256)
    (hd : ds.map (fun d => d.span) = routeSpans lba count) (hdisk : ∀ d ∈ ds, d.flash = 0#32 ∧ d.none = 0#32) :
    answerPieces ds = [{ media := .disk, first := lba, count := count }] := by
  have hruns := runs_answerPieces h h' hd
  have hchain : (answerPieces ds).IsChain fun p q => p.media ≠ q.media := joined_media_ne _
  have hmedia : ∀ p ∈ answerPieces ds, p.media = .disk := by
    intro p hp
    obtain ⟨d, hdm, n, -, -, hm⟩ := (exists_media_answerPieces ds p.media).1 ⟨p, hp, rfl⟩
    obtain ⟨h1, h2⟩ := hdisk d hdm
    rw [← hm]
    exact (Decision.mediaOf_eq_disk d n).2 ⟨by rw [h1, BitVec.getLsbD_zero], by rw [h2, BitVec.getLsbD_zero]⟩
  generalize answerPieces ds = ps at hruns hchain hmedia
  match ps, hruns, hchain, hmedia with
  | [], hruns, _, _ =>
    have : lba = lba + count := hruns
    omega
  | [p], ⟨hfirst, hlast⟩, _, hmedia =>
    have hcount : lba + p.count = lba + count := hlast
    have hdisk' := hmedia p (List.mem_singleton.2 rfl)
    obtain ⟨media, first, n⟩ := p
    obtain rfl : media = .disk := hdisk'
    obtain rfl : first = lba := hfirst
    obtain rfl : n = count := by simpa using hcount
    rfl
  | p :: p' :: ps, _, hchain, hmedia =>
    exact absurd ((hmedia p (by simp)).trans (hmedia p' (by simp)).symm) (List.isChain_cons_cons.1 hchain).1

/-! ### The eviction -/

theorem State.remove_passed (r : Resident) (s : State) :
    (s.remove .passed r).free = s.free ∧ (s.remove .passed r).fences = s.fences := by
  rw [State.remove_eq]
  show ((State.drop r (s.produceRetire r.slot)).returnHeat r.extent _).free = _ ∧
    ((State.drop r (s.produceRetire r.slot)).returnHeat r.extent _).fences = _
  rw [State.returnHeat_eq]
  exact ⟨State.produceRetire_free r.slot s, State.produceRetire_fences r.slot s⟩

/-- An eviction whose slot passes on places its RETIRE_SLOT, or owes it behind a record owed (R97, R101). -/
theorem State.remove_passed_announces (r : Resident) (s : State) :
    (s.flash.out.length < 16 → s.flashOwed = [] →
      (s.remove .passed r).flash.out = s.flash.out ++ [.retireSlot r.slot] ∧ (s.remove .passed r).flashOwed = []) ∧
    (s.flashOwed ≠ [] → (s.remove .passed r).flashOwed = s.flashOwed ++ [.retire r.slot]) := by
  obtain ⟨h1, h2⟩ := State.remove_flash .passed r s
  rw [h1, h2]
  refine ⟨fun k1 k2 => State.produceRetire_placed r.slot k1 k2, fun k => ?_⟩
  show (s.produceRetire r.slot).flashOwed = _
  rw [State.produceRetire_owed r.slot (.inr k)]

/-- What the eviction of a victim leaves, from the state it is chosen in. -/
structure State.Evicted (x : Resident) (s v u : State) : Prop where
  gone : u.residentOf x.extent = none
  others : ∀ e, e ≠ x.extent → u.segmentsOf e = s.segmentsOf e
  free : u.free = s.free
  fences : u.fences = s.fences
  contexts : u.contexts = s.contexts
  front : u.front = s.front
  routes : u.routes = s.routes
  placed : s.flash.out.length < 16 → s.flashOwed = [] → u.flash.out = s.flash.out ++ [.retireSlot x.slot] ∧ u.flashOwed = []
  owed : s.flashOwed ≠ [] → u.flashOwed = s.flashOwed ++ [.retire x.slot]
  evictions : u.stats.evictions = min (s.stats.evictions + 1) 4294967295
  absorbed : u.stats.absorbed = s.stats.absorbed
  warm : x.heat.heat ≠ 0 → s.watch.length < 4096 → s.watchOf x.extent = none →
    u.promo = v.promo ∧ u.touch = x.extent :: s.touch ∧ ∃ w, u.watchOf x.extent = some w ∧ w.heat = x.heat
  cold : x.heat.heat = 0 → s.watchOf x.extent = none → u.watchOf x.extent = none ∧ x.extent ∉ u.promo
  clean : ∀ b, x.extent ∉ u.clean.get b

theorem State.victim_evicted {y : List Nat} {c : Option Band} {s v : State} {e : Nat} {x : Resident}
    (h : s.victim y c = (some e, v)) (hx : v.residentOf e = some x) : State.Evicted x s v (v.evict .passed x) := by
  have hun := State.victim_unexamined h (by rw [hx]; simp)
  have hseg (z : Nat) : v.segmentsOf z = s.segmentsOf z := by
    have := State.victim_segmentsOf y c s z
    rwa [h] at this
  have hcaught : x.heat.caughtUp v.settings v.epoch = x.heat := Heat.caughtUp_of_stamp (State.stamp_victim h hx)
  have hremoved := State.remove_unremoved .passed x v
  obtain ⟨hfree, hfences⟩ := State.remove_passed x v
  obtain ⟨hplaced, howed⟩ := State.remove_passed_announces x v
  obtain ⟨hcold, hwarm⟩ := State.remove_heat .passed x v
  rw [hcaught] at hcold hwarm
  have hflash : v.flash = s.flash := (congrArg State.flash hun :)
  have hflashOwed : v.flashOwed = s.flashOwed := (congrArg State.flashOwed hun :)
  have hwatch : v.watch = s.watch := (congrArg State.watch hun :)
  have htouch : v.touch = s.touch := (congrArg State.touch hun :)
  have hstats : v.stats = s.stats := (congrArg State.stats hun :)
  have hwatchOf := State.watchOf_congr hwatch x.extent
  rw [hflash, hflashOwed] at hplaced
  rw [hflashOwed] at howed
  rw [hwatch, hwatchOf, htouch] at hwarm
  rw [hwatch, htouch] at hcold
  have hgone := State.residentOf_remove_same .passed x v
  have hothers (z : Nat) (hz : z ≠ x.extent) := (State.segmentsOf_remove_of_ne .passed x v hz).trans (hseg z)
  have hclean := State.remove_clean .passed x v
  have hremoved' := State.unremoved_stats hremoved
  unfold State.evict
  generalize v.remove .passed x = u at *
  exact
    { gone := hgone
      others := hothers
      free := hfree.trans (congrArg State.free hun :)
      fences := hfences.trans (congrArg State.fences hun :)
      contexts := (State.unremoved_contexts hremoved).trans (congrArg State.contexts hun :)
      front := (State.unremoved_front hremoved).trans (congrArg State.front hun :)
      routes := (State.unremoved_routes hremoved).trans (congrArg State.routes hun :)
      placed := hplaced
      owed := howed
      evictions := congrArg (fun c : Stats => addSat c.evictions 1) (hremoved'.trans hstats)
      absorbed := (congrArg Stats.absorbed (hremoved'.trans hstats) :)
      warm := fun k hl hw => by
        obtain ⟨h1, h2, h3⟩ := hwarm k hl
        exact ⟨h1, h2, h3 hw⟩
      cold := fun k hw => by
        obtain ⟨h1, h2, -⟩ := hcold k
        refine ⟨(State.watchOf_congr h2 x.extent).trans hw, ?_⟩
        show x.extent ∉ u.promo
        rw [h1]
        simp
      clean := fun b => by
        show x.extent ∉ u.clean.get b
        rw [hclean]
        simp }

end Sys2Proof.Machine
end

section
/-! PROOFS. The absorbs of a WRITE. -/

namespace Sys2Proof.Machine

theorem State.forcedWake_one (d : Decision) (s : State) : s.forcedWake [d] = (s.spindle != .up && d.failed) := by
  simp [State.forcedWake]

/-- The weight of an extent, by its policy (R43). -/
theorem extentWeight_eq (p : Policy) (w : Nat) :
    extentWeight p w = match p with | .bypass => 0 | .boost => 2 * w | .normal => w | .pin => w := by
  cases p <;> rfl

theorem State.inheritedHeat_of_watched {s : State} {e : Nat} {x : WatchEntry} (h : s.watchOf e = some x) :
    s.inheritedHeat e = x.heat := by
  unfold State.inheritedHeat
  rw [h]

/-- The examination of a WRITE gives the same watch entries whatever the front link holds. -/
theorem State.watchOf_examineRoute_popFifo {q : Parked} (h : q.kind = .write) (s : State) (e : Nat) :
    ((s.popFifo .front).examineRoute q).watchOf e = (s.examineRoute q).watchOf e := by
  rw [State.popFifo_front_eq, State.examineRoute_withFront h]
  rfl

/-- A WRITE that is taken and routed, by its decisions on the examined state (R53). -/
theorem exec_write {s : State} {tag lba count : Nat} {q : Parked} {ws : List Word}
    (hv : s.service = .serving) (hq : validRoute tag 1 lba count = some q) (ht : s.tagInUse tag = false)
    (hp : s.routeParks q = false) (ho : s.offered .front (.route tag 1 lba count) = some ws) :
    ∃ t, exec (.route tag 1 lba count) s = .next t ∧ q = ⟨tag, .write, lba, count⟩ ∧
      State.Recorded q (((s.popFifo .front).examineRoute q).decideSpans .write ((routeSpans lba count).map (·.extent))
          (routeSpans lba count)).1
        (((s.popFifo .front).examineRoute q).decideSpans .write ((routeSpans lba count).map (·.extent))
          (routeSpans lba count)).2 t := by
  obtain ⟨t, hexec, hrec⟩ := exec_route_recorded hv hq ht hp ho
  obtain ⟨k, hwrite, hqe, -, -⟩ := validRoute_eq hq
  obtain rfl : RouteKind.write = k := Option.some.inj hwrite
  have hkind : q.kind = .write := by rw [hqe]
  have hspans : routeSpans q.lba q.count = routeSpans lba count := by rw [hqe]
  rw [State.trimEnded_of_ne (by rw [hkind]; simp), State.decided_write hkind, hspans] at hrec
  exact ⟨t, hexec, hqe, hrec⟩

/-- A route with two extents lists them in one order or the other. -/
theorem routeSpans_pair {lba count : Nat} {sp other : Span} (hsp : sp ∈ routeSpans lba count)
    (hother : other ∈ routeSpans lba count) (hne : other ≠ sp) :
    routeSpans lba count = [sp, other] ∨ routeSpans lba count = [other, sp] := by
  unfold routeSpans at *
  dsimp only at *
  split at hsp
  · rename_i k
    rw [if_pos k] at hother
    exact absurd ((List.mem_singleton.1 hother).trans (List.mem_singleton.1 hsp).symm) hne
  · rename_i k
    rw [if_neg k] at hother ⊢
    rcases List.mem_pair.1 hsp with rfl | rfl <;> rcases List.mem_pair.1 hother with rfl | rfl
    · exact absurd rfl hne
    · exact .inl rfl
    · exact .inr rfl
    · exact absurd rfl hne

/-! ### The state that a WRITE absorbs in -/

/-- What the examination of extents that are not resident leaves of the state that a WRITE is taken in. -/
structure State.Leads (s p : State) : Prop where
  residentOf : ∀ e, p.residentOf e = s.residentOf e
  segmentsOf : ∀ e, p.segmentsOf e = s.segmentsOf e
  policyOf : ∀ e, p.policyOf e = s.policyOf e
  pinRoom : p.pinRoom = s.pinRoom
  applies : ∀ e, p.absorbApplies e = s.absorbApplies e
  handOut : p.handOut = s.handOut
  noVictim : s.NoVictim → p.NoVictim
  free : p.free = s.free
  fences : p.fences = s.fences
  contexts : p.contexts = s.contexts
  dirtyList : p.dirtyList = s.dirtyList
  flash : p.flash = s.flash
  flashOwed : p.flashOwed = s.flashOwed
  front : p.front = (s.popFifo .front).front
  routes : p.routes = s.routes
  stats : p.stats = s.stats
  spindle : p.spindle = s.spindle

theorem State.Leads.of_heatless {s p : State} (h : p.heatless = (s.popFifo .front).heatless) : s.Leads p where
  residentOf e := (State.residentOf_congr (State.heatless_records h) e :)
  segmentsOf e := (State.segmentsOf_congr (State.heatless_records h) e :)
  policyOf e := (State.policyOf_heatless h e :)
  pinRoom := (State.pinRoom_heatless h :)
  applies e := (State.absorbApplies_heatless h e :)
  handOut := State.handOut_congr (congrArg State.free h :) (congrArg State.flashOwed h :)
  noVictim hs := hs.congr (State.heatless_records h :) (congrArg State.clean h :) (congrArg State.routes h :)
    (congrArg State.claims h :)
  free := (congrArg State.free h :)
  fences := (congrArg State.fences h :)
  contexts := (congrArg State.contexts h :)
  dirtyList := (congrArg State.dirtyList h :)
  flash := (congrArg State.flash h :)
  flashOwed := (congrArg State.flashOwed h :)
  front := (congrArg State.front h :)
  routes := (congrArg State.routes h :)
  stats := (congrArg State.stats h :)
  spindle := (congrArg State.spindle h :)

section
variable {s : State} {tag lba count : Nat} {q : Parked} {ws : List Word}
  (hv : s.service = .serving) (hq : validRoute tag 1 lba count = some q) (ht : s.tagInUse tag = false)
  (hp : s.routeParks q = false) (ho : s.offered .front (.route tag 1 lba count) = some ws)
include hv hq ht hp ho

/-- A WRITE whose one extent is absorbed into a free slot, with the heat that its record takes (R57, R58). -/
theorem exec_absorb_free {sp : Span} {n : Nat} (hone : routeSpans lba count = [sp]) (hr : s.residentOf sp.extent = none)
    (hf : sp.full ≠ 0#32) (ha : s.absorbApplies sp.extent = true) (hn : s.handOut = some n) :
    ∃ t v, exec (.route tag 1 lba count) s = .next t ∧ s.Leads v ∧
      (∀ x, s.watchOf sp.extent = some x → v.inheritedHeat sp.extent =
        s.heatNow (extentWeight (s.policyOf sp.extent) (s.writeWeight q)) x.heat) ∧
      (s.watchOf sp.extent = none → v.inheritedHeat sp.extent =
        s.newHeat (extentWeight (s.policyOf sp.extent) (s.writeWeight q))) ∧
      State.Recorded q [sp.absorbDecision n] ((v.takeSlot n).absorbInto sp n) t := by
  obtain ⟨t, hexec, hqe, hheat, hrec⟩ := exec_write_absent hv hq ht hp ho hone hr
  have hkind : q.kind = .write := by rw [hqe]
  have hinherit := State.inheritedHeat_weighExtent (s := ((s.popFifo .front).classify q.lba q.count).2)
    (State.writeWeight q (s.popFifo .front)) hr
  rw [← State.examineRoute_write_one hkind (by rw [hqe]; exact hone)] at hinherit
  have hlead := State.Leads.of_heatless hheat
  rw [State.writeAbsent_taken hf ((hlead.applies _).trans ha)
    (State.absorbSlot_of_free _ (hlead.handOut.trans hn))] at hrec
  exact ⟨t, _, hexec, hlead, hinherit.1, hinherit.2, hrec⟩

/-- A WRITE of two extents, one absorbed into a free slot and one resident (R56 to R58). -/
theorem exec_absorb_beside {sp other : Span} {n : Nat} (hsp : sp ∈ routeSpans lba count)
    (hother : other ∈ routeSpans lba count) (hne : other ≠ sp) (hr : s.residentOf sp.extent = none)
    (hro : s.residentOf other.extent ≠ none) (hf : sp.full ≠ 0#32) (hup : s.spindle ≠ .up)
    (hby : s.policyOf sp.extent ≠ .bypass) (hn : s.handOut = some n) :
    ∃ t v o, exec (.route tag 1 lba count) s = .next t ∧ v.unweighed = (s.popFifo .front).unweighed ∧
      (∀ e, v.segmentsOf e = s.segmentsOf e) ∧ v.watchOf sp.extent = (s.examineRoute q).watchOf sp.extent ∧
      State.AbsorbedBeside sp other n v o ∧ State.Recorded q o.1 o.2 t := by
  obtain ⟨t, hexec, hqe, hrec⟩ := exec_write hv hq ht hp ho
  have hkind : q.kind = .write := by rw [hqe]
  have hwatched := State.watchOf_examineRoute_popFifo hkind s sp.extent
  have hun := State.examineRoute_unweighed q (s.popFifo .front)
  have hheat := State.examineRoute_reheats q (s.popFifo .front)
  have hpair := routeSpans_pair hsp hother hne
  have hext : sp.extent ≠ other.extent := by
    have hnodup := routeSpans_nodup lba count
    rcases hpair with e | e <;> rw [e] at hnodup <;> simp at hnodup
    · exact hnodup
    · exact fun k => hnodup k.symm
  generalize (s.popFifo .front).examineRoute q = v at *
  have hrv : v.residentOf sp.extent = none := hheat.absent _ hr
  have hov : v.residentOf other.extent ≠ none := fun k => hro ((hheat.isSome _).1 k)
  have hupv : v.spindle ≠ .up := by rw [State.unweighed_spindle hun]; exact hup
  have hbyv : v.policyOf sp.extent ≠ .bypass := by rw [State.unweighed_policyOf hun]; exact hby
  have hout : v.handOut = some n :=
    (State.handOut_congr (State.unweighed_free hun) (State.unweighed_flashOwed hun)).trans hn
  refine ⟨t, v, _, hexec, hun, hheat.segmentsOf, hwatched, ?_, hrec⟩
  rcases hpair with e | e <;> rw [e]
  · exact State.decideSpans_absorb_resident hext hrv hov hf hupv hbyv hout
  · exact State.decideSpans_resident_absorb hext hrv hov hf hupv hbyv hout

/-- A WRITE of two extents that are not resident, on the examined state. -/
theorem exec_write_absents {a b : Span} (htwo : routeSpans lba count = [a, b]) (hra : s.residentOf a.extent = none)
    (hrb : s.residentOf b.extent = none) :
    ∃ t v, exec (.route tag 1 lba count) s = .next t ∧ s.Leads v ∧
      (∀ e, v.watchOf e = (s.examineRoute q).watchOf e) ∧ b.extent ≠ a.extent ∧
      State.Recorded q (v.decideSpans .write [a.extent, b.extent] [a, b]).1
        (v.decideSpans .write [a.extent, b.extent] [a, b]).2 t := by
  obtain ⟨t, hexec, hqe, hrec⟩ := exec_write hv hq ht hp ho
  have hkind : q.kind = .write := by rw [hqe]
  have hheat := State.examineRoute_heatless hkind (s := s.popFifo .front) fun sp hsp => by
    rw [show routeSpans q.lba q.count = [a, b] by rw [hqe]; exact htwo] at hsp
    rcases List.mem_pair.1 hsp with rfl | rfl
    · exact hra
    · exact hrb
  have hnodup := routeSpans_nodup lba count
  rw [htwo] at hrec hnodup
  exact ⟨t, _, hexec, .of_heatless hheat, State.watchOf_examineRoute_popFifo hkind s,
    fun k => (List.nodup_cons.1 hnodup).1 (by simp [k]), hrec⟩

/-- A WRITE of two extents, both absorbed into free slots (R57, R58). -/
theorem exec_absorbs {a b : Span} {m n : Nat} {rest : List Nat} (htwo : routeSpans lba count = [a, b])
    (hra : s.residentOf a.extent = none) (hrb : s.residentOf b.extent = none) (hfa : a.full ≠ 0#32) (hfb : b.full ≠ 0#32)
    (hup : s.spindle ≠ .up) (hba : s.policyOf a.extent ≠ .bypass) (hbb : s.policyOf b.extent ≠ .bypass)
    (hfree : s.free.filter (fun k => !s.retireOwed k) = m :: n :: rest) (hmn : m ≠ n) :
    ∃ t v, exec (.route tag 1 lba count) s = .next t ∧ s.Leads v ∧
      (∀ e, v.watchOf e = (s.examineRoute q).watchOf e) ∧ b.extent ≠ a.extent ∧
      State.Recorded q [a.absorbDecision m, b.absorbDecision n]
        ((((v.takeSlot m).absorbInto a m).takeSlot n).absorbInto b n) t := by
  obtain ⟨t, v, hexec, hlead, hwatched, hext, hrec⟩ := exec_write_absents hv hq ht hp ho htwo hra hrb
  have howed (k : Nat) : v.retireOwed k = s.retireOwed k := by simp only [State.retireOwed, hlead.flashOwed]
  rw [State.decideSpans_absorbs (rest := rest) hext ((hlead.residentOf _).trans hra) ((hlead.residentOf _).trans hrb) hfa hfb
    (by rw [hlead.spindle]; exact hup) (by rw [hlead.policyOf]; exact hba) (by rw [hlead.policyOf]; exact hbb)
    (by simp only [howed, hlead.free]; exact hfree) hmn] at hrec
  exact ⟨t, v, hexec, hlead, hwatched, hext, hrec⟩

/-- A WRITE whose one extent is absorbed into the slot of a victim (R58, R97, R98). -/
theorem exec_absorb_victim {v : State} {sp : Span} {x : Resident} (hone : routeSpans lba count = [sp])
    (hr : s.residentOf sp.extent = none) (hf : sp.full ≠ 0#32) (ha : s.absorbApplies sp.extent = true)
    (hn : s.handOut = none) (hvict : (s.examineRoute q).victim [sp.extent] (some .b3) = (some x.extent, v))
    (hx : v.residentOf x.extent = some x) (hl : s.watch.length + 2 ≤ 4096) (hw : s.watchOf x.extent = none) :
    ∃ t p v' u, exec (.route tag 1 lba count) s = .next t ∧ s.Leads p ∧ v'.promo = v.promo ∧ x.extent ≠ sp.extent ∧
      p.watch.length < 4096 ∧ p.watchOf x.extent = none ∧ State.Evicted x p v' u ∧
      State.Recorded q [sp.absorbDecision x.slot] (u.absorbInto sp x.slot) t := by
  obtain ⟨t, hexec, hqe, hheat, hrec⟩ := exec_write_absent hv hq ht hp ho hone hr
  have hkind : q.kind = .write := by rw [hqe]
  have hvict' : ((s.popFifo .front).examineRoute q).victim [sp.extent] (some .b3) =
      (some x.extent, v.withFront { s.front with fifo := s.front.fifo.tail }) := by
    rw [State.popFifo_front_eq, State.examineRoute_withFront hkind, State.victim_withFront, hvict]
  have hne : x.extent ≠ sp.extent := fun k =>
    State.PassesBy.ne_of_not_skipped (by simp) (State.victim_some hvict').2 k.symm
  obtain ⟨hlength, hunwatched⟩ := State.weighExtent_watch_absent
    (s := ((s.popFifo .front).classify q.lba q.count).2) (State.writeWeight q (s.popFifo .front)) hr
  rw [← State.examineRoute_write_one hkind (by rw [hqe]; exact hone)] at hlength hunwatched
  have hlength' : ((s.popFifo .front).examineRoute q).watch.length ≤ s.watch.length + 1 := hlength
  have hlead := State.Leads.of_heatless hheat
  rw [State.writeAbsent_taken hf ((hlead.applies _).trans ha)
    (State.absorbSlot_of_victim (hlead.handOut.trans hn) hvict' hx)] at hrec
  exact ⟨t, _, v.withFront { s.front with fifo := s.front.fifo.tail }, _, hexec, hlead, rfl, hne, by omega,
    hunwatched x.extent hne hw, State.victim_evicted hvict' hx, hrec⟩

/-- A WRITE whose one extent finds no slot (R59). -/
theorem exec_absorb_failed {sp : Span} (hone : routeSpans lba count = [sp]) (hr : s.residentOf sp.extent = none)
    (hf : sp.full ≠ 0#32) (ha : s.absorbApplies sp.extent = true) (hn : s.handOut = none) (hno : s.NoVictim) :
    ∃ t p, exec (.route tag 1 lba count) s = .next t ∧ s.Leads p ∧ State.Recorded q [sp.allDisk true] p t := by
  obtain ⟨t, hexec, -, hheat, hrec⟩ := exec_write_absent hv hq ht hp ho hone hr
  have hlead := State.Leads.of_heatless hheat
  rw [State.writeAbsent_no_victim ((hlead.applies _).trans ha) (hlead.handOut.trans hn) (hlead.noVictim hno),
    decide_eq_true hf] at hrec
  exact ⟨t, _, hexec, hlead, hrec⟩

/-- A WRITE whose two extents find no slot: every segment goes to DISK (R57, R59). -/
theorem exec_absorbs_failed {a b : Span} (htwo : routeSpans lba count = [a, b]) (hra : s.residentOf a.extent = none)
    (hrb : s.residentOf b.extent = none) (hup : s.spindle ≠ .up) (hba : s.policyOf a.extent ≠ .bypass)
    (hbb : s.policyOf b.extent ≠ .bypass) (hn : s.handOut = none) (hno : s.NoVictim) :
    ∃ t p, exec (.route tag 1 lba count) s = .next t ∧ s.Leads p ∧
      State.Recorded q [a.allDisk (decide (a.full ≠ 0#32)), b.allDisk (decide (b.full ≠ 0#32))] p t := by
  obtain ⟨t, p, hexec, hlead, -, -, hrec⟩ := exec_write_absents hv hq ht hp ho htwo hra hrb
  have happ (sp : Span) (hby : s.policyOf sp.extent ≠ .bypass) : p.absorbApplies sp.extent = true :=
    (hlead.applies _).trans ((s.absorbApplies_iff sp.extent).2 (.inl ⟨hup, hby⟩))
  have hout := hlead.handOut.trans hn
  have hdec : p.decideSpans .write [a.extent, b.extent] [a, b] =
      ([a.allDisk (decide (a.full ≠ 0#32)), b.allDisk (decide (b.full ≠ 0#32))], p) := by
    simp only [State.decideSpans, State.decideSpan_write_absent _ ((hlead.residentOf a.extent).trans hra),
      State.decideSpan_write_absent _ ((hlead.residentOf b.extent).trans hrb),
      State.writeAbsent_no_victim (happ a hba) hout (hlead.noVictim hno),
      State.writeAbsent_no_victim (happ b hbb) hout (hlead.noVictim hno)]
  rw [hdec] at hrec
  exact ⟨t, p, hexec, hlead, hrec⟩

end

end Sys2Proof.Machine

open Sys2Proof.Machine in
/-- Settles O16: the examination of the extents changes neither the map nor the pool; an absorb takes the slot handed out,
or the victim's, and enters its record in the state that is then left. -/
theorem anAbsorbTakesTheLowestFreeSlotOrForcesAWake : Obligations.AnAbsorbTakesTheLowestFreeSlotOrForcesAWake := by
  unfold Obligations.AnAbsorbTakesTheLowestFreeSlotOrForcesAWake
  intro applies absorbed noVictim
  have happlies {s : State} {e : Nat} (h : applies s e) : s.absorbApplies e = true := (s.absorbApplies_iff e).2 h
  refine ⟨fun s tag lba count n q sp ws hv hq ht hp ho hone hr hf ha hn => ?_,
    ⟨fun s tag lba count n q sp other ws hv hq ht hp ho hsp hother hne hr hro hf hup hby hn => ?_,
      fun s tag lba count m n rest q a b ws hv hq ht hp ho htwo hra hrb hfa hfb hup hba hbb hfree hmn => ?_⟩,
    fun s v tag lba count e q sp x ws hv hq ht hp ho hone hr hf ha hn hvict hx hl hw => ?_,
    fun s tag lba count q sp ws hv hq ht hp ho hone hr hf ha hn hno => ?_,
    fun s tag lba count q a b ws hv hq ht hp ho htwo hra hrb hf hup hba hbb hn hno => ?_⟩
  all_goals
    obtain ⟨kind, hwrite, hqe, hcount, hcount'⟩ := validRoute_eq hq
    obtain rfl : RouteKind.write = kind := Option.some.inj hwrite
  · intro base weight
    obtain ⟨t, v, hexec, hlead, hwarm, hcold, hrec⟩ := exec_absorb_free hv hq ht hp ho hone hr hf (happlies ha) hn
    have hweight : extentWeight (s.policyOf sp.extent) (s.writeWeight q) = weight := by
      rw [extentWeight_eq, hqe]
      rfl
    rw [hweight] at hwarm hcold
    have hw := State.absorbInto_unweighed sp n (v.takeSlot n)
    have hres := State.residentOf_absorbInto_same (s := v.takeSlot n) n ((hlead.residentOf _).trans hr)
    have hdirty := State.dirtyList_absorbInto n (v.takeSlot n) hf
    have hwatch := State.watchOf_absorbInto_same sp n (v.takeSlot n)
    have hothers (e : Nat) (he : e ≠ sp.extent) := State.residentOf_absorbInto_of_ne sp n (v.takeSlot n) he
    generalize (v.takeSlot n).absorbInto sp n = w at *
    have hfront := hrec.front
    have hwake : w.forcedWake [sp.absorbDecision n] = false := State.forcedWake_of_none (by simp [Span.absorbDecision]) w
    rw [hwake, (State.unweighed_front hw).trans hlead.front, hqe] at hfront
    refine ⟨t, _, hexec, hrec.residentOf_unmarked hres rfl, rfl, rfl, rfl, rfl, rfl, ?_, hlead.policyOf _, rfl, rfl, rfl, rfl,
      hwarm, fun hx => (hcold hx).trans ?_,
      hrec.free.trans ((State.unweighed_free hw).trans (congrArg (without n) hlead.free)),
      (State.watchOf_congr hrec.watch _).trans hwatch, ?_, fun e he => ?_,
      hrec.contexts.trans ((State.unweighed_contexts hw).trans hlead.contexts),
      hrec.fences.trans ((State.unweighed_fences hw).trans hlead.fences), hfront,
      hrec.routes.trans (congrArg (insertBy _ _) ((State.unweighed_routes hw).trans hlead.routes)),
      hrec.flashOwed.trans ((State.unweighed_flashOwed hw).trans hlead.flashOwed),
      hrec.evictions.trans (congrArg Stats.evictions ((State.unweighed_stats hw).trans hlead.stats)), ?_⟩
    · show (v.policyOf sp.extent == .pin && v.pinRoom) = _
      rw [hlead.policyOf, hlead.pinRoom]
      rfl
    · unfold State.newHeat Heat.gain
      rw [Nat.zero_add]
      rfl
    · rw [hrec.dirtyList, hdirty, ← hlead.dirtyList]
      rfl
    · exact (hrec.segmentsOf e).trans (State.segmentsOf_eq_of_resident ((hothers e he).trans (hlead.residentOf e)))
    · exact hrec.absorbed.trans (congrArg (fun c : Stats => min (c.absorbed + (segCount sp.full + 0)) 4294967295)
        ((State.unweighed_stats hw).trans hlead.stats))
  · obtain ⟨t, v, o, hexec, hun, hseg, hwatched, hbeside, hrec⟩ :=
      exec_absorb_beside hv hq ht hp ho hsp hother hne hr hro hf hup hby hn
    obtain ⟨u, hinherit, hres⟩ := hbeside.resident
    have hstats : v.stats = s.stats := (State.unweighed_stats hun :)
    refine ⟨t, _, hexec, hrec.residentOf_unmarked hres rfl, rfl, rfl, rfl, rfl, rfl, fun x hx => ?_, ?_,
      (State.watchOf_congr hrec.watch _).trans hbeside.watch,
      fun e he he' => (hrec.segmentsOf e).trans ((hbeside.segments e he he').trans (hseg e)),
      hrec.evictions.trans (congrArg Stats.evictions (hbeside.stats.trans hstats)), ?_⟩
    · exact hinherit.trans (State.inheritedHeat_of_watched (hwatched.trans hx))
    · exact hrec.free.trans (hbeside.free.trans (congrArg (without n) (State.unweighed_free hun :)))
    · rw [hrec.absorbed, hbeside.count, hbeside.stats, hstats]
  · obtain ⟨t, v, hexec, hlead, hwatched, hext, hrec⟩ :=
      exec_absorbs hv hq ht hp ho htwo hra hrb hfa hfb hup hba hbb hfree hmn
    have hw1 := State.absorbInto_unweighed a m (v.takeSlot m)
    have hres1 := State.residentOf_absorbInto_same (s := v.takeSlot m) m ((hlead.residentOf a.extent).trans hra)
    have hothers1 (e : Nat) (he : e ≠ a.extent) := State.residentOf_absorbInto_of_ne a m (v.takeSlot m) he
    have hwatch1 := State.watchOf_absorbInto_of_ne a m (v.takeSlot m) hext
    have hdirty1 := State.dirtyList_absorbInto m (v.takeSlot m) hfa
    generalize (v.takeSlot m).absorbInto a m = u at *
    have hw := State.takeSlot_absorbInto_unweighed b n hw1
    have hres2 := State.residentOf_absorbInto_same (s := u.takeSlot n) n
      ((hothers1 _ hext).trans ((hlead.residentOf b.extent).trans hrb))
    have hothers2 (e : Nat) (he : e ≠ b.extent) := State.residentOf_absorbInto_of_ne b n (u.takeSlot n) he
    have hdirty2 := State.dirtyList_absorbInto n (u.takeSlot n) hfb
    generalize (u.takeSlot n).absorbInto b n = w at *
    have hwake : w.forcedWake [a.absorbDecision m, b.absorbDecision n] = false :=
      State.forcedWake_of_none (by simp [Span.absorbDecision]) w
    have hfront := hrec.front
    rw [hwake, (State.unweighed_front hw).trans hlead.front, hqe] at hfront
    refine ⟨t, _, _, hexec, hrec.residentOf_unmarked ((hothers2 _ hext.symm).trans hres1) rfl,
      hrec.residentOf_unmarked hres2 rfl, rfl, rfl, rfl, rfl, rfl, rfl, fun x hx => ?_, fun x hx => ?_,
      hrec.free.trans ((State.unweighed_free hw).trans (congrArg (fun l => without n (without m l)) hlead.free)),
      fun ha hb => ?_, fun e hea heb => ?_, hfront,
      hrec.routes.trans (congrArg (insertBy _ _) ((State.unweighed_routes hw).trans hlead.routes)), ?_⟩
    · exact State.inheritedHeat_of_watched (s := v.takeSlot m) ((hwatched a.extent).trans hx)
    · exact State.inheritedHeat_of_watched (s := u.takeSlot n) (hwatch1.trans ((hwatched b.extent).trans hx))
    · have hu : u.dirtyList = s.dirtyList ++ [a.extent] :=
        hdirty1.trans (by rw [show (v.takeSlot m).dirtyList = s.dirtyList from hlead.dirtyList, if_neg ha])
      have hnot : b.extent ∉ s.dirtyList ++ [a.extent] := by simp [hb, hext]
      rw [hrec.dirtyList, hdirty2, show (u.takeSlot n).dirtyList = _ from hu, if_neg hnot, List.append_assoc]
      rfl
    · exact (hrec.segmentsOf e).trans (State.segmentsOf_eq_of_resident
        ((hothers2 e heb).trans ((hothers1 e hea).trans (hlead.residentOf e))))
    · exact hrec.absorbed.trans (congrArg
        (fun c : Stats => min (c.absorbed + (segCount a.full + (segCount b.full + 0))) 4294967295)
        ((State.unweighed_stats hw).trans hlead.stats))
  · obtain rfl : x.extent = e := State.residentOf_extent hx
    obtain ⟨t, p, v', u, hexec, hlead, hpromov, hne, hfull, hwp, hev, hrec⟩ :=
      exec_absorb_victim hv hq ht hp ho hone hr hf (happlies ha) hn hvict hx hl hw
    have hroom := State.flashRoom_of_offered ho
    have hur : u.residentOf sp.extent = none := State.segmentsOf_eq_none.1
      ((hev.others _ hne.symm).trans ((hlead.segmentsOf _).trans (State.segmentsOf_eq_none.2 hr)))
    have hw := State.absorbInto_unweighed sp x.slot u
    have hres := State.residentOf_absorbInto_same x.slot hur
    have hothers (e : Nat) (he : e ≠ sp.extent) := State.residentOf_absorbInto_of_ne sp x.slot u he
    have htouch := State.touch_absorbInto sp x.slot u
    have hpromo := State.mem_promo_absorbInto sp x.slot u hne
    have hwatch := State.watchOf_absorbInto_of_ne sp x.slot u hne
    have hclean := State.clean_absorbInto x.slot u hf
    generalize u.absorbInto sp x.slot = w at *
    have hwake : w.forcedWake [sp.absorbDecision x.slot] = false :=
      State.forcedWake_of_none (by simp [Span.absorbDecision]) w
    have hfront := hrec.front
    have hflash := hrec.flash
    rw [hwake, State.unweighed_front hw, hev.front, hlead.front, hqe] at hfront
    rw [State.unweighed_flash hw] at hflash
    have hplaced := hev.placed
    have howed := hev.owed
    rw [hlead.flashOwed, hlead.flash] at hplaced
    rw [hlead.flashOwed] at howed
    refine ⟨t, _, hexec, hrec.residentOf_unmarked hres rfl, rfl, rfl, rfl, rfl, rfl, ?_, fun y hy hye => ?_,
      hrec.free.trans ((State.unweighed_free hw).trans (hev.free.trans hlead.free)),
      hrec.fences.trans ((State.unweighed_fences hw).trans (hev.fences.trans hlead.fences)),
      hrec.contexts.trans ((State.unweighed_contexts hw).trans (hev.contexts.trans hlead.contexts)),
      fun k => ?_, fun k => hrec.flashOwed.trans ((State.unweighed_flashOwed hw).trans (howed k)), fun k => ?_, fun k => ?_,
      fun b => ?_, hfront, hrec.routes.trans (congrArg (insertBy _ _)
        ((State.unweighed_routes hw).trans (hev.routes.trans hlead.routes))), ?_, ?_⟩
    · exact (hrec.segmentsOf _).trans (State.segmentsOf_eq_none.2 ((hothers _ hne).trans hev.gone))
    · exact (hrec.segmentsOf y).trans ((State.segmentsOf_eq_of_resident (hothers y hy)).trans
        ((hev.others y hye).trans (hlead.segmentsOf y)))
    · obtain ⟨h1, h2⟩ := hplaced (by omega) k
      rw [h1] at hflash
      exact ⟨hrec.flashOwed.trans ((State.unweighed_flashOwed hw).trans h2), hflash⟩
    · obtain ⟨h1, h2, y, hy, hyh⟩ := hev.warm k hfull hwp
      refine ⟨?_, ?_, y, (State.watchOf_congr hrec.watch _).trans (hwatch.trans hy), hyh⟩
      · rw [hrec.touch, htouch, h2]
        simp [without, hne]
      · rw [hrec.promo, hpromo, h1, hpromov]
    · obtain ⟨h1, h2⟩ := hev.cold k hwp
      exact ⟨(State.watchOf_congr hrec.watch _).trans (hwatch.trans h1), by rw [hrec.promo, hpromo]; exact h2⟩
    · rw [hrec.clean, hclean, mem_without]
      exact fun k => hev.clean b k.1
    · rw [hrec.evictions, State.unweighed_stats hw, hev.evictions, hlead.stats]
    · rw [hrec.absorbed, State.unweighed_stats hw, hev.absorbed, hlead.stats]
      rfl
  · obtain ⟨t, p, hexec, hlead, hrec⟩ := exec_absorb_failed hv hq ht hp ho hone hr hf (happlies ha) hn hno
    have hwake : p.forcedWake [sp.allDisk true] = (s.spindle != .up) := by
      rw [State.forcedWake_one, hlead.spindle]
      exact Bool.and_true _
    have hfront := hrec.front
    rw [hwake, hlead.front, hqe] at hfront
    refine ⟨t, hexec, hfront, fun e => (hrec.segmentsOf e).trans (hlead.segmentsOf e), hrec.free.trans hlead.free,
      hrec.routes.trans (congrArg (insertBy _ _) hlead.routes), ?_⟩
    rw [hrec.forcedWakes, hwake, hlead.stats]
    cases s.spindle <;> rfl
  · obtain ⟨t, p, hexec, hlead, hrec⟩ := exec_absorbs_failed hv hq ht hp ho htwo hra hrb hup hba hbb hn hno
    have hpieces := answerPieces_all_disk
      (ds := [a.allDisk (decide (a.full ≠ 0#32)), b.allDisk (decide (b.full ≠ 0#32))]) hcount hcount' htwo.symm
      (by simp [Span.allDisk])
    have hwake : p.forcedWake [a.allDisk (decide (a.full ≠ 0#32)), b.allDisk (decide (b.full ≠ 0#32))] = true := by
      unfold State.forcedWake
      rw [hlead.spindle, Bool.and_eq_true]
      refine ⟨by simpa using hup, ?_⟩
      simpa [Span.allDisk] using hf
    have hfront := hrec.front
    rw [hwake, hlead.front, hqe] at hfront
    refine ⟨t, hexec, ?_, fun e => (hrec.segmentsOf e).trans (hlead.segmentsOf e), hrec.free.trans hlead.free, ?_⟩
    · rw [← hpieces]
      exact hfront
    · rw [hrec.forcedWakes, hwake, hlead.stats, if_pos rfl]
end

section
/-! PROOFS. CLAIM and RELEASE: which entry an extent has, what its port finds there, and the hand-over. -/

namespace Sys2Proof.Machine

/-! ### The entry of an extent -/

/-- The lowest entry number that passes a test. -/
theorem find?_allClaims {p : Fin 8 → Bool} {i : Fin 8} (hi : p i = true) (hj : ∀ j, j < i → p j = false) :
    allClaims.find? p = some i := by
  have h0 := hj 0
  have h1 := hj 1
  have h2 := hj 2
  have h3 := hj 3
  have h4 := hj 4
  have h5 := hj 5
  have h6 := hj 6
  unfold allClaims
  fin_cases i <;> simp_all

theorem mem_allClaims (i : Fin 8) : i ∈ allClaims := by
  revert i
  decide

/-- An extent's entry is the lowest that names it (R77). -/
theorem State.claimIndex_of {s : State} {e : Nat} {i : Fin 8} {c : ClaimEntry} (h : s.claims[i] = some c)
    (he : c.extent = e) (hj : ∀ (j : Fin 8) d, j < i → s.claims[j] = some d → d.extent ≠ e) :
    s.claimIndex e = some i := by
  refine find?_allClaims (by simp [h, he]) fun j hji => ?_
  cases hd : s.claims[j] with
  | none => simp
  | some d => simpa using hj j d hji hd

theorem State.claimIndex_eq_none {s : State} {e : Nat} :
    s.claimIndex e = none ↔ ∀ (j : Fin 8) d, s.claims[j] = some d → d.extent ≠ e := by
  unfold State.claimIndex
  rw [List.find?_eq_none]
  simp only [beq_iff_eq, Option.map_eq_some_iff, not_exists, not_and]
  exact ⟨fun h j => h j (mem_allClaims j), fun h j _ => h j⟩

/-- What an extent's entry is where it has one. -/
theorem State.claimIndex_some {s : State} {e : Nat} {i : Fin 8} (h : s.claimIndex e = some i) :
    ∃ c, s.claims[i] = some c ∧ c.extent = e := by
  have := List.find?_some h
  simpa [Option.map_eq_some_iff] using this

/-- The free entry handed out is the lowest (R79). -/
theorem State.freeClaim_of {s : State} {i : Fin 8} (h : s.claims[i] = none)
    (hj : ∀ j : Fin 8, j < i → s.claims[j] ≠ none) : s.freeClaim = some i := by
  refine find?_allClaims (by simp [h]) fun j hji => ?_
  simpa using Option.ne_none_iff_isSome.1 (hj j hji)

theorem State.freeClaim_of_full {s : State} (h : ∀ j : Fin 8, s.claims[j] ≠ none) : s.freeClaim = none :=
  List.find?_eq_none.2 fun j _ => by simpa using h j

theorem ClaimEntry.names_iff (c : ClaimEntry) (p : Port) : c.names p = true ↔ c.standing.port = p ∨ p ∈ c.waiters := by
  simp [ClaimEntry.names]

theorem State.quiescent_iff (s : State) (p : Port) (e : Nat) :
    s.quiescent p e = true ↔ s.inMove e = false ∧ (p = .front ∨ s.held e = false) := by
  simp [State.quiescent]

/-! ### What a port finds -/

theorem State.claimFor_free {s : State} {e : Nat} {i : Fin 8} (p : Port) (h : s.claimIndex e = none)
    (hi : s.freeClaim = some i) :
    s.claimFor p e =
      if s.quiescent p e then (.ok, s.setClaim i (some { extent := e, standing := .owned p false, waiters := [] }))
      else (.waiting, s.setClaim i (some { extent := e, standing := .pending p, waiters := [] })) := by
  simp only [State.claimFor, h, hi]

theorem State.claimFor_full {s : State} {e : Nat} (p : Port) (h : s.claimIndex e = none) (hi : s.freeClaim = none) :
    s.claimFor p e = (.tableFull, s) := by
  simp only [State.claimFor, h, hi]

theorem State.claimFor_entry {s : State} {e : Nat} {i : Fin 8} {c : ClaimEntry} (p : Port)
    (h : s.claimIndex e = some i) (hc : s.claims[i] = some c) :
    s.claimFor p e =
      if c.names p then (.alreadyOwner, s)
      else (.waiting, s.setClaim i (some { c with waiters := c.waiters ++ [p] })) := by
  simp only [State.claimFor, h, hc]

theorem State.releaseFor_unnamed {s : State} {p : Port} {e : Nat}
    (h : ∀ (j : Fin 8) d, s.claims[j] = some d → d.extent = e → d.standing.port ≠ p ∧ p ∉ d.waiters) :
    s.releaseFor p e = (.notOwner, s) := by
  unfold State.releaseFor
  cases hi : s.claimIndex e with
  | none => rfl
  | some i =>
    obtain ⟨c, hc, he⟩ := State.claimIndex_some hi
    have hn : c.names p = false := by
      rw [Bool.eq_false_iff, ne_eq, ClaimEntry.names_iff, not_or]
      exact h i c hc he
    simp only [hc, hn]
    rfl

theorem State.releaseFor_entry {s : State} {p : Port} {e : Nat} {i : Fin 8} {c : ClaimEntry}
    (h : s.claimIndex e = some i) (hc : s.claims[i] = some c) (hn : c.standing.port = p ∨ p ∈ c.waiters) :
    s.releaseFor p e = (.ok, s.setClaim i (c.leave p)) := by
  simp only [State.releaseFor, h, hc, (c.names_iff p).2 hn, if_true]

/-! ### The taking of a CLAIM and of a RELEASE -/

theorem State.popFifo_claimIndex (p : Port) (s : State) (e : Nat) : (s.popFifo p).claimIndex e = s.claimIndex e := by
  cases p <;> rfl

theorem State.popFifo_quiescent (p q : Port) (s : State) (e : Nat) :
    (s.popFifo p).quiescent q e = s.quiescent q e := by
  cases p <;> rfl

theorem State.popFifo_serving {p : Port} {s : State} (h : s.service = .serving) : (s.popFifo p).isServing = true := by
  cases p <;> simp [State.isServing, State.popFifo, State.setLink, h]

theorem exec_claim {s u : State} {p : Port} {e : Nat} {ws : List Word} {code : Code} (hv : s.service = .serving)
    (he : e ≤ 16777215) (ho : s.offered p (.claim p e) = some ws)
    (h : (s.popFifo p).claimFor p e = (code, u)) :
    exec (.claim p e) s = .next ((u.place p (.answer 0x03 code ws.tail)).advance p) := by
  have hm : ¬ Config.maxExtent < e := Nat.not_lt.2 he
  refine (takeRequest_offered _ ho).trans ?_
  simp only [State.takeClaim, State.popFifo_serving hv, Bool.not_true, Bool.false_eq_true, if_false, if_neg hm, h,
    State.answer, List.append_nil]

theorem exec_release {s u : State} {p : Port} {e : Nat} {ws : List Word} {code : Code} (hv : s.service = .serving)
    (he : e ≤ 16777215) (ho : s.offered p (.release p e) = some ws)
    (h : (s.popFifo p).releaseFor p e = (code, u)) :
    exec (.release p e) s =
      .next ((if code = .ok then (u.place p (.answer 0x04 code ws.tail)).grantNext e
        else u.place p (.answer 0x04 code ws.tail)).advance p) := by
  have hm : ¬ Config.maxExtent < e := Nat.not_lt.2 he
  refine (takeRequest_offered _ ho).trans ?_
  simp only [State.takeRelease, State.popFifo_serving hv, Bool.not_true, Bool.false_eq_true, if_false, if_neg hm, h,
    State.answer, List.append_nil]

/-- The state after a request that replaces a Claim Table entry and is answered. -/
theorem State.answered_setClaim {s : State} {p : Port} (i : Fin 8) (x : Option ClaimEntry) (r : Outbound)
    (h : s.hasRoom p 1 = true) :
    (((s.popFifo p).setClaim i x).place p r).advance p = { s.answered p r with claims := s.claims.set i x } := by
  have h' : ((s.popFifo p).setClaim i x).hasRoom p 1 = true := by
    simpa [State.hasRoom, State.link_setClaim] using (State.hasRoom_popFifo p p 1 s).trans h
  rw [State.place_of_room r h']
  cases p <;> rfl

/-- The same before the pointer moves, which an entry's grant does not look at. -/
theorem State.answered_setClaim' {s : State} {p : Port} (i : Fin 8) (x : Option ClaimEntry) (r : Outbound)
    (h : s.hasRoom p 1 = true) :
    ((s.popFifo p).setClaim i x).place p r =
      { s.answered p r with claims := s.claims.set i x, pointer := s.pointer } := by
  have h' : ((s.popFifo p).setClaim i x).hasRoom p 1 = true := by
    simpa [State.hasRoom, State.link_setClaim] using (State.hasRoom_popFifo p p 1 s).trans h
  rw [State.place_of_room r h']
  cases p <;> rfl

end Sys2Proof.Machine

open Sys2Proof.Machine in
/-- Settles O22: the entry of the extent, or the lowest free one, and the port's place in it. -/
theorem aClaimTakesAFreeEntryOrJoinsTheWaiters : Obligations.AClaimTakesAFreeEntryOrJoinsTheWaiters := by
  refine ⟨⟨State.quiescent_iff, ?_, ?_⟩, ?_⟩
  · intro s p e i ws hv he ho hnone hi hj
    have hfor := State.claimFor_free (s := s.popFifo p) p
      ((State.popFifo_claimIndex p s e).trans (State.claimIndex_eq_none.2 hnone))
      (State.freeClaim_of (i := i) (by rw [State.popFifo_claims]; exact hi) (by rw [State.popFifo_claims]; exact hj))
    rw [State.popFifo_quiescent] at hfor
    have hroom := State.hasRoom_of_offered ho
    refine ⟨fun hq => ?_, fun hq => ?_⟩
    · rw [if_pos hq] at hfor
      rw [exec_claim hv he ho hfor, State.answered_setClaim _ _ _ hroom]
    · rw [if_neg (by simp [hq])] at hfor
      rw [exec_claim hv he ho hfor, State.answered_setClaim _ _ _ hroom]
  · intro s p e ws hv he ho hfull
    have hnone : s.claimIndex e = none := State.claimIndex_eq_none.2 fun j d hd => by
      obtain ⟨d', hd', hne⟩ := hfull j
      rw [hd] at hd'
      cases hd'
      exact hne
    have hfree : (s.popFifo p).freeClaim = none := State.freeClaim_of_full fun j k => by
      obtain ⟨d, hd, -⟩ := hfull j
      rw [State.popFifo_claims, hd] at k
      cases k
    rw [exec_claim hv he ho (State.claimFor_full p ((State.popFifo_claimIndex p s e).trans hnone) hfree),
      State.answered_eq _ (State.hasRoom_of_offered ho)]
  · intro s p e i c ws hv he ho hc hce hj
    have hfor := State.claimFor_entry (s := s.popFifo p) p
      ((State.popFifo_claimIndex p s e).trans (State.claimIndex_of hc hce hj)) (by rw [State.popFifo_claims]; exact hc)
    refine ⟨fun hn => ?_, fun hne hw => ?_⟩
    · rw [if_pos ((c.names_iff p).2 hn)] at hfor
      rw [exec_claim hv he ho hfor, State.answered_eq _ (State.hasRoom_of_offered ho)]
    · rw [if_neg (by rw [ClaimEntry.names_iff]; exact not_or.2 ⟨hne, hw⟩)] at hfor
      rw [exec_claim hv he ho hfor, State.answered_setClaim _ _ _ (State.hasRoom_of_offered ho)]

namespace Sys2Proof.Machine

/-! ### The hand-over -/

/-- A RELEASE by a port in the extent's only entry: the port leaves it, and what then stands in it is granted where it
can be (R82, R83). -/
theorem exec_release_entry {s : State} {p : Port} {e : Nat} {i : Fin 8} {c : ClaimEntry} {ws : List Word}
    (hv : s.service = .serving) (he : e ≤ 16777215) (ho : s.offered p (.release p e) = some ws)
    (hc : s.claims[i] = some c) (hce : c.extent = e)
    (hj : ∀ (j : Fin 8) d, j ≠ i → s.claims[j] = some d → d.extent ≠ e)
    (hn : c.standing.port = p ∨ p ∈ c.waiters) :
    exec (.release p e) s =
      .next ((State.grantNext e
        { s.answered p (.answer 0x04 .ok ws.tail) with claims := s.claims.set i (c.leave p), pointer := s.pointer }).advance
          p) := by
  have hindex : (s.popFifo p).claimIndex e = some i :=
    (State.popFifo_claimIndex p s e).trans (State.claimIndex_of hc hce fun j d hji => hj j d (ne_of_lt hji))
  rw [exec_release hv he ho (State.releaseFor_entry hindex (by rw [State.popFifo_claims]; exact hc) hn), if_pos rfl,
    State.answered_setClaim' _ _ _ (State.hasRoom_of_offered ho)]

/-- The entry that stands for the extent after the hand-over is looked at for a grant, and no other. -/
theorem State.grantNext_of {s : State} {e : Nat} {i : Fin 8} {c : ClaimEntry} (h : s.claims[i] = some c)
    (he : c.extent = e) (hj : ∀ (j : Fin 8) d, j ≠ i → s.claims[j] = some d → d.extent ≠ e) :
    s.grantNext e = s.grantEntry i := by
  simp only [State.grantNext, State.claimIndex_of h he fun j d hji => hj j d (ne_of_lt hji)]

theorem State.grantNext_of_none {s : State} {e : Nat} (h : ∀ (j : Fin 8) d, s.claims[j] = some d → d.extent ≠ e) :
    s.grantNext e = s := by
  simp only [State.grantNext, State.claimIndex_eq_none.2 h]

/-- An entry that is owned, or pending for a port that its extent is not quiescent for, is not granted (R81). -/
theorem State.grantEntry_of_not_quiescent {s : State} {i : Fin 8} {c : ClaimEntry} (h : s.claims[i] = some c)
    (hq : ∀ q, c.standing = .pending q → s.quiescent q c.extent = false) : s.grantEntry i = s := by
  cases hs : c.standing with
  | owned q o => simp only [State.grantEntry, h, hs]
  | pending q =>
    simp only [State.grantEntry, h, hs, hq q hs]
    rfl

theorem State.grantEntry_of_pending {s : State} {i : Fin 8} {c : ClaimEntry} {q : Port} (h : s.claims[i] = some c)
    (hs : c.standing = .pending q) :
    s.grantEntry i = if s.quiescent q c.extent then s.grantTo i c q else s := by
  simp only [State.grantEntry, h, hs]

/-- The other entries of a table in which one entry is replaced. -/
theorem others_of_set {v : Vector (Option ClaimEntry) 8} {e : Nat} {i : Fin 8} (x : Option ClaimEntry)
    (h : ∀ (j : Fin 8) d, j ≠ i → v[j] = some d → d.extent ≠ e) (j : Fin 8) (d : ClaimEntry) (hji : j ≠ i)
    (hd : (v.set i x)[j] = some d) : d.extent ≠ e := by
  rw [set_getElem_fin, if_neg hji] at hd
  exact h j d hji hd

theorem State.grantTo_room {s : State} {w : Port} (i : Fin 8) (c : ClaimEntry) (h : (s.link w).out.length < 16) :
    s.grantTo i c w =
      { s.setLink w { s.link w with out := (s.link w).out ++ [.claimGranted c.extent] } with
        claims := s.claims.set i (some { c with standing := .owned w false }) } := by
  have hr := State.hasRoom_of_lt h
  rw [State.grantTo, if_pos hr, State.place_of_room _ hr]
  cases w <;> rfl

theorem State.grantTo_full {s : State} {w : Port} (i : Fin 8) (c : ClaimEntry) (h : 16 ≤ (s.link w).out.length) :
    s.grantTo i c w = { s with claims := s.claims.set i (some { c with standing := .owned w true }) } := by
  rw [State.grantTo, if_neg (by rw [State.not_hasRoom_of_le h]; simp)]
  rfl

/-- A waiter's leaving grants nothing that could not be granted before (R83). -/
theorem exec_release_waiter {s : State} {p : Port} {e : Nat} {i : Fin 8} {c : ClaimEntry} {ws : List Word}
    (hv : s.service = .serving) (he : e ≤ 16777215) (ho : s.offered p (.release p e) = some ws)
    (hc : s.claims[i] = some c) (hce : c.extent = e)
    (hj : ∀ (j : Fin 8) d, j ≠ i → s.claims[j] = some d → d.extent ≠ e) (hne : c.standing.port ≠ p)
    (hw : p ∈ c.waiters) (hpend : ∀ q, c.standing = .pending q → s.quiescent q e = false) :
    exec (.release p e) s =
      .next { s.answered p (.answer 0x04 .ok ws.tail) with
        claims := s.claims.set i (some { c with waiters := c.waiters.filter (fun q => q ≠ p) }) } := by
  rw [exec_release_entry hv he ho hc hce hj (.inr hw), ClaimEntry.leave_of_ne hne]
  have hx := (set_getElem_fin s.claims i i (some { c with waiters := without p c.waiters })).trans (if_pos rfl)
  rw [State.grantNext_of (c := { c with waiters := without p c.waiters }) hx hce (others_of_set _ hj)]
  rw [State.grantEntry_of_not_quiescent (c := { c with waiters := without p c.waiters }) hx fun q hq => ?_]
  · rfl
  · rw [State.quiescent_congr (s := s) (by cases p <;> rfl) (by cases p <;> rfl)]
    exact hce.symm ▸ hpend q hq

end Sys2Proof.Machine

open Sys2Proof.Machine in
/-- Settles O23: the port leaves the entry, and the entry that is passed on is granted as at any event's end. -/
theorem aReleaseFreesTheEntryOrPassesItOn : Obligations.AReleaseFreesTheEntryOrPassesItOn := by
  refine ⟨fun s p e ws hv he ho hn => ?_, fun s p e i c ws hv he ho hc hce hj => ?_⟩
  · have hfor : (s.popFifo p).releaseFor p e = (.notOwner, s.popFifo p) :=
      State.releaseFor_unnamed (by rw [State.popFifo_claims]; exact hn)
    rw [exec_release hv he ho hfor, if_neg (by decide), State.answered_eq _ (State.hasRoom_of_offered ho)]
  intro t
  refine ⟨exec_release_waiter hv he ho hc hce hj, fun hport hw => ?_, fun w rest hport hw => ?_⟩
  · rw [exec_release_entry hv he ho hc hce hj (.inl hport), ClaimEntry.leave_of_last hport hw, State.grantNext_of_none]
    · rfl
    · intro j d hd
      by_cases hji : j = i
      · rw [show _ = _ from set_getElem_fin s.claims i j none, if_pos hji] at hd
        cases hd
      · exact others_of_set _ hj j d hji hd
  · rw [exec_release_entry hv he ho hc hce hj (.inl hport), ClaimEntry.leave_of_waiter hport hw]
    have hx := (set_getElem_fin s.claims i i (some { c with standing := .pending w, waiters := rest })).trans (if_pos rfl)
    rw [State.grantNext_of (c := { c with standing := .pending w, waiters := rest }) hx hce (others_of_set _ hj),
      State.grantEntry_of_pending hx rfl]
    have hquiescent (q : Sys2Proof.Port) := State.quiescent_congr (s := s)
      (t := { s.answered p (.answer 0x04 .ok ws.tail) with
        claims := s.claims.set i (some { c with standing := .pending w, waiters := rest }), pointer := s.pointer })
      (by cases p <;> rfl) (by cases p <;> rfl) q c.extent
    rw [hquiescent]
    subst hce
    refine ⟨fun hq => ?_, fun hq hroom => ?_, fun hq hroom => ?_⟩
    · rw [if_neg (by simp [hq])]
      rfl
    · rw [if_pos hq, State.grantTo_room _ _ (by cases w <;> exact hroom), Vector.set_set]
      cases w <;> rfl
    · rw [if_pos hq, State.grantTo_full _ _ (by cases w <;> exact hroom), Vector.set_set]
      rfl
end

section
/-! PROOFS. Victim choice: the first record offered by the allowed lists, and the pin scan. -/

namespace Sys2Proof.Machine

/-! ### The allowed lists -/

theorem mem_bandsUpTo (ceiling : Option Band) (b : Band) :
    b ∈ bandsUpTo ceiling ↔ ∃ top, ceiling = some top ∧ b.rank ≤ top.rank := by
  cases ceiling with
  | none => simp [bandsUpTo]
  | some top => cases top <;> cases b <;> simp [bandsUpTo, Band.rank]

/-- The allowed lists stand from the coldest up (R96). -/
theorem bandsUpTo_split {b top : Band} (h : b.rank ≤ top.rank) :
    ∃ colder warmer, bandsUpTo (some top) = colder ++ b :: warmer ∧ ∀ c ∈ colder, c.rank < b.rank := by
  refine ⟨(bandsUpTo (some top)).filter (fun c => c.rank < b.rank),
    (bandsUpTo (some top)).filter (fun c => b.rank < c.rank), ?_, fun c hc => by simpa using (List.mem_filter.1 hc).2⟩
  revert h
  cases top <;> cases b <;> decide

theorem State.skipped_iff {s : State} {x : List Nat} {e : Nat} :
    s.skipped x e = true ↔ s.held e = true ∨ s.claimed e = true ∨ e ∈ x := by
  simp [State.skipped, or_assoc]

theorem State.skipped_eq_false {s : State} {x : List Nat} {e : Nat} :
    s.skipped x e = false ↔ s.held e = false ∧ s.claimed e = false ∧ e ∉ x := by
  simp [State.skipped, and_assoc]

/-- Victim choice changes neither holds nor claims. -/
theorem State.victim_skipped (x y : List Nat) (c : Option Band) (s : State) (e : Nat) :
    (s.victim x c).2.skipped y e = s.skipped y e := by
  have hv := State.Becomes.victim (L := {}) x c s
  simp only [State.skipped, State.held, State.claimed, State.claimIndex, hv.claims_eq rfl, hv.routes_eq rfl]

/-! ### The walk -/

/-- The first record offered: the first of its list that is not skipped, with every record of the colder lists
skipped (R96). -/
theorem State.firstOffered_of {s : State} {x : List Nat} {b top : Band} {e : Nat} {before after : List Nat}
    (hb : b.rank ≤ top.rank) (hcold : ∀ c : Band, c.rank < b.rank → ∀ v ∈ s.clean.get c, s.skipped x v = true)
    (hl : s.clean.get b = before ++ e :: after) (hbefore : ∀ v ∈ before, s.skipped x v = true)
    (he : s.skipped x e = false) : s.firstOffered x (bandsUpTo (some top)) = some (b, e) := by
  obtain ⟨colder, warmer, hsplit, hrank⟩ := bandsUpTo_split hb
  have hnone : colder.findSome? (fun c => ((s.clean.get c).find? fun v => !s.skipped x v).map fun v => (c, v)) = none := by
    rw [List.findSome?_eq_none_iff]
    intro c hc
    rw [Option.map_eq_none_iff, List.find?_eq_none]
    intro v hv
    simp [hcold c (hrank c hc) v hv]
  have hfind : (s.clean.get b).find? (fun v => !s.skipped x v) = some e := by
    rw [hl, List.find?_append, List.find?_eq_none.2 (fun v hv => by simp [hbefore v hv])]
    simp [he]
  rw [State.firstOffered, hsplit, List.findSome?_append, hnone]
  simp [hfind]

theorem State.firstOffered_none {s : State} {x : List Nat} {ceiling : Option Band}
    (h : ∀ top b : Band, ceiling = some top → b.rank ≤ top.rank → ∀ v ∈ s.clean.get b, s.skipped x v = true) :
    s.firstOffered x (bandsUpTo ceiling) = none := by
  rw [State.firstOffered, List.findSome?_eq_none_iff]
  intro b hb
  obtain ⟨top, ht, hr⟩ := (mem_bandsUpTo ceiling b).1 hb
  rw [Option.map_eq_none_iff, List.find?_eq_none]
  intro v hv
  simp [h top b ht hr v hv]

/-- One turn of the walk: the record offered is caught up, and is the victim on the list where it was met (R96). -/
theorem State.walk_succ {s : State} {x : List Nat} {bands : List Band} {b : Band} {e : Nat} (n : Nat)
    (h : s.firstOffered x bands = some (b, e)) :
    s.walk x bands (n + 1) =
      if e ∈ (s.examine 0 e).clean.get b then (some e, s.examine 0 e) else (s.examine 0 e).walk x bands n := by
  rw [State.walk, h]

theorem State.walk_of_none {s : State} {x : List Nat} {bands : List Band} (n : Nat)
    (h : s.firstOffered x bands = none) : s.walk x bands (n + 1) = (none, s) := by
  rw [State.walk, h]

theorem State.victim_of_walk {s t : State} {x : List Nat} {c : Option Band} {e : Nat}
    (h : s.walk x (bandsUpTo c) (s.clean.size + 1) = (some e, t)) : s.victim x c = (some e, t) := by
  rw [State.victim, h]

theorem State.victim_of_no_walk {s : State} {x : List Nat} {c : Option Band}
    (h : s.firstOffered x (bandsUpTo c) = none) :
    s.victim x c =
      if 0 < s.pinnedCleanCount then s.pinScan x (bandsUpTo c) (s.records.map (·.extent)) else (none, s) := by
  rw [State.victim, State.walk_of_none _ h]

/-! ### The pin scan -/

/-- Whether the pin scan considers a record (R96). -/
def State.scans (s : State) (x : List Nat) (r : Resident) : Bool :=
  r.isPinnedClean && r.state != .filling && !s.skipped x r.extent

/-- The pin scan passes by the records it does not consider. -/
theorem State.pinScan_pass {s : State} {x : List Nat} {bands : List Band} {before : List Resident} (rest : List Nat)
    (h : ∀ r ∈ before, s.residentOf r.extent = some r ∧ s.scans x r = false) :
    s.pinScan x bands (before.map (·.extent) ++ rest) = s.pinScan x bands rest := by
  induction before with
  | nil => rfl
  | cons r before ih =>
    obtain ⟨hr, hs⟩ := h r (by simp)
    have hif := ih fun y hy => h y (by simp [hy])
    unfold State.scans at hs
    rw [List.map_cons, List.cons_append, State.pinScan, hr]
    dsimp only
    rw [hs, if_neg (by simp), hif]

/-- The pin scan takes a record that its catch-up puts on an allowed list. -/
theorem State.pinScan_take {s : State} {x : List Nat} {bands : List Band} {r : Resident} (rest : List Nat)
    (hr : s.residentOf r.extent = some r) (hs : s.scans x r = true)
    (hl : (s.examineResident 0 r).onList bands r.extent = true) :
    s.pinScan x bands (r.extent :: rest) = (some r.extent, s.examineResident 0 r) := by
  unfold State.scans at hs
  rw [State.pinScan, hr]
  dsimp only
  rw [if_pos hs, if_pos hl]

/-- The pin scan's victim: the first record in slot order that it considers, where its catch-up puts it on an allowed
list (R96). -/
theorem State.victim_of_scan {s : State} {x : List Nat} {c : Option Band} {r : Resident} {before after : List Resident}
    (hnone : s.firstOffered x (bandsUpTo c) = none) (hn : (s.records.map (·.extent)).Nodup)
    (hl : s.records = before ++ r :: after) (hbefore : ∀ y ∈ before, s.scans x y = false) (hr : s.scans x r = true)
    (hon : (s.examineResident 0 r).onList (bandsUpTo c) r.extent = true) :
    s.victim x c = (some r.extent, s.examineResident 0 r) := by
  have hmem (y : Resident) (hy : y ∈ before ++ r :: after) : s.residentOf y.extent = some y :=
    State.residentOf_of_mem hn (hl ▸ hy)
  have hcount : 0 < s.pinnedCleanCount := by
    unfold State.scans at hr
    simp only [Bool.and_eq_true] at hr
    exact List.countP_pos_iff.2 ⟨r, hl ▸ by simp, hr.1.1⟩
  rw [State.victim_of_no_walk hnone, if_pos hcount, hl, List.map_append, List.map_cons,
    State.pinScan_pass _ fun y hy => ⟨hmem y (by simp [hy]), hbefore y hy⟩, State.pinScan_take _ (hmem r (by simp)) hr hon]

end Sys2Proof.Machine

open Sys2Proof.Machine in
/-- Settles O53: the walk's turns by the record first offered, and the pin scan by the record first considered. -/
theorem aVictimIsNeverHeldClaimedOrExcluded : Obligations.AVictimIsNeverHeldClaimedOrExcluded := by
  unfold Obligations.AVictimIsNeverHeldClaimedOrExcluded
  intro skipped
  have hskip (s : State) (x : List Nat) (e : Nat) : skipped s x e ↔ s.skipped x e = true := State.skipped_iff.symm
  refine ⟨fun s t x ceiling e h => ?_, fun s x b top e before after hb hcold hl hbefore he => ?_,
    fun s u x ceiling e => State.victim_of_walk, fun s x ceiling hall => ?_⟩
  · obtain ⟨⟨b, hb, hmem⟩, hs⟩ := State.victim_some h
    rw [show t = (s.victim x ceiling).2 by rw [h], State.victim_skipped, State.skipped_eq_false] at hs
    obtain ⟨hheld, hclaimed, hexcluded⟩ := hs
    obtain ⟨top, htop, hrank⟩ := (mem_bandsUpTo ceiling b).1 hb
    exact ⟨hheld, hclaimed, hexcluded, b, top, htop, hrank, hmem⟩
  · simp only [hskip, Bool.not_eq_true] at hcold hbefore he
    have hfirst := State.firstOffered_of hb hcold hl hbefore he
    exact ⟨fun hmem => State.victim_of_walk (by rw [State.walk_succ _ hfirst, if_pos hmem]),
      fun hmem n => by rw [State.walk_succ _ hfirst, if_neg hmem]⟩
  · simp only [hskip] at hall
    have hnone := State.firstOffered_none hall
    refine ⟨fun h0 => by rw [State.victim_of_no_walk hnone, if_neg (by omega)],
      fun r before after b top hn hl hbefore hclean hstate hr => ?_⟩
    intro t hc hb hmem
    simp only [hskip] at hbefore hr
    refine State.victim_of_scan hnone hn hl (fun y hy => ?_) (by simp [State.scans, hclean, hstate, hr]) ?_
    · rcases hbefore y hy with k | k | k <;> simp [State.scans, k]
    · exact List.any_eq_true.2 ⟨b, (mem_bandsUpTo ceiling b).2 ⟨top, hc, hb⟩, by simpa using hmem⟩
end

section
/-! PROOFS. The link resets of the flash and the disk refuted: with the Watch List full, the heat that an aborted fresh
FILL returns takes the place of the head of last-touch order, whose Promotion Queue entry goes with it (R13, R14). No
hypothesis of either statement keeps that head from being the extent of an aborted partial FILL (R12 does, which
`State.HeatOnce` says). -/

namespace Sys2Proof.Machine

/-! ### What a link reset's aborts do to the Promotion Queue -/

/-- A removal joins nothing to the Promotion Queue. -/
theorem State.mem_remove_promo {s : State} {f : SlotFate} {r : Resident} {e : Nat} (h : e ∈ (s.remove f r).promo) :
    e ∈ s.promo := by
  rw [State.remove_eq, State.settleSlot_eq] at h
  have h1 := State.PassesBy.mem_returnHeat_promo h
  rwa [State.drop, State.body_promo (State.announced_body f r.slot s)] at h1

theorem State.mem_store_promo {s : State} {a : ListEnd} {r : Resident} {e : Nat} (h : e ∈ (s.store a r).promo) :
    e ∈ s.promo := by
  rw [State.store_promo] at h
  split at h
  · exact ((mem_without _ _ _).1 h).1
  · exact h

theorem State.mem_endRecord_promo {s : State} {f : SlotFate} {r : Resident} {e : Nat}
    (h : e ∈ (s.endRecord f r).promo) : e ∈ s.promo := by
  unfold State.endRecord at h
  rcases State.retireIfEmpty_cases f r.extent (s.store .tail { r with state := .resident }) with ⟨-, k⟩ | ⟨x, -, -, k⟩
  · exact State.mem_store_promo (k ▸ h)
  · exact State.mem_store_promo (State.mem_remove_promo (k ▸ h))

/-- A move aborted by a link reset joins nothing to the Promotion Queue. -/
theorem State.mem_abortByReset_promo {s : State} {f : SlotFate} {c : Fin 4} {e : Nat}
    (h : e ∈ (s.abortByReset f c).promo) : e ∈ s.promo := by
  unfold State.abortByReset at h
  split at h
  · exact h
  · exact h
  · rename_i m _
    cases hr : s.residentOf m.extent with
    | none =>
      have hr' : (s.setContext c .idle).residentOf m.extent = none := hr
      simpa [State.abortFill, hr'] using h
    | some r =>
      rw [State.abortFill_plain c f f hr] at h
      cases hm : m.fresh with
      | true => exact State.mem_remove_promo (s := s.setContext c .idle) (by simpa only [hm, if_true] using h)
      | false => exact State.mem_endRecord_promo (s := s.setContext c .idle) (by simpa [hm] using h)
  · rename_i m _
    cases hr : (s.setContext c .idle).residentOf m.extent with
    | none => simpa [State.abortFlush, hr] using h
    | some r =>
      have h1 : e ∈ ((s.setContext c .idle).endRecord f r).promo := by simpa [State.abortFlush, hr] using h
      exact State.mem_endRecord_promo (s := s.setContext c .idle) h1

theorem State.mem_abortAll_promo {f : SlotFate} {l : List (Fin 4)} {s : State} {e : Nat}
    (h : e ∈ (l.foldl (fun t c => t.abortByReset f c) s).promo) : e ∈ s.promo := by
  induction l generalizing s with
  | nil => exact h
  | cons c l ih => exact State.mem_abortByReset_promo (ih h)

/-- With the Watch List full, a removal's heat takes the place of the head of last-touch order, which leaves the
Promotion Queue (R13, R14). -/
theorem State.notMem_promo_of_full {s : State} {f : SlotFate} {r : Resident} {e : Nat} {l : List Nat}
    (hl : 4096 ≤ s.watch.length) (ht : s.touch = e :: l) (hh : (r.heat.caughtUp s.settings s.epoch).heat ≠ 0) :
    e ∉ (s.remove f r).promo := by
  rw [State.remove_eq, State.settleSlot_eq]
  have hb := State.announced_body f r.slot s
  generalize (if f.announced then s.produceRetire r.slot else s) = u at hb
  have hroom : (u.drop r).watchRoom = ((u.drop r).unwatch e).unqueue e := by
    have hw : ¬ (u.drop r).watch.length < Config.watchPlaces := by
      show ¬ u.watch.length < 4096
      rw [State.body_watch hb]
      omega
    have hu : (u.drop r).touch = e :: l := (State.body_touch hb : u.touch = _).trans ht
    rw [State.watchRoom, if_neg hw, hu]
  show e ∉ ((u.drop r).returnHeat r.extent _).promo
  rw [State.returnHeat, if_neg hh, State.enterWatch, hroom]
  simp [State.unqueue]

/-- The first move that a link reset aborts is a fresh FILL whose heat finds the Watch List full. -/
theorem State.notMem_abortMovesOf_promo {s : State} {p : Port} {f : SlotFate} {c : Fin 4} {cs : List (Fin 4)}
    {m : FillMove} {r : Resident} {e : Nat} {l : List Nat} (ho : s.contextsOf p = c :: cs)
    (hc : s.contexts[c] = .fill m) (hm : m.fresh = true) (hr : s.residentOf m.extent = some r)
    (hl : 4096 ≤ s.watch.length) (ht : s.touch = e :: l) (hh : (r.heat.caughtUp s.settings s.epoch).heat ≠ 0) :
    e ∉ (s.abortMovesOf p f).promo := by
  have h1 : s.abortByReset f c = (s.setContext c .idle).remove f r := by
    simp only [State.abortByReset, hc, State.abortFill_plain c f f hr, hm, if_true]
  intro h
  rw [State.abortMovesOf, ho, List.foldl_cons, h1] at h
  exact State.notMem_promo_of_full (s := s.setContext c .idle) hl ht hh (State.mem_abortAll_promo h)

theorem State.liftFences_promo (s : State) : s.liftFences.promo = s.promo := by
  have key (l : List Fence) (t : State) : (l.foldl (fun t f => t.freeSlot f.slot) t).promo = t.promo := by
    induction l generalizing t with
    | nil => rfl
    | cons f l ih => exact ih _
  exact key s.fences _

theorem State.flashResetServing_promo (s : State) :
    s.flashResetServing.promo = (State.abortMovesOf .flash .freedSilently { s.clearLink .flash with
      flashOwed := [], contexts := s.contexts.map Context.dropMark }).promo := by
  rw [State.flashResetServing, (State.Ends.finish _).promo]
  exact State.liftFences_promo _

theorem State.diskResetServing_promo (s : State) :
    s.diskResetServing.promo = (State.abortMovesOf .disk .freed { s.clearLink .disk with diskOwed := [] }).promo := by
  rw [State.diskResetServing, (State.Ends.finish _).promo]
  rfl

/-! ### A state of that kind -/

/-- A fresh FILL of extent 1 in slot 0 and the FILL of the partial extent 2 in slot 1, in a phase. -/
def crowdedFills (p : Phase) : Vector Context 4 :=
  #v[.fill { phase := p, fresh := true, extent := 1, slot := 0, work := 0#32, validate := 0#32, order := .pending },
    .fill { phase := p, fresh := false, extent := 2, slot := 1, work := 0#32, validate := 0#32, order := .pending },
    .idle, .idle]

/-- A record in state FILLING of heat 1. -/
def crowdedRecord (e n : Nat) (valid : SegSet) : Resident :=
  { extent := e, slot := n, state := .filling, valid := valid, dirty := 0#32, lost := 0#32, pinned := false,
    heat := { heat := 1, band := .b0, settle := 0, stamp := 0 }, classified := .normal, retries := 0, stuck := false,
    drainMark := false, owed := .absent }

/-- A full Watch List, with the partial extent 2 at the head of last-touch order and on the Promotion Queue. -/
def crowded (p : Phase) : State :=
  { State.reset with
    service := .serving, contexts := crowdedFills p
    records := [crowdedRecord 1 0 0#32, crowdedRecord 2 1 1#32]
    watch := List.replicate 4096 { place := 0, extent := 0, heat := { heat := 0, band := .b0, settle := 0, stamp := 0 } }
    touch := [2], promo := [2] }

theorem crowded_withinCapacity (p : Phase) : (crowded p).WithinCapacity where
  fifo q := by cases q <;> exact Nat.zero_le _
  out q := by cases q <;> exact Nat.zero_le _
  parked := Nat.zero_le _
  promo := Nat.le_of_ble_eq_true rfl
  cursor := Nat.le_of_ble_eq_true rfl
  claims i c h := by
    have hnone : (crowded p).claims[i] = none := Vector.getElem_replicate _
    rw [hnone] at h
    cases h

theorem crowded_movesMatched (p : Phase) : (crowded p).MovesMatched where
  lost r hr := by
    obtain rfl | rfl := List.mem_pair.1 hr <;> exact BitVec.and_zero
  fills c m h := by
    fin_cases c
    · cases h
      exact ⟨crowdedRecord 1 0 0#32, rfl, rfl, rfl, BitVec.zero_and, fun _ => rfl⟩
    · cases h
      exact ⟨crowdedRecord 2 1 1#32, rfl, rfl, rfl, BitVec.zero_and, nofun⟩
    · cases h
    · cases h
  flushes c m h := by
    fin_cases c <;> cases h
  apart c d hcd e hc hd := by
    fin_cases c <;> fin_cases d <;> first | exact absurd rfl hcd | (cases hc; done) | (cases hc; cases hd)

theorem dropMark_crowdedFills : (crowdedFills .writing).map Context.dropMark = crowdedFills .writing := by
  simp [crowdedFills, Context.dropMark]

/-- The moves in the order of their slots, where all stand on one port. -/
theorem contextsOf_crowded {s : State} {ph : Phase} {p : Port} (hc : s.contexts = crowdedFills ph)
    (hp : (crowdedFills ph)[0].orderPort = some p) : s.contextsOf p = [0, 1] := by
  rw [State.contextsOf, hc]
  cases ph <;> cases p <;> first | decide | cases hp

/-- After the aborts the partial extent 2 is not queued, on either port. -/
theorem crowded_aborted {ph : Phase} {p : Port} (f : SlotFate) {s : State}
    (hp : (crowdedFills ph)[0].orderPort = some p) (hc : s.contexts = crowdedFills ph)
    (hr : s.records = (crowded ph).records) (hw : s.watch = (crowded ph).watch)
    (ht : s.touch = [2]) (hg : s.settings = .defaults) (he : s.epoch = 0) : 2 ∉ (s.abortMovesOf p f).promo := by
  refine State.notMem_abortMovesOf_promo (contextsOf_crowded hc hp) (by rw [hc]; rfl) rfl ((State.residentOf_congr hr 1).trans rfl) ?_ ht ?_
  · rw [hw]
    exact (List.length_replicate).ge
  · rw [hg, he]
    decide

/-- The partial extent 2 has something to lose its entry for: it is not empty and not whole. -/
theorem crowdedRecord_partial : (crowdedRecord 2 1 1#32).isEmpty = false ∧
    (crowdedRecord 2 1 1#32).valid ||| (crowdedRecord 2 1 1#32).lost ≠ SegSet.all := by
  decide

end Sys2Proof.Machine


open Sys2Proof.Machine in
/-- Refutes O46: in `crowded .writing` the reset aborts a fresh FILL first, and its heat drops the queue entry of the
partial FILL's extent 2. -/
theorem not_aFlashLinkResetActsByServiceState : ¬ Obligations.AFlashLinkResetActsByServiceState := by
  rintro ⟨-, -, h⟩
  obtain ⟨t, hexec, -, -, -, -, -, -, -, -, -, -, -, -, -, -, -, -, -, -, -, -, hmoves⟩ :=
    h (crowded .writing) rfl (crowded_withinCapacity _)
  obtain ⟨hfills, -⟩ := hmoves (crowded_movesMatched _)
  obtain ⟨u, -, -, -, hqueue⟩ :=
    (hfills 1 _ (crowdedRecord 2 1 1#32) rfl rfl rfl).2.2 rfl crowdedRecord_partial.1
  have hstays : 2 ∈ t.promo := (hqueue crowdedRecord_partial.2).2 (List.mem_singleton.2 rfl)
  have ht : t = (crowded .writing).flashResetServing := Host.Outcome.next.inj (hexec.symm.trans rfl)
  rw [ht, State.flashResetServing_promo] at hstays
  exact crowded_aborted (s := { (crowded .writing).clearLink .flash with
      flashOwed := [], contexts := (crowded .writing).contexts.map Context.dropMark })
    .freedSilently (ph := .writing) rfl dropMark_crowdedFills rfl rfl rfl rfl rfl hstays

open Sys2Proof.Machine in
/-- Refutes O47: in `crowded .reading` the reset aborts a fresh FILL first, and its heat drops the queue entry of the
partial FILL's extent 2. -/
theorem not_aDiskLinkResetReconsidersTheDemands : ¬ Obligations.ADiskLinkResetReconsidersTheDemands := by
  rintro ⟨-, h⟩
  obtain ⟨t, hexec, -, -, -, -, -, -, -, -, -, -, -, -, -, -, -, -, -, -, -, -, -, -, -, hmoves⟩ :=
    h (crowded .reading) rfl (crowded_withinCapacity _)
  obtain ⟨hfills, -⟩ := hmoves (crowded_movesMatched _)
  obtain ⟨u, -, -, -, hqueue⟩ :=
    (hfills 1 _ (crowdedRecord 2 1 1#32) rfl rfl rfl).2.2 rfl crowdedRecord_partial.1
  have hstays : 2 ∈ t.promo := (hqueue crowdedRecord_partial.2).2 (List.mem_singleton.2 rfl)
  have ht : t = (crowded .reading).diskResetServing := Host.Outcome.next.inj (hexec.symm.trans rfl)
  rw [ht, State.diskResetServing_promo] at hstays
  exact crowded_aborted (s := { (crowded .reading).clearLink .disk with diskOwed := [] })
    .freed (ph := .reading) rfl rfl rfl rfl rfl rfl rfl hstays
end

section
/-! PROOFS. What an event does before its end: its blocks' operations leave the Claim Table, the drain, urgent mode and
the demand flags alone, they only append to what is owed to the disk, and they set no drain mark and make no record
stuck (a charged flush failure apart). One lemma per operation. -/

set_option Elab.async false

namespace Sys2Proof.Machine

/-! ### The relation -/

/-- What the end of an event decides, and by what: the Claim Table, urgent mode, the drain, an owed DRAINED and the
demand flags, with the service state and the sizes. -/
def State.endings (s : State) :
    (Service × Option Sizes) × Vector (Option ClaimEntry) 8 × Bool × Bool × Option Nat × DemandFlags :=
  ((s.service, s.sizes), s.claims, s.urgent, s.drain, s.drainedOwed, s.demands)

/-- A record's drain mark comes of a marked record of its extent and, in the strict sense, its being stuck of a stuck
one with the same mark. -/
structure State.Accounts (strict : Prop) (s : State) (r : Resident) : Prop where
  mark : r.drainMark = true → ∃ y ∈ s.records, y.extent = r.extent ∧ y.drainMark = true
  stuck : strict → r.stuck = true → ∃ y ∈ s.records, y.extent = r.extent ∧ y.stuck = true ∧ y.drainMark = r.drainMark

/-- `t` comes of `s` by what an event does before its end; strictly, where it makes no record stuck and clears no stuck
record's mark. -/
structure State.Works (strict : Prop) (s t : State) : Prop where
  endings : t.endings = s.endings
  owed : s.diskOwed <+: t.diskOwed
  out : ∀ p, (s.link p).out <+: (t.link p).out
  records : ∀ r ∈ t.records, s.Accounts strict r

section
variable {strict : Prop}

/-- A record of the table accounts for itself. -/
theorem State.accounts_of_mem {s : State} {r : Resident} (h : r ∈ s.records) : s.Accounts strict r :=
  ⟨fun k => ⟨r, h, rfl, k⟩, fun _ k => ⟨r, h, rfl, k, rfl⟩⟩

theorem State.accounts_of_residentOf {s : State} {e : Nat} {r : Resident} (h : s.residentOf e = some r) :
    s.Accounts strict r :=
  State.accounts_of_mem (State.residentOf_mem h).1

/-- A record without mark that is not stuck needs no account. -/
theorem State.accounts_of_plain {s : State} {r : Resident} (hm : r.drainMark = false)
    (hs : strict → r.stuck = false) :
    s.Accounts strict r :=
  ⟨fun k => absurd k (by simp [hm]), fun j k => absurd k (by simp [hs j])⟩

/-- The account of a record serves for another of its extent that keeps both flags. -/
theorem State.Accounts.same {s : State} {x y : Resident} (h : s.Accounts strict x) (he : y.extent = x.extent := by rfl)
    (hm : y.drainMark = x.drainMark := by rfl) (hs : y.stuck = x.stuck := by rfl) : s.Accounts strict y :=
  ⟨fun k => he ▸ h.mark (hm ▸ k), fun j k => by rw [he, hm]; exact h.stuck j (hs ▸ k)⟩

theorem State.Accounts.settled {s : State} {r : Resident} (h : s.Accounts strict r) : s.Accounts strict r.settled := by
  unfold Resident.settled
  split
  · exact State.accounts_of_plain rfl fun _ => rfl
  · exact h

theorem State.Accounts.back {s t : State} (h : ∀ y ∈ t.records, s.Accounts strict y) {r : Resident}
    (k : t.Accounts strict r) :
    s.Accounts strict r := by
  constructor
  · intro hm
    obtain ⟨y, hy, hye, hym⟩ := k.mark hm
    obtain ⟨z, hz, hze, hzm⟩ := (h y hy).mark hym
    exact ⟨z, hz, hze.trans hye, hzm⟩
  · intro hstrict hs
    obtain ⟨y, hy, hye, hys, hym⟩ := k.stuck hstrict hs
    obtain ⟨z, hz, hze, hzs, hzm⟩ := (h y hy).stuck hstrict hys
    exact ⟨z, hz, hze.trans hye, hzs, hzm.trans hym⟩

namespace State.Works

variable {s t u : State}

theorem trans (h : s.Works strict t) (k : t.Works strict u) : s.Works strict u :=
  ⟨k.endings.trans h.endings, h.owed.trans k.owed, fun p => (h.out p).trans (k.out p),
    fun r hr => (k.records r hr).back h.records⟩

/-- An update that leaves the records and what the relation names. -/
theorem of (endings : t.endings = s.endings := by rfl) (records : t.records = s.records := by rfl)
    (owed : s.diskOwed <+: t.diskOwed := by exact List.prefix_rfl)
    (out : ∀ p, (s.link p).out <+: (t.link p).out := by exact fun _ => List.prefix_rfl) : s.Works strict t :=
  ⟨endings, owed, out, fun _ h => State.accounts_of_mem (records ▸ h)⟩

theorem refl (s : State) : s.Works strict s := of

theorem foldl {α : Type} (f : State → α → State) (h : ∀ (s : State) (a : α), s.Works strict (f s a)) (l : List α)
    (s : State) : s.Works strict (l.foldl f s) := by
  induction l generalizing s with
  | nil => exact refl s
  | cons a l ih => exact (h s a).trans (ih (f s a))

theorem claims (h : s.Works strict t) : t.claims = s.claims := congrArg (·.2.1) h.endings
theorem urgent (h : s.Works strict t) : t.urgent = s.urgent := congrArg (·.2.2.1) h.endings
theorem drain (h : s.Works strict t) : t.drain = s.drain := congrArg (·.2.2.2.1) h.endings
theorem drainedOwed (h : s.Works strict t) : t.drainedOwed = s.drainedOwed := congrArg (·.2.2.2.2.1) h.endings
theorem demands (h : s.Works strict t) : t.demands = s.demands := congrArg (·.2.2.2.2.2) h.endings
theorem service (h : s.Works strict t) : t.service = s.service := congrArg (·.1.1) h.endings
theorem sizes (h : s.Works strict t) : t.sizes = s.sizes := congrArg (·.1.2) h.endings

end State.Works

/-! ### Records placed and owed -/

theorem State.place_works (p : Port) (r : Outbound) (s : State) : s.Works strict (s.place p r) :=
  .of (by simp [State.endings]) (by simp) (by simp) fun q => ((State.place_keeps p r s).link q).out

theorem State.produceRetire_works (n : Nat) (s : State) : s.Works strict (s.produceRetire n) := by
  unfold State.produceRetire
  split
  · exact State.place_works _ _ s
  · exact .of

theorem State.setOwed_works (e : Nat) (f : OwedNotice → OwedNotice) (s : State) : s.Works strict (s.setOwed e f) := by
  refine ⟨rfl, List.prefix_rfl, fun _ => List.prefix_rfl, fun r hr => ?_⟩
  obtain ⟨x, hx, rfl⟩ := List.mem_map.1 hr
  split
  · exact (State.accounts_of_mem hx).same
  · exact State.accounts_of_mem hx

theorem State.noticeStuck_works (e : Nat) (s : State) : s.Works strict (s.noticeStuck e) := by
  unfold State.noticeStuck
  split
  · exact State.place_works _ _ s
  · exact State.setOwed_works _ _ s

theorem State.noticeLost_works (e : Nat) (a : SegSet) (s : State) : s.Works strict (s.noticeLost e a) := by
  unfold State.noticeLost
  split
  · exact State.place_works _ _ s
  · exact State.setOwed_works _ _ s

theorem State.armAdvice_works (s : State) : s.Works strict s.armAdvice := by
  unfold State.armAdvice
  split
  · exact .of
  · exact .refl s

/-! ### The map and the Watch List -/

theorem State.store_works {s : State} {r : Resident} (a : ListEnd) (h : s.Accounts strict r) :
    s.Works strict (s.store a r) := by
  refine ⟨rfl, List.prefix_rfl, fun _ => List.prefix_rfl, fun x hx => ?_⟩
  rcases State.mem_store hx with rfl | ⟨hx, -⟩
  · exact h.settled
  · exact State.accounts_of_mem hx

theorem State.enter_works {s : State} {r : Resident} (h : s.Accounts strict r) : s.Works strict (s.enter r) := by
  refine ⟨rfl, List.prefix_rfl, fun _ => List.prefix_rfl, fun x hx => ?_⟩
  rcases (mem_insertBy _ _ _ _).1 hx with rfl | hx
  · exact h
  · exact State.accounts_of_mem hx

theorem State.drop_works (r : Resident) (s : State) : s.Works strict (s.drop r) :=
  ⟨rfl, List.prefix_rfl, fun _ => List.prefix_rfl, fun _ hx => State.accounts_of_mem (List.mem_of_mem_filter hx)⟩

theorem State.enterWatch_works (a : ListEnd) (e : Nat) (h : Heat) (s : State) :
    s.Works strict (s.enterWatch a e h) := by
  rw [State.enterWatch_eq]
  exact .of

theorem State.returnHeat_works (e : Nat) (h : Heat) (s : State) : s.Works strict (s.returnHeat e h) := by
  rw [State.returnHeat_eq]
  exact .of

/-! ### Heat -/

theorem State.adjustPromo_works (e : Nat) (b : Bool) (s : State) : s.Works strict (s.adjustPromo e b) := by
  rw [State.adjustPromo_eq]
  exact .of

theorem State.examineResident_works (w : Nat) {r : Resident} {s : State} (h : r ∈ s.records) :
    s.Works strict (s.examineResident w r) :=
  (State.store_works _ (State.accounts_of_mem h).same).trans (State.adjustPromo_works _ _ _)

theorem State.examineWatched_works (w : Nat) (x : WatchEntry) (s : State) : s.Works strict (s.examineWatched w x) :=
  State.Works.trans (t := s.setWatchHeat x.extent (s.heatNow w x.heat)) .of (State.adjustPromo_works _ _ _)

theorem State.examine_works (w e : Nat) (s : State) : s.Works strict (s.examine w e) := by
  unfold State.examine
  split
  · rename_i h
    exact State.examineResident_works w (State.residentOf_mem h).1
  · split
    · exact State.examineWatched_works _ _ s
    · exact .refl s

theorem State.weighExtent_works (w e : Nat) (s : State) : s.Works strict (s.weighExtent w e) := by
  simp only [State.weighExtent]
  split
  · rename_i h
    exact (State.examineResident_works _ (State.residentOf_mem h).1).trans .of
  · split
    · exact (State.examineWatched_works _ _ s).trans .of
    · split
      · exact .refl s
      · exact State.enterWatch_works _ _ _ s

/-! ### Slots -/

theorem State.settleSlot_works (f : SlotFate) (n : Nat) (s : State) : s.Works strict (s.settleSlot f n) := by
  rw [State.settleSlot_eq]
  exact .of

theorem State.remove_works (f : SlotFate) (r : Resident) (s : State) : s.Works strict (s.remove f r) := by
  rw [State.remove_eq]
  refine ((State.Works.trans ?_ (State.drop_works r _)).trans (State.returnHeat_works _ _ _)).trans
    (State.settleSlot_works _ _ _)
  split
  · exact State.produceRetire_works _ s
  · exact .refl s

theorem State.retireIfEmpty_works (f : SlotFate) (e : Nat) (s : State) : s.Works strict (s.retireIfEmpty f e) := by
  rcases State.retireIfEmpty_cases f e s with ⟨-, k⟩ | ⟨x, -, -, k⟩
  · rw [k]; exact .refl s
  · rw [k]; exact State.remove_works f x s

theorem State.retireEmpties_works (es : List Nat) (s : State) : s.Works strict (s.retireEmpties es) :=
  .foldl _ (fun s e => State.retireIfEmpty_works _ e s) _ s

theorem State.walk_works (x : List Nat) (b : List Band) (n : Nat) (s : State) : s.Works strict (s.walk x b n).2 := by
  induction n generalizing s with
  | zero => exact .refl s
  | succ n ih =>
    unfold State.walk
    split
    · exact .refl s
    · dsimp only
      split
      · exact State.examine_works _ _ s
      · exact (State.examine_works _ _ s).trans (ih _)

theorem State.pinScan_works (x : List Nat) (b : List Band) (l : List Nat) (s : State) :
    s.Works strict (State.pinScan x b l s).2 := by
  induction l generalizing s with
  | nil => exact .refl s
  | cons e l ih =>
    unfold State.pinScan
    split
    · exact ih s
    · rename_i h
      have hx := State.examineResident_works (strict := strict) 0 (State.residentOf_mem h).1
      split
      · dsimp only
        split
        · exact hx
        · exact hx.trans (ih _)
      · exact ih s

theorem State.victim_works (x : List Nat) (c : Option Band) (s : State) : s.Works strict (s.victim x c).2 := by
  have hw := State.walk_works (strict := strict) x (bandsUpTo c) (s.clean.size + 1) s
  unfold State.victim
  split
  · rename_i h; rw [h] at hw; exact hw
  · rename_i h; rw [h] at hw
    split
    · exact hw.trans (State.pinScan_works _ _ _ _)
    · exact hw

theorem State.evict_works (f : SlotFate) (r : Resident) (s : State) : s.Works strict (s.evict f r) :=
  (State.remove_works f r s).trans .of

theorem State.absorbSlot_works (x : List Nat) (s : State) : s.Works strict (s.absorbSlot x).2 := by
  have hv := State.victim_works (strict := strict) x (some .b3) s
  unfold State.absorbSlot
  split
  · exact .of
  · split
    · rename_i h; rw [h] at hv; exact hv
    · rename_i h; rw [h] at hv
      split
      · exact hv
      · exact hv.trans (State.evict_works _ _ _)

theorem State.displace_works (c : Option Band) (n : Nat) (s : State) : s.Works strict (s.displace c n) := by
  induction n generalizing s with
  | zero => exact .refl s
  | succ n ih =>
    have hv := State.victim_works (strict := strict) [] c s
    unfold State.displace
    split
    · exact .refl s
    · split
      · rename_i h; rw [h] at hv; exact hv
      · rename_i h; rw [h] at hv
        split
        · exact hv
        · exact (hv.trans (State.evict_works _ _ _)).trans (ih _)

theorem State.fillSlot_works (e : Nat) (s : State) : s.Works strict (s.fillSlot e).2 := by
  have hp : s.Works strict (s.passingCatchUp e) := by
    unfold State.passingCatchUp
    split
    · exact .refl s
    · exact .of
  have h := hp.trans (State.displace_works (State.watchedBand e (s.passingCatchUp e)).below
    ((s.passingCatchUp e).records.length + 1) _)
  simp only [State.fillSlot]
  split
  · split
    · exact h.trans .of
    · exact h
  · exact h

/-! ### Moves -/

theorem State.endRecord_works (f : SlotFate) {r : Resident} {s : State} (h : s.Accounts strict r) :
    s.Works strict (s.endRecord f r) :=
  (State.store_works _ h.same).trans (State.retireIfEmpty_works _ _ _)

theorem State.produceMark_works (c : Fin 4) (n : Nat) (a : SegSet) (s : State) :
    s.Works strict (s.produceMark c n a) := by
  unfold State.produceMark
  split
  · exact (State.place_works _ _ s).trans .of
  · exact .of

theorem State.completeFill_works (c : Fin 4) (m : FillMove) (s : State) : s.Works strict (s.completeFill c m) := by
  simp only [State.completeFill]
  split
  · exact .of
  · rename_i h
    exact State.Works.trans .of (State.endRecord_works _ (State.accounts_of_residentOf h).same)

/-- Strictly, the record of a FLUSH that the context holds is not stuck. -/
def State.FlushFree (strict : Prop) (s : State) (c : Fin 4) : Prop :=
  ∀ m, s.contexts[c] = .flush m → strict → ∀ r, s.residentOf m.extent = some r → r.stuck = false

theorem State.completeFlush_works (c : Fin 4) {m : FlushMove} {s : State}
    (hs : strict → ∀ r, s.residentOf m.extent = some r → r.stuck = false) : s.Works strict (s.completeFlush c m) := by
  simp only [State.completeFlush]
  split
  · exact .of
  · rename_i r h
    have hr : s.Accounts strict r := State.accounts_of_residentOf h
    refine (State.Works.trans ?_ (State.retireIfEmpty_works _ _ _))
    have hst := State.store_works (strict := strict) (s := { s.setContext c .idle with
      stats := { s.stats with flushesDone := addSat s.stats.flushesDone 1 } }) .tail
      (r := r.cleanedBy (m.cleaned r.dirty))
      (State.accounts_of_plain rfl fun j => hs j r h)
    split
    · exact State.Works.trans .of hst
    · exact (State.Works.trans .of hst).trans (State.produceMark_works _ _ _ _)

theorem State.issue_works (p : Port) (r : Outbound) (c : Fin 4) (x : Context) (s : State) :
    s.Works strict (s.issue p r c x) := by
  have h : s.Works strict { (s.place p r).setContext c x with
      tickets := (((s.place p r).setContext c x).tickets + 1) % Config.wrap16 } := (State.place_works p r s).trans .of
  simp only [State.issue]
  split
  · exact h.trans (State.armAdvice_works _)
  · exact h

theorem State.placeOrder_works {c : Fin 4} {s : State} (h : s.FlushFree strict c) :
    s.Works strict (s.placeOrder c) := by
  unfold State.placeOrder
  split
  · exact .refl s
  · exact .refl s
  · split
    · exact State.completeFill_works _ _ s
    · exact State.issue_works _ _ _ _ s
  · rename_i m hm
    split
    · exact State.completeFlush_works _ (h m hm)
    · exact State.issue_works _ _ _ _ s

theorem State.oweOrder_works (p : Port) (c : Fin 4) (s : State) : s.Works strict (s.oweOrder p c) := by
  cases p with
  | front => exact .refl s
  | flash => exact .of
  | disk => exact .of (owed := List.prefix_append _ _)

theorem State.produceOrder_works {c : Fin 4} {s : State} (h : s.FlushFree strict c) :
    s.Works strict (s.produceOrder c) := by
  unfold State.produceOrder
  split
  · exact .refl s
  · split
    · exact State.placeOrder_works h
    · exact State.oweOrder_works _ _ s

theorem State.penalise_works (e : Nat) (s : State) : s.Works strict (s.penalise e) := by
  refine ⟨rfl, List.prefix_rfl, fun _ => List.prefix_rfl, fun r hr => ?_⟩
  obtain ⟨x, hx, rfl⟩ := List.mem_map.1 hr
  split
  · exact (State.accounts_of_mem hx).same
  · exact State.accounts_of_mem hx

theorem State.abortFill_works (c : Fin 4) (m : FillMove) (b : Bool) (f g : SlotFate) (s : State) :
    s.Works strict (s.abortFill c m b f g) := by
  have h : s.Works strict (if b then (s.setContext c .idle).penalise m.extent else s.setContext c .idle) := by
    split
    · exact State.Works.trans (t := s.setContext c .idle) .of (State.penalise_works _ _)
    · exact .of
  simp only [State.abortFill]
  split
  · exact h
  · rename_i hr
    split
    · exact h.trans (State.remove_works _ _ _)
    · exact h.trans (State.endRecord_works _ (State.accounts_of_residentOf hr))

theorem State.abortFlush_works (c : Fin 4) (m : FlushMove) (f : SlotFate) (s : State) :
    s.Works strict (s.abortFlush c m f) := by
  simp only [State.abortFlush]
  split
  · exact .of
  · rename_i h
    exact State.Works.trans (t := s.setContext c .idle) .of (State.endRecord_works _ (State.accounts_of_residentOf h))

/-- A charged flush failure may make a record stuck, but leaves its mark. -/
theorem State.chargeFlush_works (c : Fin 4) (m : FlushMove) (hn : ¬ strict) (s : State) :
    s.Works strict (s.chargeFlush c m) := by
  have h : s.Works strict (s.setContext c .idle) := .of
  simp only [State.chargeFlush]
  split
  · exact h
  · rename_i r hr
    have ha : (s.setContext c .idle).Accounts strict r := State.accounts_of_residentOf hr
    have hst : s.Works strict ((s.setContext c .idle).store .tail r.charged) :=
      h.trans (State.store_works _ ⟨ha.mark, fun j => absurd j hn⟩)
    split
    · exact h.trans (State.endRecord_works _ ha)
    · split
      · exact (hst.trans .of).trans (State.noticeStuck_works _ _)
      · exact hst.trans .of

theorem State.markLost_works (n : Nat) (a : SegSet) (s : State) : s.Works strict (s.markLost n a) :=
  (State.place_works _ _ s).trans .of

theorem State.loseFlush_works (c : Fin 4) (m : FlushMove) (s : State) : s.Works strict (s.loseFlush c m) := by
  have h : s.Works strict (s.setContext c .idle) := .of
  simp only [State.loseFlush]
  split
  · exact h
  · rename_i r _
    have k : s.Works strict (if m.cleaned r.dirty = 0#32 then s.setContext c .idle
        else ((s.setContext c .idle).markLost r.slot (m.cleaned r.dirty)).noticeLost m.extent (m.cleaned r.dirty)) := by
      split
      · exact h
      · exact (h.trans (State.markLost_works _ _ _)).trans (State.noticeLost_works _ _ _)
    split
    · exact k
    · rename_i hr
      exact k.trans (State.endRecord_works _ (State.accounts_of_residentOf hr).same)

theorem State.enterWriting_works {c : Fin 4} {s : State} (h : s.FlushFree strict c) :
    s.Works strict (s.enterWriting c) := by
  unfold State.enterWriting
  split
  · exact .refl s
  · exact .refl s
  · refine State.Works.trans (t := s.setContext c _) .of (State.produceOrder_works fun m hm => ?_)
    simp [State.setContext] at hm
  · rename_i m hm
    refine State.Works.trans (t := s.setContext c _) .of (State.produceOrder_works fun m' hm' => ?_)
    have he : m'.extent = m.extent := by
      have := Context.flush.inj ((by simpa [State.setContext] using hm') : Context.flush _ = .flush m')
      rw [← this]
    rw [he]
    exact h m hm

/-- What a report does, a charge apart where the sense is strict. -/
theorem State.actOnReport_works {c : Fin 4} {n : Nat} {s : State} (h : s.FlushFree strict c)
    (hc : strict → ∀ m, s.contexts[c] = .flush m → m.phase = .writing → n ≠ 1) :
      s.Works strict (s.actOnReport c n) := by
  unfold State.actOnReport
  split
  · exact .refl s
  · exact .refl s
  · split
    · exact State.enterWriting_works h
    · exact State.completeFill_works _ _ s
    · exact State.abortFill_works _ _ _ _ _ s
    · exact State.abortFill_works _ _ _ _ _ s
  · rename_i m hm
    split
    · exact State.enterWriting_works h
    · exact State.completeFlush_works _ (h m hm)
    · exact State.loseFlush_works _ _ s
    · rename_i hp
      exact State.chargeFlush_works _ _ (fun j => hc j m hm hp rfl) s
    · exact State.abortFlush_works _ _ _ s

/-- What a timeout does, a charge apart where the sense is strict. -/
theorem State.actOnTimeout_works {c : Fin 4} {s : State}
    (hc : strict → ∀ m, s.contexts[c] = .flush m → m.phase ≠ .writing) : s.Works strict (s.actOnTimeout c) := by
  simp only [State.actOnTimeout]
  split
  · exact .refl s
  · exact .refl s
  · split
    · exact State.Works.trans .of (State.abortFill_works _ _ _ _ _ _)
    · exact State.Works.trans .of (State.abortFill_works _ _ _ _ _ _)
  · rename_i m hm
    split
    · exact State.Works.trans .of (State.abortFlush_works _ _ _ _)
    · rename_i hp
      exact State.Works.trans .of (State.chargeFlush_works _ _ (fun j => hc j m hm hp) _)

theorem State.liftFenceOf_works (t : Nat) (s : State) : s.Works strict (s.liftFenceOf t) := by
  unfold State.liftFenceOf
  split
  · exact .refl s
  · exact State.Works.trans .of (State.produceRetire_works _ _)

theorem State.liftFences_works (s : State) : s.Works strict s.liftFences :=
  State.Works.trans (t := { s with fences := [] }) .of (.foldl _ (fun _ _ => .of) _ _)

theorem State.abortByReset_works (f : SlotFate) (c : Fin 4) (s : State) : s.Works strict (s.abortByReset f c) := by
  unfold State.abortByReset
  split
  · exact .refl s
  · exact .refl s
  · exact State.abortFill_works _ _ _ _ _ s
  · exact State.abortFlush_works _ _ _ s

theorem State.abortMovesOf_works (p : Port) (f : SlotFate) (s : State) : s.Works strict (s.abortMovesOf p f) :=
  .foldl _ (fun s c => State.abortByReset_works f c s) _ s

/-! ### Starts -/

theorem State.startFlush_works (c : Fin 4) {r : Resident} {s : State} (h : r ∈ s.records) (hs : r.stuck = false) :
    s.Works strict (s.startFlush c r) := by
  have hst := State.store_works (strict := strict) (s := s) .tail (r := { r with state := .flushing })
    (State.accounts_of_mem h).same
  refine (hst.trans .of).trans (State.produceOrder_works fun m hm _ x hx => ?_)
  have he : m.extent = r.extent := by
    have := Context.flush.inj ((by simpa [State.setContext] using hm) : Context.flush _ = .flush m)
    rw [← this]
  obtain ⟨hx, hxe⟩ := State.residentOf_mem hx
  rcases State.mem_store (a := .tail) (r := { r with state := .flushing }) hx with rfl | ⟨-, k⟩
  · simp [Resident.settled_eq, hs]
  · exact absurd (hxe.trans he) k

theorem State.startPartialFill_works (c : Fin 4) {r : Resident} {s : State} (h : r ∈ s.records) :
    s.Works strict (s.startPartialFill c r) := by
  have hst := State.store_works (strict := strict) (s := s) .tail (r := { r with state := .filling })
    (State.accounts_of_mem h).same
  refine (hst.trans .of).trans (State.produceOrder_works fun m hm => ?_)
  simp [State.setContext] at hm

theorem State.startFreshFill_works (c : Fin 4) (e n : Nat) (s : State) : s.Works strict (s.startFreshFill c e n) := by
  refine ((State.Works.trans .of (State.enter_works (State.accounts_of_plain rfl fun _ => rfl))).trans .of).trans
    (State.produceOrder_works fun m hm => ?_)
  simp [State.setContext] at hm

theorem State.startEligibleFlush_works (c : Fin 4) (s : State) : s.Works strict (s.startEligibleFlush c) := by
  unfold State.startEligibleFlush
  split
  · exact .refl s
  · rename_i e he
    split
    · exact .refl s
    · rename_i r hr
      have hs : r.stuck = false := by
        unfold State.eligibleFlush at he
        split at he
        · have hf := List.find?_some he
          rw [State.flushable, hr] at hf
          simp only [Bool.and_eq_true, Bool.not_eq_true'] at hf
          exact hf.1.1
        · cases he
      exact (State.startFlush_works c (State.residentOf_mem hr).1 hs).trans .of

theorem State.tryFill_works (c : Fin 4) (e : Nat) (s : State) : s.Works strict (s.tryFill c e).2 := by
  have h := State.fillSlot_works (strict := strict) e s
  unfold State.tryFill
  split
  · rename_i hr
    exact (State.startPartialFill_works c (State.residentOf_mem hr).1).trans .of
  · split
    · rename_i k; rw [k] at h; exact (h.trans (State.startFreshFill_works _ _ _ _)).trans .of
    · rename_i k; rw [k] at h; exact h

theorem State.tryFills_works (c : Fin 4) (n : Nat) (l : List Nat) (s : State) :
    s.Works strict (State.tryFills c n l s).2 := by
  induction n generalizing l s with
  | zero => exact .refl s
  | succ n ih =>
    unfold State.tryFills
    split
    · exact .refl s
    · rename_i e _
      have h := State.tryFill_works (strict := strict) c e s
      split
      · rename_i k; rw [k] at h; exact h
      · rename_i k; rw [k] at h; exact h.trans (ih _ _)

theorem State.startFillElseFlush_works (c : Fin 4) (s : State) : s.Works strict (s.startFillElseFlush c) := by
  have h := State.tryFills_works (strict := strict) c (s.promo.length + s.records.length + 1) [] s
  unfold State.startFillElseFlush
  split
  · rename_i k; rw [k] at h; exact h
  · rename_i k; rw [k] at h; exact h.trans (State.startEligibleFlush_works _ _)

theorem State.startMove_works (c : Fin 4) (s : State) : s.Works strict (s.startMove c) := by
  unfold State.startMove
  split
  · exact .refl s
  · exact State.startEligibleFlush_works _ s
  · exact State.startFillElseFlush_works _ s
  · split
    · exact State.startFillElseFlush_works _ s
    · exact State.startEligibleFlush_works _ s

/-! ### Routing -/

theorem State.examineRoute_works (q : Parked) (s : State) : s.Works strict (s.examineRoute q) := by
  have hw : s.Works strict (s.weighRoute q) := by
    simp only [State.weighRoute]
    exact State.Works.trans (t := (s.classify q.lba q.count).2) .of
      (.foldl _ (fun u sp => State.weighExtent_works _ _ u) _ _)
  unfold State.examineRoute
  split
  · exact hw
  · exact hw
  · exact .foldl _ (fun u sp => State.examine_works _ _ u) _ s

theorem State.writeAbsent_works (x : List Nat) (sp : Span) (s : State) : s.Works strict (s.writeAbsent x sp).2 := by
  have h := State.absorbSlot_works (strict := strict) x s
  unfold State.writeAbsent
  split
  · exact .refl s
  · split
    · rename_i k; rw [k] at h; exact h
    · rename_i k; rw [k] at h
      exact (h.trans .of).trans (State.enter_works (State.accounts_of_plain rfl fun _ => rfl))

theorem State.trimExtent_works (sp : Span) (s : State) : s.Works strict (s.trimExtent sp).2 := by
  unfold State.trimExtent
  split
  · dsimp only
    split
    · exact .of
    · exact .refl s
  · rename_i r h
    exact (State.store_works .tail (r := r.trim sp.full) (State.accounts_of_residentOf h).same).trans .of

theorem State.decideSpan_works (k : RouteKind) (x : List Nat) (sp : Span) (s : State) :
    s.Works strict (s.decideSpan k x sp).2 := by
  unfold State.decideSpan
  split
  · split
    · exact .refl s
    · exact .refl s
  · split
    · rename_i r h
      exact (State.store_works .tail (r := r.written (sp.writeDecision r (s.policyOf sp.extent)).flash)
        (State.accounts_of_residentOf h).same).trans .of
    · exact State.writeAbsent_works _ _ s
  · exact State.trimExtent_works _ s

theorem State.decideSpans_works (k : RouteKind) (x : List Nat) (sps : List Span) (s : State) :
    s.Works strict (s.decideSpans k x sps).2 := by
  induction sps generalizing s with
  | nil => exact .refl s
  | cons sp sps ih => exact (State.decideSpan_works k x sp s).trans (ih _)

theorem State.endTrim_works (ds : List Decision) (s : State) : s.Works strict (s.endTrim ds) := by
  refine State.Works.trans (.foldl _ (fun s d => ?_) ds s) (State.retireEmpties_works _ _)
  unfold State.trimMark
  split
  · exact .refl s
  · exact State.place_works _ _ s

theorem State.recordRoute_works (q : Parked) (ds : List Decision) (s : State) :
    s.Works strict (s.recordRoute q ds) := by
  have h : s.Works strict (if q.kind = .trim then s.endTrim ds else s) := by
    split
    · exact State.endTrim_works ds s
    · exact .refl s
  unfold State.recordRoute
  generalize (if q.kind = .trim then s.endTrim ds else s) = t at h ⊢
  dsimp only
  have k := (h.trans (State.Works.trans (t := { t with routes := insertBy (·.tag) (routeEntry q ds) t.routes }) .of
    (State.place_works .front (.routeAnswer .ok q.tag (t.forcedWake ds) (routePieces q.kind ds)) _)))
  split
  · exact (k.trans .of).trans (State.armAdvice_works _)
  · exact k.trans .of

theorem State.failWrite_works (e : Nat) (a : SegSet) (s : State) : s.Works strict (s.failWrite e a) := by
  unfold State.failWrite
  split
  · exact .refl s
  · rename_i h
    dsimp only
    split
    · exact .refl s
    · exact (State.store_works .tail (State.accounts_of_residentOf h).same).trans (State.markLost_works _ _ _)

theorem State.failEntry_works (t : RouteEntry) (s : State) : s.Works strict (s.failEntry t) := by
  simp only [State.failEntry]
  split
  · exact State.failWrite_works _ _ s
  · exact (State.failWrite_works _ _ s).trans (State.failWrite_works _ _ _)

end

end Sys2Proof.Machine
end

section
/-! PROOFS. What an event in SERVING ends with, part by part: the notices of the grants (R81), DRAINED (R151), urgent
mode (R136) and the demands, the first of them placed and the rest owed (R145, R146). -/

set_option Elab.async false

namespace Sys2Proof.Machine

/-! ### Demands -/

/-- Whether a reason's demand is produced at the end of an event (R145). -/
def State.demandsNow (s : State) (r : Reason) : Bool := s.demandHolds r && s.spindle != .up && !s.demands.get r

/-- Whether an owed record is none of some reasons' demands whose condition has ended (R145). -/
def State.staysOwed (s : State) (l : List Reason) (o : DiskOwed) : Bool :=
  l.all fun r => o != .demand r || s.demandHolds r

@[simp] theorem DemandFlags.get_set_same (f : DemandFlags) (r : Reason) (b : Bool) : (f.set r b).get r = b := by
  cases r <;> rfl

theorem DemandFlags.get_set_of_ne (f : DemandFlags) {r q : Reason} (b : Bool) (h : q ≠ r) :
    (f.set r b).get q = f.get q := by
  cases r <;> cases q <;> simp_all [DemandFlags.get, DemandFlags.set]

@[simp] theorem DemandFlags.set_get (f : DemandFlags) (r : Reason) : f.set r (f.get r) = f := by
  cases r <;> rfl

/-- One reason at the end of an event: its flag, its demand placed or owed, and an owed demand dropped. -/
theorem State.demandFor_eq (r : Reason) (s : State) :
    ∃ placed owed : List Reason, placed ++ owed = [r].filter s.demandsNow ∧
      (s.diskOwed ≠ [] → placed = []) ∧ (16 ≤ s.disk.out.length → placed = []) ∧
      (s.diskOwed = [] → s.disk.out.length < 16 → owed = []) ∧
      s.demandFor r = { s with
        demands := s.demands.set r (s.demandHolds r && (s.demands.get r || s.spindle != .up))
        disk := { s.disk with out := s.disk.out ++ placed.map .spinUpDemand }
        diskOwed := s.diskOwed.filter (s.staysOwed [r]) ++ owed.map .demand
        stats := { s.stats with
          spinUpDemands := if placed = [] then s.stats.spinUpDemands else addSat s.stats.spinUpDemands 1 } } := by
  cases hh : s.demandHolds r with
  | false =>
    refine ⟨[], [], by simp [State.demandsNow, hh], fun _ => rfl, fun _ => rfl, fun _ _ => rfl, ?_⟩
    have hf : s.diskOwed.filter (s.staysOwed [r]) = without (.demand r) s.diskOwed :=
      List.filter_congr fun o _ => by simp [State.staysOwed, hh, bne, beq_eq_decide]
    simp [State.demandFor, hh, hf, State.setDemand]
  | true =>
    have hf : s.diskOwed.filter (s.staysOwed [r]) = s.diskOwed :=
      List.filter_eq_self.2 fun o _ => by simp [State.staysOwed, hh]
    by_cases hn : s.spindle ≠ .up ∧ s.demands.get r = false
    · have hup : (s.spindle != .up) = true := by simpa using hn.1
      have hnow : [r].filter s.demandsNow = [r] := by simp [State.demandsNow, hh, hn.1, hn.2]
      have hd : s.demandFor r = (s.setDemand r true).produceDemand r := by
        simp [State.demandFor, hh, hn.1, hn.2]
      by_cases hroom : s.disk.out.length < 16 ∧ s.diskOwed = []
      · have hrm : (s.setDemand r true).hasRoom .disk 1 = true := State.hasRoom_of_lt (p := .disk) hroom.1
        refine ⟨[r], [], hnow.symm, fun k => absurd hroom.2 k, fun k => absurd hroom.1 (by omega), fun _ _ => rfl, ?_⟩
        have hp : (s.setDemand r true).produceDemand r = (s.setDemand r true).placeDemand r := by
          rw [State.produceDemand, hrm]
          simp [State.setDemand, hroom.2]
        rw [hd, hp, State.placeDemand, State.place_of_room _ hrm, hf, hn.2]
        simp [State.setDemand, State.setLink, State.link, hup]
      · refine ⟨[], [r], hnow.symm, fun _ => rfl, fun _ => rfl, fun h1 h2 => absurd ⟨h2, h1⟩ hroom, ?_⟩
        have hp : (s.setDemand r true).produceDemand r =
            { s.setDemand r true with diskOwed := s.diskOwed ++ [.demand r] } := by
          rw [State.produceDemand, if_neg]
          · rfl
          · intro k
            simp only [Bool.and_eq_true, List.isEmpty_iff, State.hasRoom, decide_eq_true_eq] at k
            exact hroom ⟨k.1, k.2⟩
        rw [hd, hp, hf, hn.2]
        simp [State.setDemand, hup]
    · have hflag : s.demands.get r = (s.demands.get r || s.spindle != .up) := by
        by_cases hup : s.spindle = .up
        · simp [hup]
        · have : s.demands.get r = true := by
            cases hg : s.demands.get r with
            | true => rfl
            | false => exact absurd ⟨hup, hg⟩ hn
          simp [this]
      have hoff : (s.spindle != .up && !s.demands.get r) = false := by
        rw [Bool.eq_false_iff]
        intro k
        exact hn (by simpa using k)
      refine ⟨[], [], ?_, fun _ => rfl, fun _ => rfl, fun _ _ => rfl, ?_⟩
      · simp [State.demandsNow, hh, hoff]
      · rw [hf, Bool.true_and, ← hflag]
        simp [State.demandFor, hh, hoff]

/-- The demands of some reasons at the end of an event, one after the other: the first are placed and the rest owed. -/
structure State.Demanded (l : List Reason) (s t : State) : Prop where
  flags : ∀ r, t.demands.get r =
    if r ∈ l then s.demandHolds r && (s.demands.get r || s.spindle != .up) else s.demands.get r
  records : ∃ placed owed : List Reason, placed ++ owed = l.filter s.demandsNow ∧
    ((∃ o ∈ s.diskOwed, s.staysOwed l o = true) → placed = []) ∧ (16 ≤ s.disk.out.length → placed = []) ∧
    (s.diskOwed = [] → s.disk.out.length + l.length ≤ 16 → owed = []) ∧
    t.disk.out = s.disk.out ++ placed.map .spinUpDemand ∧
    t.diskOwed = s.diskOwed.filter (s.staysOwed l) ++ owed.map .demand ∧
    (s.stats.spinUpDemands ≤ 4294967295 →
      t.stats.spinUpDemands = min (s.stats.spinUpDemands + placed.length) 4294967295)
  holds : ∀ r, t.demandHolds r = s.demandHolds r
  stats : t.stats = { s.stats with spinUpDemands := t.stats.spinUpDemands }

theorem State.demanded_cons {r : Reason} {l : List Reason} {s t : State} (hr : r ∉ l)
    (h : (s.demandFor r).Demanded l t) : s.Demanded (r :: l) t := by
  obtain ⟨placed, owed, hfirst, howed, hfull, hroom, heq⟩ := State.demandFor_eq r s
  generalize s.demandFor r = u at h heq
  have hholds (q : Reason) : u.demandHolds q = s.demandHolds q := by rw [heq]; cases q <;> rfl
  have hspin : u.spindle = s.spindle := by rw [heq]
  have hget (q : Reason) (hq : q ≠ r) : u.demands.get q = s.demands.get q := by
    rw [heq]
    exact DemandFlags.get_set_of_ne _ _ hq
  have hstay (o : DiskOwed) : u.staysOwed l o = s.staysOwed l o := by simp only [State.staysOwed, hholds]
  have hnow : l.filter u.demandsNow = l.filter s.demandsNow :=
    List.filter_congr fun q hq => by
      simp only [State.demandsNow, hholds, hspin, hget q fun k => hr (k ▸ hq)]
  have hout : u.disk.out = s.disk.out ++ placed.map .spinUpDemand := by rw [heq]
  have hdo : u.diskOwed = s.diskOwed.filter (s.staysOwed [r]) ++ owed.map .demand := by rw [heq]
  have hsplit (o : DiskOwed) : s.staysOwed (r :: l) o = (s.staysOwed [r] o && s.staysOwed l o) := by
    simp [State.staysOwed]
  have howedStay : ∀ o ∈ owed.map DiskOwed.demand, s.staysOwed l o = true := by
    intro o ho
    obtain ⟨q, hq, rfl⟩ := List.mem_map.1 ho
    have : q ∈ [r].filter s.demandsNow := hfirst ▸ List.mem_append_right _ hq
    obtain rfl : q = r := by simpa using (List.mem_filter.1 this).1
    simp only [State.staysOwed, List.all_eq_true]
    intro x hx
    have : x ≠ q := fun k => hr (k ▸ hx)
    simp [this.symm]
  obtain ⟨placed', owed', hfirst', hstays', hfull', hroom', hout', howed', hcount'⟩ := h.records
  have hlen : placed.length + owed.length ≤ 1 := by
    rw [← List.length_append, hfirst]
    exact List.length_filter_le _ _
  refine ⟨fun q => ?_, ⟨placed ++ placed', owed ++ owed', ?_, ?_, ?_, ?_, ?_, ?_, ?_⟩,
    fun q => (h.holds q).trans (hholds q), ?_⟩
  · rw [h.flags q, hholds, hspin]
    by_cases hq : q = r
    · subst hq
      rw [if_neg hr, if_pos (by simp), heq]
      exact DemandFlags.get_set_same _ _ _
    · simp only [List.mem_cons, hq, false_or, hget q hq]
  · rw [List.filter_cons]
    have hone : placed ++ owed = if s.demandsNow r then [r] else [] := by rw [hfirst, List.filter_cons]; rfl
    cases owed with
    | nil =>
      rw [List.append_nil] at hone
      rw [List.nil_append, List.append_assoc, hfirst', hnow, hone]
      split <;> rfl
    | cons x xs =>
      obtain rfl : placed = [] := List.length_eq_zero_iff.1 (by simp at hlen; omega)
      obtain rfl : placed' = [] := hstays' ⟨.demand x, by rw [hdo]; simp, by rw [hstay]; exact howedStay _ (by simp)⟩
      simp only [List.nil_append] at hone hfirst' ⊢
      rw [hfirst', hnow, hone]
      split <;> rfl
  · rintro ⟨o, ho, hs⟩
    rw [hsplit, Bool.and_eq_true] at hs
    rw [howed (List.ne_nil_of_mem ho), hstays' ⟨o, by
      rw [hdo]
      exact List.mem_append_left _ (List.mem_filter.2 ⟨ho, hs.1⟩), by rw [hstay]; exact hs.2⟩]
    rfl
  · intro k
    rw [hfull k, hfull' (by rw [hout]; simp; omega)]
    rfl
  · intro h1 h2
    simp only [List.length_cons] at h2
    obtain rfl := hroom h1 (by omega)
    refine hroom' (by rw [hdo, h1]; rfl) ?_
    rw [hout]
    simp only [List.length_append, List.length_map]
    simp at hlen
    omega
  · rw [hout', hout, List.map_append, List.append_assoc]
  · rw [howed', hdo, List.filter_append, List.filter_filter, List.map_append, ← List.append_assoc]
    have h1 : (s.diskOwed.filter fun o => u.staysOwed l o && s.staysOwed [r] o) =
        s.diskOwed.filter (s.staysOwed (r :: l)) :=
      List.filter_congr fun o _ => by rw [hstay, hsplit, Bool.and_comm]
    have h2 : (owed.map DiskOwed.demand).filter (u.staysOwed l) = owed.map .demand :=
      List.filter_eq_self.2 fun o ho => by rw [hstay]; exact howedStay o ho
    rw [h1, h2]
  · intro k
    have hu : u.stats.spinUpDemands = min (s.stats.spinUpDemands + placed.length) 4294967295 := by
      rw [heq]
      show (if placed = [] then _ else _) = _
      split
      · rename_i hp
        simp [hp, k]
      · rename_i hp
        have : placed.length = 1 := by
          have := List.length_pos_iff.2 hp
          omega
        rw [this]
        rfl
    rw [hcount' (by omega), hu, List.length_append]
    omega
  · rw [h.stats, heq]

theorem State.demanded_foldl {l : List Reason} (hn : l.Nodup) (s : State) :
    s.Demanded l (l.foldl (fun t r => t.demandFor r) s) := by
  induction l generalizing s with
  | nil =>
    refine ⟨fun r => by simp, ⟨[], [], rfl, fun _ => rfl, fun _ => rfl, fun _ _ => rfl, by simp, ?_, fun k => ?_⟩,
      fun _ => rfl, rfl⟩
    · have : s.staysOwed [] = fun _ => true := rfl
      simp [this]
    · simp [k]
  | cons r l ih =>
    obtain ⟨hr, hl⟩ := List.nodup_cons.1 hn
    exact State.demanded_cons hr (ih hl _)

/-- The demands at the end of an event (R145). -/
theorem State.demandAll_demanded (s : State) : s.Demanded [.dirtyCeiling, .drain, .fill] s.demandAll :=
  State.demanded_foldl (by decide) s

theorem State.demandFor_demanded (r : Reason) (s : State) : s.Demanded [r] (s.demandFor r) :=
  State.demanded_foldl (by simp) s

/-! ### Grants -/

/-- The extent of entry `i` where the end of an event grants it to port `p` (R81). -/
def State.grantable (s : State) (p : Port) (i : Fin 8) : Option Nat :=
  match s.claims[i] with
  | none => none
  | some c => if c.standing = .pending p ∧ s.quiescent p c.extent = true then some c.extent else none

/-- The extents granted to a port at the end of an event, in entry order (R81). -/
def State.granted (s : State) (p : Port) : List Nat := allClaims.filterMap (s.grantable p)

/-- A state without what grants change: the links and the Claim Table. -/
def State.ungranted (s : State) : State :=
  { s with front := .empty, flash := .empty, disk := .empty, claims := Vector.replicate 8 none }

theorem State.grantTo_ungranted (i : Fin 8) (c : ClaimEntry) (p : Port) (s : State) :
    (s.grantTo i c p).ungranted = s.ungranted := by
  unfold State.grantTo
  split
  · rename_i h
    rw [State.place_of_room _ h]
    cases p <;> rfl
  · rfl

theorem State.grantEntry_ungranted (i : Fin 8) (s : State) : (s.grantEntry i).ungranted = s.ungranted := by
  unfold State.grantEntry
  split
  · rfl
  · split
    · rfl
    · split
      · exact State.grantTo_ungranted _ _ _ _
      · rfl

theorem State.grantAll_ungranted (s : State) : s.grantAll.ungranted = s.ungranted := by
  unfold State.grantAll
  generalize allClaims = l
  induction l generalizing s with
  | nil => rfl
  | cons i l ih => exact (ih _).trans (State.grantEntry_ungranted i s)

theorem State.grantTo_out (i : Fin 8) (c : ClaimEntry) (q p : Port) (s : State) :
    ((s.grantTo i c q).link p).out =
      (s.link p).out ++ ((if q = p then [c.extent] else []).take (16 - (s.link p).out.length)).map .claimGranted := by
  unfold State.grantTo
  by_cases hr : s.hasRoom q 1
  · rw [if_pos hr, State.link_setClaim]
    by_cases hq : q = p
    · subst hq
      have hlt : (s.link q).out.length + 1 ≤ 16 := by
        by_contra k
        rw [State.not_hasRoom_of_le (by omega)] at hr
        cases hr
      obtain ⟨k, hk⟩ : ∃ k, 16 - (s.link q).out.length = k + 1 := ⟨15 - (s.link q).out.length, by omega⟩
      rw [State.link_place_same _ hr, if_pos rfl, hk, List.take_succ_cons, List.take_nil]
      rfl
    · rw [State.link_place_of_ne _ s (Ne.symm hq), if_neg hq]
      simp
  · rw [if_neg hr, State.link_setClaim]
    by_cases hq : q = p
    · subst hq
      have hle : 16 ≤ (s.link q).out.length := by
        by_contra hlt
        exact hr (State.hasRoom_of_lt (not_le.1 hlt))
      have hk : 16 - (s.link q).out.length = 0 := by omega
      simp [hk]
    · simp [hq]

theorem State.grantEntry_out (i : Fin 8) (p : Port) (s : State) :
    ((s.grantEntry i).link p).out =
      (s.link p).out ++ ((s.grantable p i).toList.take (16 - (s.link p).out.length)).map .claimGranted := by
  unfold State.grantEntry State.grantable
  cases hc : s.claims[i] with
  | none => simp
  | some c =>
    dsimp only
    cases hs : c.standing with
    | owned q o => simp
    | pending q =>
      dsimp only
      cases hq : s.quiescent q c.extent with
      | false =>
        have : ¬ (Standing.pending q = .pending p ∧ s.quiescent p c.extent = true) := by
          rintro ⟨h, k⟩
          cases h
          simp [hq] at k
        rw [if_neg this]
        simp
      | true =>
        rw [if_pos rfl, State.grantTo_out]
        by_cases hp : q = p
        · subst hp
          simp [hq]
        · simp [hp]

/-- The notices of the grants, in entry order, as far as they fit (R81, R87). -/
theorem State.grantList_out {l : List (Fin 8)} (hn : l.Nodup) (p : Port) (s : State) :
    ((l.foldl (fun t i => t.grantEntry i) s).link p).out =
      (s.link p).out ++ ((l.filterMap (s.grantable p)).take (16 - (s.link p).out.length)).map .claimGranted := by
  induction l generalizing s with
  | nil => simp
  | cons j l ih =>
    obtain ⟨hj, hl⟩ := List.nodup_cons.1 hn
    have hsame : l.filterMap ((s.grantEntry j).grantable p) = l.filterMap (s.grantable p) := by
      refine List.filterMap_congr fun i hi => ?_
      have he := State.Ends.grantEntry j s
      unfold State.grantable
      rw [State.grantEntry_of_ne (fun k : i = j => hj (k ▸ hi)) s]
      simp only [State.quiescent_congr he.contexts he.routes]
    have hcons : (j :: l).filterMap (s.grantable p) = (s.grantable p j).toList ++ l.filterMap (s.grantable p) := by
      rw [List.filterMap_cons]
      cases s.grantable p j <;> rfl
    rw [List.foldl_cons, ih hl, hsame, State.grantEntry_out, hcons, List.take_append, List.map_append,
      ← List.append_assoc]
    congr 3
    simp only [List.length_append, List.length_map, List.length_take]
    omega

theorem State.grantAll_out (p : Port) (s : State) :
    (s.grantAll.link p).out =
      (s.link p).out ++ ((s.granted p).take (16 - (s.link p).out.length)).map .claimGranted :=
  State.grantList_out (by decide) p s

/-! ### The end of a drain -/

/-- The stuck count of a drain's end: the marked stuck records (R151). -/
def State.stuckCount (s : State) : Nat := s.records.countP fun r => r.drainMark && r.stuck

theorem State.endDrain_drain (s : State) : s.endDrain.drain = (s.drain && s.records.any (·.unflushed)) := by
  unfold State.endDrain
  cases hd : s.drain <;> cases hu : s.records.any (·.unflushed) <;> simp [hd]

theorem State.endDrain_stands {s : State} (h : s.drain = false ∨ s.endDrain.drain = true) : s.endDrain = s := by
  rw [State.endDrain_drain] at h
  unfold State.endDrain
  rw [if_neg]
  simp only [Bool.and_eq_true, Bool.not_eq_true', not_and, Bool.not_eq_false]
  intro hd
  simpa [hd] using h

/-- A drain that ends leaves no mark, and its DRAINED placed or owed (R151). -/
theorem State.endDrain_ended {s : State} (h : s.drain = true) (hd : s.endDrain.drain = false) :
    s.endDrain.records = s.records.map Resident.unmarked ∧
      s.endDrain.drainedOwed = (if (s.link .front).out.length < 16 then s.drainedOwed else some s.stuckCount) ∧
      (s.endDrain.link .front).out = (s.link .front).out ++
        (if (s.link .front).out.length < 16 then [.drained s.stuckCount] else []) := by
  rw [State.endDrain_drain, h, Bool.true_and] at hd
  have he : s.endDrain = { (s.noticeDrained s.stuckCount).clearMarks with drain := false } := by
    unfold State.endDrain
    rw [if_pos (by simp [h, hd])]
    rfl
  rw [he]
  unfold State.noticeDrained
  by_cases hr : (s.link .front).out.length < 16
  · have hroom : s.hasRoom .front 1 = true := State.hasRoom_of_lt (p := .front) hr
    rw [if_pos hroom, State.place_of_room _ hroom, if_pos hr, if_pos hr]
    exact ⟨rfl, rfl, rfl⟩
  · have hroom : s.hasRoom .front 1 = false := State.not_hasRoom_of_le (p := .front) (not_lt.1 hr)
    rw [hroom, if_neg (by simp), if_neg hr, if_neg hr]
    exact ⟨rfl, rfl, (List.append_nil _).symm⟩

/-- A state without what the end of a drain changes. -/
def State.undrained (s : State) : State :=
  { s with front := .empty, records := [], drain := false, drainedOwed := none }

theorem State.endDrain_undrained (s : State) : s.endDrain.undrained = s.undrained := by
  unfold State.endDrain
  split
  · unfold State.noticeDrained
    split
    · rename_i h
      rw [State.place_of_room _ h]
      rfl
    · rfl
  · rfl

/-! ### The whole -/

/-- An event's end before its demands. -/
def State.concluding (s : State) : State := s.grantAll.endDrain.compareUrgent

theorem State.finish_demanded {s : State} (h : s.service = .serving) :
    s.concluding.Demanded [.dirtyCeiling, .drain, .fill] s.finish := by
  rw [State.finish_serving h]
  exact State.demandAll_demanded _

/-- A state without what an event's end changes before its demands. -/
def State.unconcluded (s : State) : State :=
  { s with front := .empty, flash := .empty, disk := .empty, claims := Vector.replicate 8 none, records := []
           drain := false, drainedOwed := none, urgent := false }

theorem State.unconcluded_of_ungranted {s t : State} (h : t.ungranted = s.ungranted) :
    t.unconcluded = s.unconcluded := (congrArg State.unconcluded h : t.ungranted.unconcluded = _)

theorem State.unconcluded_of_undrained {s t : State} (h : t.undrained = s.undrained) :
    t.unconcluded = s.unconcluded := (congrArg State.unconcluded h : t.undrained.unconcluded = _)

theorem State.ended_unconcluded (s : State) : s.grantAll.endDrain.unconcluded = s.unconcluded :=
  (State.unconcluded_of_undrained (State.endDrain_undrained _)).trans
    (State.unconcluded_of_ungranted (State.grantAll_ungranted s))

section
variable {s t : State}

theorem State.ungranted_records (h : t.ungranted = s.ungranted) : t.records = s.records :=
  (congrArg State.records h : t.ungranted.records = _)
theorem State.ungranted_urgent (h : t.ungranted = s.ungranted) : t.urgent = s.urgent :=
  (congrArg State.urgent h : t.ungranted.urgent = _)
theorem State.undrained_urgent (h : t.undrained = s.undrained) : t.urgent = s.urgent :=
  (congrArg State.urgent h : t.undrained.urgent = _)
theorem State.unconcluded_demands (h : t.unconcluded = s.unconcluded) : t.demands = s.demands :=
  (congrArg State.demands h : t.unconcluded.demands = _)
theorem State.unconcluded_diskOwed (h : t.unconcluded = s.unconcluded) : t.diskOwed = s.diskOwed :=
  (congrArg State.diskOwed h : t.unconcluded.diskOwed = _)
theorem State.unconcluded_spindle (h : t.unconcluded = s.unconcluded) : t.spindle = s.spindle :=
  (congrArg State.spindle h : t.unconcluded.spindle = _)
theorem State.unconcluded_stats (h : t.unconcluded = s.unconcluded) : t.stats = s.stats :=
  (congrArg State.stats h : t.unconcluded.stats = _)
theorem State.unconcluded_dirtyList (h : t.unconcluded = s.unconcluded) : t.dirtyList = s.dirtyList :=
  (congrArg State.dirtyList h : t.unconcluded.dirtyList = _)
theorem State.unconcluded_sizes (h : t.unconcluded = s.unconcluded) : t.sizes = s.sizes :=
  (congrArg State.sizes h : t.unconcluded.sizes = _)
theorem State.compareUrgent_unconcluded (s : State) : s.compareUrgent.unconcluded = s.unconcluded := rfl

end

theorem State.concluding_unconcluded (s : State) : s.concluding.unconcluded = s.unconcluded :=
  (State.compareUrgent_unconcluded _).trans (State.ended_unconcluded s)

theorem State.concluding_demands (s : State) : s.concluding.demands = s.demands :=
  State.unconcluded_demands s.concluding_unconcluded
theorem State.concluding_diskOwed (s : State) : s.concluding.diskOwed = s.diskOwed :=
  State.unconcluded_diskOwed s.concluding_unconcluded
theorem State.concluding_spindle (s : State) : s.concluding.spindle = s.spindle :=
  State.unconcluded_spindle s.concluding_unconcluded
theorem State.concluding_stats (s : State) : s.concluding.stats = s.stats :=
  State.unconcluded_stats s.concluding_unconcluded

theorem State.grantAll_records (s : State) : s.grantAll.records = s.records :=
  State.ungranted_records s.grantAll_ungranted

theorem State.compareUrgent_urgent (s : State) :
    s.compareUrgent.urgent = urgentAfter s.urgent s.dirtyList.length s.dirtyHigh s.dirtyLow := rfl

theorem State.concluding_urgent (s : State) :
    s.concluding.urgent = urgentAfter s.urgent s.dirtyList.length s.dirtyHigh s.dirtyLow := by
  have h1 : s.grantAll.endDrain.urgent = s.urgent :=
    (State.undrained_urgent (State.endDrain_undrained _)).trans (State.ungranted_urgent s.grantAll_ungranted)
  have h2 := State.unconcluded_dirtyList s.ended_unconcluded
  have h3 := State.unconcluded_sizes s.ended_unconcluded
  rw [State.concluding, State.compareUrgent_urgent, h1, h2]
  simp only [State.dirtyHigh, State.dirtyLow, h3]

theorem State.concluding_disk_out (s : State) : s.concluding.disk.out = (s.grantAll.link .disk).out := by
  have h := State.endDrain_link (p := .disk) (by simp) s.grantAll
  rw [State.concluding]
  generalize s.grantAll = u at h ⊢
  exact congrArg Link.out h

/-- The demands leave what the end of an event has settled before them. -/
theorem State.demandAll_settled (s : State) :
    s.demandAll.drain = s.drain ∧ s.demandAll.drainedOwed = s.drainedOwed ∧ s.demandAll.records = s.records ∧
      s.demandAll.urgent = s.urgent := by
  have h (r : Reason) (u : State) : (u.demandFor r).records = u.records ∧ (u.demandFor r).urgent = u.urgent := by
    obtain ⟨placed, owed, -, -, -, -, he⟩ := State.demandFor_eq r u
    exact ⟨he ▸ rfl, he ▸ rfl⟩
  refine ⟨(State.demandAll_drain s).1, (State.demandAll_drain s).2, ?_, ?_⟩
  · simp only [State.demandAll, h]
  · simp only [State.demandAll, h]

theorem State.finish_urgent {s : State} (h : s.service = .serving) :
    s.finish.urgent = urgentAfter s.urgent s.dirtyList.length s.dirtyHigh s.dirtyLow := by
  rw [State.finish_serving h, ← State.concluding_urgent]
  exact (State.demandAll_settled _).2.2.2

/-- The drain and its DRAINED at the end of an event are those after the grants. -/
theorem State.finish_drained {s : State} (h : s.service = .serving) :
    s.finish.drain = s.grantAll.endDrain.drain ∧ s.finish.drainedOwed = s.grantAll.endDrain.drainedOwed ∧
      s.finish.records = s.grantAll.endDrain.records ∧ s.finish.link .front = s.grantAll.endDrain.link .front := by
  rw [State.finish_serving h]
  generalize s.grantAll.endDrain = u
  obtain ⟨h1, h2, h3, -⟩ := State.demandAll_settled u.compareUrgent
  exact ⟨h1, h2, h3, State.demandAll_link (p := .front) (by simp) u.compareUrgent⟩

theorem State.finish_drain {s : State} (h : s.service = .serving) :
    s.finish.drain = (s.drain && s.records.any (·.unflushed)) := by
  rw [(State.finish_drained h).1, State.endDrain_drain, (State.grantAll_drain s).1, State.grantAll_records]

/-- Without a drain that ends, the records stand. -/
theorem State.finish_drain_stands {s : State} (h : s.service = .serving)
    (hd : s.drain = false ∨ s.finish.drain = true) :
    s.finish.drainedOwed = s.drainedOwed ∧ s.finish.records = s.records ∧
      (s.finish.link .front).out = (s.grantAll.link .front).out := by
  obtain ⟨h1, h2, h3, h4⟩ := State.finish_drained h
  rw [h1, ← (State.grantAll_drain s).1] at hd
  rw [h2, h3, h4, State.endDrain_stands hd]
  exact ⟨(State.grantAll_drain s).2, s.grantAll_records, rfl⟩

/-- A drain that ends at the end of an event (R151). -/
theorem State.finish_drain_ended {s : State} (h : s.service = .serving) (hd : s.drain = true)
    (he : s.finish.drain = false) :
    s.finish.records = s.records.map Resident.unmarked ∧
      s.finish.drainedOwed = (if (s.grantAll.link .front).out.length < 16 then s.drainedOwed else some s.stuckCount) ∧
      (s.finish.link .front).out = (s.grantAll.link .front).out ++
        (if (s.grantAll.link .front).out.length < 16 then [.drained s.stuckCount] else []) := by
  obtain ⟨h1, h2, h3, h4⟩ := State.finish_drained h
  obtain ⟨k1, k2, k3⟩ := State.endDrain_ended ((State.grantAll_drain s).1.trans hd) (h1 ▸ he)
  have hcount : s.grantAll.stuckCount = s.stuckCount := by
    rw [State.stuckCount, State.grantAll_records, State.stuckCount]
  rw [State.grantAll_records] at k1
  rw [(State.grantAll_drain s).2, hcount] at k2
  rw [hcount] at k3
  rw [h2, h3, h4]
  exact ⟨k1, k2, k3⟩

end Sys2Proof.Machine
end

section
/-! PROOFS. The end of an event as the statement says it. -/

namespace Sys2Proof.Machine

theorem urgentAfter_iff (count high low : Nat) :
    (urgentAfter false count high low = true ↔ high ≤ count) ∧
      (urgentAfter true count high low = true ↔ low < count) := by
  simp [urgentAfter]

/-- DRAINED finds room after the notices of the grants. -/
theorem State.grantAll_front_room (s : State) :
    (s.grantAll.link .front).out.length < 16 ↔ s.front.out.length + (s.granted .front).length < 16 := by
  rw [State.grantAll_out]
  simp only [List.length_append, List.length_map, List.length_take]
  show s.front.out.length + _ < 16 ↔ _
  have : (s.link .front).out = s.front.out := rfl
  rw [this]
  omega

theorem State.finish_front_out {s : State} (h : s.service = .serving) :
    s.finish.front.out = s.front.out ++ ((s.granted .front).take (16 - s.front.out.length)).map .claimGranted ++
      (if (s.drain && !s.finish.drain && decide (s.front.out.length + (s.granted .front).length < 16)) = true then
        [.drained s.stuckCount] else []) := by
  have hout : (s.grantAll.link .front).out =
      s.front.out ++ ((s.granted .front).take (16 - s.front.out.length)).map .claimGranted :=
    State.grantAll_out .front s
  simp only [← State.grantAll_front_room, ← hout]
  change (s.finish.link .front).out = _
  by_cases hd : s.drain = true ∧ s.finish.drain = false
  · have := (State.finish_drain_ended h hd.1 hd.2).2.2
    simpa [hd.1, hd.2] using this
  · have hd' : s.drain = false ∨ s.finish.drain = true := by
      cases h1 : s.drain <;> cases h2 : s.finish.drain <;> simp_all
    have hif : (s.drain && !s.finish.drain) = false := by rcases hd' with k | k <;> simp [k]
    have := (State.finish_drain_stands h hd').2.2
    simpa [hif] using this

theorem State.finish_flash_out {s : State} (h : s.service = .serving) :
    s.finish.flash.out = s.flash.out ++ ((s.granted .flash).take (16 - s.flash.out.length)).map .claimGranted := by
  rw [State.finish_serving h]
  have hg : (s.grantAll.link .flash).out = s.flash.out ++ _ := State.grantAll_out .flash s
  generalize s.grantAll = u at hg
  have h1 : u.endDrain.compareUrgent.demandAll.link .flash = u.link .flash :=
    (State.demandAll_link (p := .flash) (by simp) _).trans ((State.compareUrgent_link .flash _).trans
      (State.endDrain_link (p := .flash) (by simp) u))
  exact (congrArg Link.out h1).trans hg

/-- Each demand flag at the end of an event (R145). -/
theorem State.finish_flags {s : State} (h : s.service = .serving) (r : Reason) :
    s.finish.demands.get r = (s.finish.demandHolds r && (s.demands.get r || s.spindle != .up)) := by
  have hd := State.finish_demanded h
  rw [hd.flags r, if_pos (by cases r <;> simp), hd.holds, State.concluding_demands, State.concluding_spindle]

/-- The demands that an event's end produces: the first of them placed, the rest owed (R145, R146). -/
theorem State.finish_demands {s : State} (h : s.service = .serving) :
    ∃ placed owed : List Reason,
      placed ++ owed = [Reason.dirtyCeiling, .drain, .fill].filter (fun r =>
        s.finish.demandHolds r && s.spindle != .up && !s.demands.get r) ∧
      s.finish.disk.out = s.disk.out ++ ((s.granted .disk).take (16 - s.disk.out.length)).map .claimGranted ++
        placed.map .spinUpDemand ∧
      s.finish.diskOwed = s.diskOwed.filter (fun o =>
        [Reason.dirtyCeiling, .drain, .fill].all fun r => o != .demand r || s.finish.demandHolds r) ++
          owed.map .demand ∧
      s.finish.stats = { s.stats with spinUpDemands := s.finish.stats.spinUpDemands } ∧
      (s.stats.spinUpDemands ≤ 4294967295 →
        s.finish.stats.spinUpDemands = min (s.stats.spinUpDemands + placed.length) 4294967295) ∧
      (s.diskOwed = [] → s.disk.out.length + (s.granted .disk).length + 3 ≤ 16 → owed = []) ∧
      (16 ≤ s.disk.out.length → placed = []) := by
  have hd := State.finish_demanded h
  have hout : s.concluding.disk.out =
      s.disk.out ++ ((s.granted .disk).take (16 - s.disk.out.length)).map .claimGranted :=
    (State.concluding_disk_out s).trans (State.grantAll_out .disk s)
  have hlen : s.concluding.disk.out.length = s.disk.out.length + min (16 - s.disk.out.length)
    (s.granted .disk).length := by
    simp [hout]
  obtain ⟨placed, owed, hsplit, -, hfull, hroom, hdisk, howed, hcount⟩ := hd.records
  refine ⟨placed, owed, ?_, ?_, ?_, ?_, ?_, fun h1 h2 => ?_, fun h1 => hfull (by omega)⟩
  · rw [hsplit]
    refine List.filter_congr fun r _ => ?_
    simp only [State.demandsNow, hd.holds, State.concluding_spindle, State.concluding_demands]
  · rw [hdisk, hout]
  · rw [howed, State.concluding_diskOwed]
    simp only [hd.holds]
    rfl
  · rw [hd.stats, State.concluding_stats]
  · rw [State.concluding_stats] at hcount
    exact hcount
  · refine hroom ((State.concluding_diskOwed s).trans h1) ?_
    simp only [List.length_cons, List.length_nil]
    omega

theorem State.finish_link {s : State} (p : Port) : s.link p = { s.finish.link p with out := (s.link p).out } := by
  obtain ⟨hfifo, hdriven, -, -⟩ := (State.finish_keeps s).link p
  generalize s.finish.link p = m at hfifo hdriven
  generalize s.link p = l at hfifo hdriven ⊢
  cases l
  cases hfifo
  cases hdriven
  rfl

end Sys2Proof.Machine

end

section
/-! PROOFS. What every step keeps carried out, and what it leaves to be read of a grant, of a demand and of a drain's
end: three invariants of an event, each kept by what comes before its end and by its end. -/

set_option Elab.async false

namespace Sys2Proof.Machine

/-! ### Carried out -/

/-- In SERVING DIRTY_LOW is below DIRTY_HIGH (R179). -/
def State.WatermarksApart (s : State) : Prop := s.service = .serving → s.dirtyLow < s.dirtyHigh

theorem State.SettingsInRange.watermarksApart {s : State} (h : s.SettingsInRange) : s.WatermarksApart := by
  intro hv
  cases hz : s.sizes with
  | none => exact absurd hz (h.sized (by simp [hv]))
  | some z =>
    have := (h.sizes z hz).dirtyLow
    simpa [State.dirtyLow, State.dirtyHigh, hz] using this

/-- What `State.Concluded` says that the end of an event does not make so: no mark without a drain, and nothing claimed,
drained, urgent or demanded outside SERVING. -/
structure State.Concludable (s : State) : Prop where
  marks : s.drain = false → ∀ r ∈ s.records, r.drainMark = false
  unserved : s.service ≠ .serving →
    (∀ i : Fin 8, s.claims[i] = none) ∧ s.drain = false ∧ s.urgent = false ∧ ∀ r, s.demands.get r = false

theorem State.Concluded.concludable {s : State} (h : s.Concluded) : s.Concludable := ⟨h.marks, h.unserved⟩

theorem State.Works.concludable {strict : Prop} {s t : State} (h : s.Works strict t)
    (hs : s.Concludable) : t.Concludable where
  marks hd r hr := by
    by_contra hm
    obtain ⟨y, hy, -, hym⟩ := (h.records r hr).mark (by simpa using hm)
    rw [hs.marks (h.drain ▸ hd) y hy] at hym
    cases hym
  unserved hv := by
    rw [h.claims, h.drain, h.urgent, h.demands]
    exact hs.unserved (h.service ▸ hv)

theorem State.Works.watermarksApart {strict : Prop} {s t : State} (h : s.Works strict t) (hs : s.WatermarksApart) :
    t.WatermarksApart := by
  intro hv
  have := hs (h.service ▸ hv)
  simpa only [State.dirtyLow, State.dirtyHigh, h.sizes] using this

/-- The end of an event carries out what the event has ended (R81, R136, R145, R151). -/
theorem State.Concludable.finish {s : State} (h : s.Concludable) (hw : s.WatermarksApart) : s.finish.Concluded := by
  by_cases hv : s.service = .serving
  case neg =>
    rw [State.finish_unserved hv]
    obtain ⟨hclaims, hdrain, hurgent, hdemands⟩ := h.unserved hv
    exact
      { granted := fun i c p hc => by rw [hclaims] at hc; cases hc
        drain := fun hd => by rw [hdrain] at hd; cases hd
        marks := h.marks
        urgent := fun k => absurd k hv
        calm := fun k => absurd k hv
        demands := fun k => absurd k hv
        unserved := h.unserved }
  case pos =>
    have he := State.Ends.finish s
    have hurgent := State.finish_urgent hv
    have hlow := hw hv
    have hsizes : s.finish.dirtyLow = s.dirtyLow ∧ s.finish.dirtyHigh = s.dirtyHigh := by
      simp only [State.dirtyLow, State.dirtyHigh, he.keeps.sizes, and_self]
    have hlist : s.finish.dirtyList = s.dirtyList := he.dirtyList
    refine ⟨fun i c p hc hp => ?_, fun hd => ?_, fun hd => ?_, fun _ hu => ?_, fun _ hu => ?_, fun _ r => ?_,
      fun k => absurd (he.keeps.service.trans hv) k⟩
    · obtain ⟨hnone, hsome⟩ := State.finish_grants hv i
      cases hx : s.claims[i] with
      | none => rw [hnone hx] at hc; cases hc
      | some x =>
        obtain ⟨howned, hpending⟩ := hsome x hx
        cases hs : x.standing with
        | owned q o =>
          rw [howned q o hs] at hc
          cases hc
          rw [hs] at hp
          cases hp
        | pending q =>
          cases hq : s.finish.quiescent q x.extent with
          | false =>
            rw [(hpending q hs).1 hq] at hc
            cases hc
            cases hp
            exact hq
          | true =>
            rcases (hpending q hs).2 hq with ⟨k, -⟩ | ⟨k, -⟩ <;> rw [k] at hc <;> cases hc <;> cases hp
    · rw [(State.finish_drain_stands hv (.inr hd)).2.1]
      rw [State.finish_drain hv, Bool.and_eq_true, List.any_eq_true] at hd
      obtain ⟨-, r, hr, hru⟩ := hd
      exact ⟨r, hr, by simpa [Resident.unflushed] using hru⟩
    · cases hsd : s.drain with
      | false =>
        rw [(State.finish_drain_stands hv (.inl hsd)).2.1]
        exact h.marks hsd
      | true =>
        rw [(State.finish_drain_ended hv hsd hd).1]
        intro r hr
        obtain ⟨x, -, rfl⟩ := List.mem_map.1 hr
        rfl
    · rw [hurgent] at hu
      rw [hlist, hsizes.1]
      cases hsu : s.urgent <;>
        simp only [urgentAfter, hsu, if_true, Bool.false_eq_true, if_false, decide_eq_true_eq] at hu <;> omega
    · rw [hurgent] at hu
      rw [hlist, hsizes.2]
      cases hsu : s.urgent <;>
        simp only [urgentAfter, hsu, if_true, Bool.false_eq_true, if_false, decide_eq_false_iff_not] at hu <;> omega
    · rw [State.finish_flags hv r, he.keeps.spindle]
      constructor
      · intro k
        exact (Bool.and_eq_true _ _ ▸ k : _ ∧ _).1
      · intro k1 k2
        simp [k1, k2]

/-! ### Grants and demands that can be read -/

/-- A demand flag that has become yes has its demand in the disk queue or owed (R145). -/
def State.ShowsDemands (s t : State) : Prop :=
  ∀ r, t.demands.get r = true → s.demands.get r = true ∨ .spinUpDemand r ∈ t.disk.out ∨ .demand r ∈ t.diskOwed

/-- The demands of some reasons are shown. -/
theorem State.ShowsDemands.demanded {s t u : State} {l : List Reason} (h : s.ShowsDemands t) (hd : t.Demanded l u) :
    s.ShowsDemands u := by
  intro r hr
  obtain ⟨placed, owed, hsplit, -, -, -, hout, howed, -⟩ := hd.records
  rw [hd.flags] at hr
  by_cases hget : t.demands.get r = true
  · rcases h r hget with k | k | k
    · exact .inl k
    · exact .inr (.inl (by rw [hout]; exact List.mem_append_left _ k))
    · refine .inr (.inr ?_)
      rw [howed]
      refine List.mem_append_left _ (List.mem_filter.2 ⟨k, ?_⟩)
      simp only [State.staysOwed, List.all_eq_true, Bool.or_eq_true]
      intro x hx
      by_cases hxr : x = r
      · subst hxr
        rw [if_pos hx, Bool.and_eq_true] at hr
        exact .inr hr.1
      · exact .inl (by simpa using fun k : r = x => hxr k.symm)
  · by_cases hl : r ∈ l
    · rw [if_pos hl] at hr
      have hmem : r ∈ placed ++ owed := by
        rw [hsplit]
        refine List.mem_filter.2 ⟨hl, ?_⟩
        simp only [Bool.not_eq_true] at hget
        simpa [State.demandsNow, hget] using hr
      rcases List.mem_append.1 hmem with k | k
      · refine .inr (.inl ?_)
        rw [hout]
        exact List.mem_append_right _ (List.mem_map.2 ⟨r, k, rfl⟩)
      · refine .inr (.inr ?_)
        rw [howed]
        exact List.mem_append_right _ (List.mem_map.2 ⟨r, k, rfl⟩)
    · rw [if_neg hl] at hr
      exact absurd hr hget

/-- What a later state shows of its grants and demands: an entry pending at first and now owned with its notice given
has that notice in its port's queue (R87), and a flag that has become yes its demand. -/
structure State.Heralds (s t : State) : Prop where
  grants : ∀ (i : Fin 8) x q, s.claims[i] = some x → x.standing = .pending q →
    ∀ y p, t.claims[i] = some y → y.standing = .owned p false → .claimGranted y.extent ∈ (t.link p).out
  flags : s.ShowsDemands t

namespace State.Heralds

variable {s t u : State}

/-- Entries that stay pending and flags that do not rise have nothing to show. -/
theorem of (claims : ∀ (i : Fin 8) x q, s.claims[i] = some x → x.standing = .pending q →
    ∀ y, t.claims[i] = some y → ∃ p, y.standing = .pending p)
    (flags : ∀ r, t.demands.get r = true → s.demands.get r = true) : s.Heralds t where
  grants i x q hx hq y p hy hp := by
    obtain ⟨w, hw⟩ := claims i x q hx hq y hy
    rw [hw] at hp
    cases hp
  flags r hr := .inl (flags r hr)

theorem of_same (claims : t.claims = s.claims) (demands : t.demands = s.demands) : s.Heralds t := by
  refine of (fun i x q hx hq y hy => ?_) fun r hr => by rwa [demands] at hr
  rw [claims, hx] at hy
  cases hy
  exact ⟨q, hq⟩

theorem refl (s : State) : s.Heralds s := of_same rfl rfl

/-- What is shown stays shown while the table and the flags stand and records only join. -/
theorem mono (h : s.Heralds t) (claims : u.claims = t.claims) (demands : u.demands = t.demands)
    (out : ∀ p, (t.link p).out ⊆ (u.link p).out)
    (owed : ∀ r, .demand r ∈ t.diskOwed → .spinUpDemand r ∈ u.disk.out ∨ .demand r ∈ u.diskOwed) : s.Heralds u where
  grants i x q hx hq y p hy hp := out p (h.grants i x q hx hq y p (claims ▸ hy) hp)
  flags r hr := by
    rcases h.flags r (demands ▸ hr) with k | k | k
    · exact .inl k
    · exact .inr (.inl (out .disk k))
    · exact .inr (owed r k)

theorem works {strict : Prop} (h : s.Heralds t) (hw : t.Works strict u) : s.Heralds u :=
  h.mono hw.claims hw.demands (fun p => (hw.out p).subset) fun _ hr => .inr (hw.owed.subset hr)

/-- The demands of some reasons, at the end of an event or in a SET's. -/
theorem demanded {l : List Reason} (h : s.Heralds t) (hd : t.Demanded l u) (claims : u.claims = t.claims)
    (out : ∀ p, (t.link p).out ⊆ (u.link p).out) : s.Heralds u where
  grants i x q hx hq y p hy hp := out p (h.grants i x q hx hq y p (claims ▸ hy) hp)
  flags := h.flags.demanded hd

theorem demandFor (h : s.Heralds t) (r : Reason) : s.Heralds (t.demandFor r) :=
  h.demanded (State.demandFor_demanded r t) (State.demandFor_claims r t)
    fun p => ((State.demandFor_keeps r t).link p).out.subset

theorem demandAll (h : s.Heralds t) : s.Heralds t.demandAll := ((h.demandFor _).demandFor _).demandFor _

theorem finish (h : s.Heralds t) : s.Heralds t.finish := by
  by_cases hv : t.service = .serving
  case neg => rwa [State.finish_unserved hv]
  have hk := State.finish_keeps t
  refine ⟨fun i x q hx hq y p hy hp => ?_, fun r hr => ?_⟩
  · obtain ⟨hnone, hsome⟩ := State.finish_grants hv i
    cases hz : t.claims[i] with
    | none => rw [hnone hz] at hy; cases hy
    | some z =>
      obtain ⟨howned, hpending⟩ := hsome z hz
      cases hs : z.standing with
      | owned w o =>
        rw [howned w o hs] at hy
        cases hy
        exact (hk.link p).out.subset (h.grants i x q hx hq _ p hz hp)
      | pending w =>
        cases hw : t.finish.quiescent w z.extent with
        | false =>
          rw [(hpending w hs).1 hw] at hy
          cases hy
          cases hp
        | true =>
          rcases (hpending w hs).2 hw with ⟨k, kout⟩ | ⟨k, -⟩
          · rw [k] at hy
            cases hy
            cases hp
            exact kout
          · rw [k] at hy
            cases hy
            cases hp
  · refine State.ShowsDemands.demanded (t := t.concluding) (fun q hq => ?_) (State.finish_demanded hv) r hr
    rw [State.concluding_demands] at hq
    rw [State.concluding_disk_out, State.concluding_diskOwed]
    exact (h.flags q hq).imp_right (Or.imp_left fun k => ((State.grantAll_keeps t).link .disk).out.subset k)

end State.Heralds

/-! ### The end of a drain that can be read -/

/-- Whether a record is stuck and a record of its extent was marked at first. -/
def State.stuckMarked (s : State) (r : Resident) : Bool :=
  r.stuck && s.records.any fun x => x.extent == r.extent && x.drainMark

/-- DRAINED with a later state's stuck count, placed or owed (R151). -/
def State.ShowsDrained (s t : State) : Prop :=
  .drained (t.records.countP s.stuckMarked) ∈ t.front.out ∨ t.drainedOwed = some (t.records.countP s.stuckMarked)

/-- A record that is stuck later has the mark of a record of its extent at first. -/
def State.MarksStand (s t : State) : Prop :=
  ∀ r ∈ t.records, r.stuck = true → ∃ y ∈ s.records, y.extent = r.extent ∧ y.drainMark = r.drainMark

/-- A drain goes on, its stuck records marked as they were, or it has ended and its DRAINED can be read. -/
def State.Drains (s t : State) : Prop :=
  s.drain = true → (t.drain = true ∧ s.MarksStand t) ∨ (t.drain = false ∧ s.ShowsDrained t)

/-- Where no two records are of one extent, the stuck records whose extents were marked are those marked now. -/
theorem State.MarksStand.stuckCount {s t : State} (h : s.MarksStand t) (hn : (s.records.map (·.extent)).Nodup) :
    (t.records.map Resident.unmarked).countP s.stuckMarked = t.stuckCount := by
  rw [List.countP_map, State.stuckCount]
  refine List.countP_congr fun r hr => ?_
  show s.stuckMarked r.unmarked = true ↔ _
  simp only [State.stuckMarked, Resident.unmarked, Bool.and_eq_true, List.any_eq_true, beq_iff_eq]
  constructor
  · rintro ⟨hs, x, hx, hxe, hxm⟩
    obtain ⟨y, hy, hye, hym⟩ := h r hr hs
    have : some x = some y := by
      rw [← State.residentOf_of_mem hn hx, ← State.residentOf_of_mem hn hy, hxe, hye]
    cases this
    exact ⟨hym ▸ hxm, hs⟩
  · rintro ⟨hm, hs⟩
    obtain ⟨y, hy, hye, hym⟩ := h r hr hs
    exact ⟨hs, y, hy, hye, hym.trans hm⟩

theorem State.Drains.refl (s : State) : s.Drains s :=
  fun h => .inl ⟨h, fun r hr _ => ⟨r, hr, rfl, rfl⟩⟩

theorem State.Drains.of_idle {s t : State} (h : s.drain = false) : s.Drains t := fun k => by rw [h] at k; cases k

/-- The end of an event ends a drain with its DRAINED. -/
theorem State.Drains.finish {s t : State} (hn : (s.records.map (·.extent)).Nodup) (h : s.Drains t) :
    s.Drains t.finish := by
  intro hd
  by_cases hv : t.service = .serving
  case neg =>
    rw [State.finish_unserved hv]
    exact h hd
  rcases h hd with ⟨htd, hm⟩ | ⟨htd, hshown⟩
  · cases hfd : t.finish.drain with
    | true =>
      refine .inl ⟨rfl, ?_⟩
      unfold State.MarksStand
      rw [(State.finish_drain_stands hv (.inr hfd)).2.1]
      exact hm
    | false =>
      obtain ⟨hrec, howed, hout⟩ := State.finish_drain_ended hv htd hfd
      refine .inr ⟨rfl, ?_⟩
      unfold State.ShowsDrained
      rw [hrec, hm.stuckCount hn]
      by_cases hr : (t.grantAll.link .front).out.length < 16
      · refine .inl (show _ ∈ (t.finish.link .front).out from ?_)
        rw [hout, if_pos hr]
        simp
      · exact .inr (by rw [howed, if_neg hr])
  · obtain ⟨howed, hrec, -⟩ := State.finish_drain_stands hv (.inl htd)
    refine .inr ⟨by rw [State.finish_drain hv, htd]; rfl, ?_⟩
    unfold State.ShowsDrained
    rw [howed, hrec]
    exact hshown.imp_left fun k => (State.finish_keeps t).front.out.subset k

/-- What comes strictly before the end of an event leaves a drain going on. -/
theorem State.Works.drains {s t : State} (h : s.Works True t) : s.Drains t := by
  refine fun hd => .inl ⟨h.drain.trans hd, fun r hr hs => ?_⟩
  obtain ⟨y, hy, hye, -, hym⟩ := (h.records r hr).stuck trivial hs
  exact ⟨y, hy, hye, hym⟩

end Sys2Proof.Machine
end

section
/-! PROOFS. What each command carries to its end, one lemma per command: the commands that change nothing that the end
of an event looks at, and those that end with `State.finish`. -/

set_option Elab.async false

namespace Sys2Proof.Machine

/-! ### The relation -/

/-- What a command keeps carried out, what it leaves to be read, and how it treats a drain. -/
structure State.Carries (c : Instr) (s t : State) : Prop where
  concluded : s.SettingsInRange → s.RecordsLawful → s.ListsFiled → s.Concluded → t.Concluded
  heralds : s.Heralds t
  drains : s.RecordsLawful → s.MovesMatched → s.Concluded → c ≠ .powerOn → c ≠ .restart → c ≠ .frontLinkReset →
    s.Drains t

theorem State.Carries.refl (c : Instr) (s : State) : s.Carries c s :=
  ⟨fun _ _ _ h => h, .refl s, fun _ _ _ _ _ _ => .refl s⟩

/-- The links and the pointer are no part of what a command starts from. -/
theorem State.Carries.of_linked {c : Instr} {s t : State} {a b d : Link}
    (h : State.Carries c { s with front := a, flash := b, disk := d } t) : s.Carries c t where
  concluded h1 h2 h3 h4 := h.concluded ⟨h1.settings, h1.sizes, h1.sized, h1.windows⟩
    ⟨h2.records, h2.watch, h2.epoch, h2.extents, h2.dirtyList⟩
      ⟨h3.extents, h3.dirtyOnce, h3.dirty, h3.cleanOnce, h3.clean⟩
    ⟨h4.granted, h4.drain, h4.marks, h4.urgent, h4.calm, h4.demands, h4.unserved⟩
  heralds := ⟨h.heralds.grants, h.heralds.flags⟩
  drains h1 h2 h3 := h.drains ⟨h1.records, h1.watch, h1.epoch, h1.extents, h1.dirtyList⟩
    ⟨h2.lost, h2.fills, h2.flushes, h2.apart⟩
    ⟨h3.granted, h3.drain, h3.marks, h3.urgent, h3.calm, h3.demands, h3.unserved⟩

theorem State.Carries.advance {c : Instr} {s t : State} (p : Port) (h : s.Carries c t) : s.Carries c (t.advance p) where
  concluded h1 h2 h3 h4 := by
    obtain ⟨k1, k2, k3, k4, k5, k6, k7⟩ := h.concluded h1 h2 h3 h4
    exact ⟨k1, k2, k3, k4, k5, k6, k7⟩
  heralds := h.heralds.mono rfl rfl (fun _ => List.Subset.refl _) fun _ k => .inr k
  drains := h.drains

/-- A request carries what its block carries. -/
theorem takeRequest_carries {c d : Instr} {p : Port} {act : List Word → State → State} {s t : State}
    (h : takeRequest p d act s = .next t)
    (hact : ∀ (ws : List Word) (u : State), u.Carries c (act ws u)) : s.Carries c t := by
  cases ho : s.offered p d with
  | none =>
    rw [takeRequest_waits act ho] at h
    cases h
    exact .refl c s
  | some ws =>
    rw [takeRequest_offered act ho] at h
    cases h
    refine State.Carries.advance p ?_
    have := hact ws (s.popFifo p)
    cases p <;> exact this.of_linked

/-! ### Ends of events -/

/-- An event that ends carries everything, where a drain goes on until its end. -/
theorem State.Works.carries {c : Instr} {s u : State} (h : s.Works False u)
    (hd : s.RecordsLawful → s.MovesMatched → s.Drains u) : s.Carries c u.finish where
  concluded h1 _ _ h4 := (h.concludable h4.concludable).finish (h.watermarksApart h1.watermarksApart)
  heralds := ((State.Heralds.refl s).works h).finish
  drains h1 h2 _ _ _ _ := (hd h1 h2).finish h1.extents

/-- An event that ends and charges no failure carries everything. -/
theorem State.Works.carries_plain {c : Instr} {s u : State} (h : ∀ strict, s.Works strict u) : s.Carries c u.finish :=
  (h False).carries fun _ _ => (h True).drains

/-! ### Commands that the end of an event does not see -/

/-- What the end of an event looks at of a record. -/
def Resident.flags (r : Resident) : Nat × Bool × Bool := (r.extent, r.drainMark, r.stuck)

/-- `t` agrees with `s` in what the end of an event looks at, the Promotion Queue apart. -/
structure State.Alike (s t : State) : Prop where
  serving : t.service = .serving ↔ s.service = .serving
  claims : t.claims = s.claims
  quiescent : ∀ p e, t.quiescent p e = s.quiescent p e
  drain : t.drain = s.drain
  records : t.records.map Resident.flags = s.records.map Resident.flags
  urgent : t.urgent = s.urgent
  dirty : t.dirtyList.length = s.dirtyList.length
  high : s.service = .serving → t.dirtyHigh = s.dirtyHigh
  low : s.service = .serving → t.dirtyLow = s.dirtyLow
  spindle : t.spindle = s.spindle
  demands : t.demands = s.demands

namespace State.Alike

variable {s t u : State}

theorem trans (h : s.Alike t) (k : t.Alike u) : s.Alike u where
  serving := k.serving.trans h.serving
  claims := k.claims.trans h.claims
  quiescent p e := (k.quiescent p e).trans (h.quiescent p e)
  drain := k.drain.trans h.drain
  records := k.records.trans h.records
  urgent := k.urgent.trans h.urgent
  dirty := k.dirty.trans h.dirty
  high hv := (k.high (h.serving.2 hv)).trans (h.high hv)
  low hv := (k.low (h.serving.2 hv)).trans (h.low hv)
  spindle := k.spindle.trans h.spindle
  demands := k.demands.trans h.demands

theorem refl (s : State) : s.Alike s :=
  ⟨.rfl, rfl, fun _ _ => rfl, rfl, rfl, rfl, rfl, fun _ => rfl, fun _ => rfl, rfl, rfl⟩

theorem place (p : Port) (r : Outbound) (s : State) : s.Alike (s.place p r) := by
  refine ⟨by simp, by simp,
    fun _ _ => State.quiescent_congr (by simp) (by simp) _ _, by simp, by simp, by simp, by simp,
    fun _ => ?_, fun _ => ?_, by simp, by simp⟩
  · simp [State.dirtyHigh]
  · simp [State.dirtyLow]

theorem mem_records (h : s.Alike t) {r : Resident} (hr : r ∈ t.records) : ∃ y ∈ s.records, y.flags = r.flags := by
  have : r.flags ∈ s.records.map Resident.flags := h.records ▸ List.mem_map.2 ⟨r, hr, rfl⟩
  exact List.mem_map.1 this

theorem mem_records' (h : s.Alike t) {r : Resident} (hr : r ∈ s.records) : ∃ y ∈ t.records, y.flags = r.flags := by
  have : r.flags ∈ t.records.map Resident.flags := h.records ▸ List.mem_map.2 ⟨r, hr, rfl⟩
  exact List.mem_map.1 this

/-- The conditions of the demands but FILL's are those of urgent mode and the drain. -/
theorem holds (h : s.Alike t) {r : Reason} (hr : r ≠ .fill) : t.demandHolds r = s.demandHolds r := by
  cases r with
  | dirtyCeiling => exact h.urgent
  | drain => exact h.drain
  | fill => exact absurd rfl hr

theorem drains (h : s.Alike t) : s.Drains t := by
  refine fun hd => .inl ⟨h.drain.trans hd, fun r hr _ => ?_⟩
  obtain ⟨y, hy, hyr⟩ := h.mem_records hr
  exact ⟨y, hy, congrArg (·.1) hyr, congrArg (·.2.1) hyr⟩

theorem heralds (h : s.Alike t) : s.Heralds t := .of_same h.claims h.demands

end State.Alike

/-- `State.Concluded`, with nothing said of the demands of some reasons. -/
structure State.ConcludedBut (l : List Reason) (s : State) : Prop where
  granted : ∀ (i : Fin 8) c p, s.claims[i] = some c → c.standing = .pending p → s.quiescent p c.extent = false
  drain : s.drain = true → ∃ r ∈ s.records, r.drainMark = true ∧ r.stuck = false
  marks : s.drain = false → ∀ r ∈ s.records, r.drainMark = false
  urgent : s.service = .serving → s.urgent = true → s.dirtyLow < s.dirtyList.length
  calm : s.service = .serving → s.urgent = false → s.dirtyList.length < s.dirtyHigh
  demands : s.service = .serving → ∀ r ∉ l,
    (s.demands.get r = true → s.demandHolds r = true) ∧
    (s.demandHolds r = true → s.spindle ≠ .up → s.demands.get r = true)
  unserved : s.service ≠ .serving →
    (∀ i : Fin 8, s.claims[i] = none) ∧ s.drain = false ∧ s.urgent = false ∧ ∀ r, s.demands.get r = false

theorem State.Concluded.but {s : State} (h : s.Concluded) (l : List Reason) : s.ConcludedBut l :=
  ⟨h.granted, h.drain, h.marks, h.urgent, h.calm, fun hv r _ => h.demands hv r, h.unserved⟩

theorem State.ConcludedBut.concluded {s : State} (h : s.ConcludedBut []) : s.Concluded :=
  ⟨h.granted, h.drain, h.marks, h.urgent, h.calm, fun hv r => h.demands hv r List.not_mem_nil, h.unserved⟩

theorem State.ConcludedBut.unserved_concluded {s : State} {l : List Reason} (h : s.ConcludedBut l)
    (hv : s.service ≠ .serving) : s.Concluded :=
  ⟨h.granted, h.drain, h.marks, h.urgent, h.calm, fun k => absurd k hv, h.unserved⟩

/-- What is carried out stays so in a state that agrees, for the demands whose conditions stand. -/
theorem State.ConcludedBut.alike {l l' : List Reason} {s t : State} (h : s.ConcludedBut l) (k : s.Alike t)
    (hl : ∀ r ∉ l', r ∉ l ∧ t.demandHolds r = s.demandHolds r) : t.ConcludedBut l' where
  granted i c p hc hp := by
    rw [k.quiescent]
    exact h.granted i c p (k.claims ▸ hc) hp
  drain hd := by
    obtain ⟨r, hr, hm, hs⟩ := h.drain (k.drain ▸ hd)
    obtain ⟨y, hy, hyr⟩ := k.mem_records' hr
    exact ⟨y, hy, (congrArg (·.2.1) hyr).trans hm, (congrArg (·.2.2) hyr).trans hs⟩
  marks hd r hr := by
    obtain ⟨y, hy, hyr⟩ := k.mem_records hr
    exact (congrArg (·.2.1) hyr).symm.trans (h.marks (k.drain ▸ hd) y hy)
  urgent hv hu := by
    have hv' := k.serving.1 hv
    rw [k.dirty, k.low hv']
    exact h.urgent hv' (k.urgent ▸ hu)
  calm hv hu := by
    have hv' := k.serving.1 hv
    rw [k.dirty, k.high hv']
    exact h.calm hv' (k.urgent ▸ hu)
  demands hv r hr := by
    obtain ⟨h1, h2⟩ := hl r hr
    rw [h2, k.demands, k.spindle]
    exact h.demands (k.serving.1 hv) r h1
  unserved hv := by
    rw [k.claims, k.drain, k.urgent, k.demands]
    exact h.unserved fun j => hv (k.serving.2 j)

theorem State.Concluded.alike {s t : State} (h : s.Concluded) (k : s.Alike t)
    (hf : t.demandHolds .fill = s.demandHolds .fill) : t.Concluded := by
  refine ((h.but []).alike k fun r _ => ⟨List.not_mem_nil, ?_⟩).concluded
  by_cases hr : r = .fill
  · rw [hr, hf]
  · exact k.holds hr

/-- What is carried out, the FILL demand apart. -/
theorem State.Concluded.alike_fill {s t : State} (h : s.Concluded) (k : s.Alike t) : t.ConcludedBut [.fill] :=
  (h.but []).alike k fun r hr => ⟨List.not_mem_nil, k.holds (by simpa using hr)⟩

/-- A command that the end of an event does not see carries everything. -/
theorem State.Alike.carries {c : Instr} {s t : State} (h : s.Alike t)
    (hf : t.demandHolds .fill = s.demandHolds .fill) : s.Carries c t :=
  ⟨fun _ _ _ k => k.alike h hf, h.heralds, fun _ _ _ _ _ _ => h.drains⟩

/-! ### Demands reconsidered -/

/-- One reason's demand changes nothing else that the end of an event looks at. -/
theorem State.demandFor_stands (r : Reason) (s : State) :
    ∃ f d q n, s.demandFor r = { s with demands := f, disk := d, diskOwed := q, stats := n } := by
  obtain ⟨placed, owed, -, -, -, -, he⟩ := State.demandFor_eq r s
  exact ⟨_, _, _, _, he⟩

theorem State.demandsOf_stands (l : List Reason) (s : State) :
    ∃ f d q n, l.foldl (fun t r => t.demandFor r) s =
      { s with demands := f, disk := d, diskOwed := q, stats := n } := by
  induction l generalizing s with
  | nil => exact ⟨_, _, _, _, rfl⟩
  | cons r l ih =>
    obtain ⟨f, d, q, n, he⟩ := State.demandFor_stands r s
    obtain ⟨f', d', q', n', he'⟩ := ih (s.demandFor r)
    exact ⟨f', d', q', n', by rw [List.foldl_cons, he', he]⟩

/-- The demands of the reasons left open carry out what is carried out but for them. -/
theorem State.ConcludedBut.demanded {l : List Reason} {s : State} (h : s.ConcludedBut l) (hv : s.service = .serving)
    (hn : l.Nodup) : (l.foldl (fun t r => t.demandFor r) s).Concluded := by
  have hd := State.demanded_foldl hn s
  obtain ⟨f, d, q, n, he⟩ := State.demandsOf_stands l s
  rw [he] at hd ⊢
  refine ⟨h.granted, h.drain, h.marks, h.urgent, h.calm, fun _ r => ?_, fun k => absurd hv k⟩
  by_cases hr : r ∈ l
  · have hf := hd.flags r
    rw [if_pos hr] at hf
    rw [hf, hd.holds]
    constructor
    · intro k
      exact (Bool.and_eq_true _ _ ▸ k : _ ∧ _).1
    · intro k1 k2
      have k2' : s.spindle ≠ .up := k2
      simp [k1, k2']
  · have hf := hd.flags r
    rw [if_neg hr] at hf
    rw [hf, hd.holds]
    exact h.demands hv r hr

theorem State.ConcludedBut.demandFor {r : Reason} {s : State} (h : s.ConcludedBut [r]) (hv : s.service = .serving) :
    (s.demandFor r).Concluded :=
  h.demanded hv (by simp)

theorem State.ConcludedBut.demandAll {s : State} (h : s.ConcludedBut [.dirtyCeiling, .drain, .fill])
    (hv : s.service = .serving) : s.demandAll.Concluded :=
  h.demanded hv (by decide)

theorem State.Heralds.retestFill {s t : State} (h : s.Heralds t) : s.Heralds t.retestFill := by
  unfold State.retestFill
  split
  · exact h.demandFor _
  · exact h

theorem State.Drains.demandFor {s t : State} (h : s.Drains t) (r : Reason) : s.Drains (t.demandFor r) := by
  intro hd
  have hrec : (t.demandFor r).records = t.records := by
    obtain ⟨f, d, q, n, he⟩ := State.demandFor_stands r t
    rw [he]
  obtain ⟨hdrain, howed⟩ := State.demandFor_drain r t
  rcases h hd with ⟨k, km⟩ | ⟨k, ks⟩
  · refine .inl ⟨hdrain.trans k, ?_⟩
    unfold State.MarksStand
    rwa [hrec]
  · refine .inr ⟨hdrain.trans k, ?_⟩
    unfold State.ShowsDrained
    rw [hrec, howed]
    exact ks.imp_left fun j => (State.demandFor_keeps r t).front.out.subset j

theorem State.Drains.retestFill {s t : State} (h : s.Drains t) : s.Drains t.retestFill := by
  unfold State.retestFill
  split
  · exact h.demandFor _
  · exact h

/-- The FILL demand tested again carries out what is carried out but for it. -/
theorem State.ConcludedBut.retestFill {s : State} (h : s.ConcludedBut [.fill]) : s.retestFill.Concluded := by
  unfold State.retestFill
  by_cases hv : s.service = .serving
  · rw [if_pos (by simp [State.isServing, hv])]
    exact h.demandFor hv
  · rw [if_neg (by simpa [State.isServing] using hv)]
    exact h.unserved_concluded hv

/-- A command after which the FILL demand is tested again. -/
theorem State.Alike.carries_retestFill {c : Instr} {s t : State} (h : s.Alike t) : s.Carries c t.retestFill :=
  ⟨fun _ _ _ k => (k.alike_fill h).retestFill, h.heralds.retestFill, fun _ _ _ _ _ _ => h.drains.retestFill⟩

end Sys2Proof.Machine
end

section
/-! PROOFS. What the routed commands, the reports, the timeouts, the starts and the link resets carry to their ends. -/

set_option Elab.async false

namespace Sys2Proof.Machine

section
variable {s t : State}

theorem State.place_fill (p : Port) (r : Outbound) (s : State) :
    (s.place p r).demandHolds .fill = s.demandHolds .fill := by
  simp [State.demandHolds]

theorem State.place_carries (c : Instr) (p : Port) (r : Outbound) (s : State) : s.Carries c (s.place p r) :=
  (State.Alike.place p r s).carries (State.place_fill p r s)

theorem State.answer_carries (c : Instr) (p : Port) (k : Nat) (code : Code) (ws vs : List Word) (s : State) :
    s.Carries c (s.answer p k code ws vs) :=
  State.place_carries c p _ s

/-- What the taking of a report changes, the end of an event does not see. -/
theorem State.Alike.of_body (h : t.body = s.body) : s.Alike t where
  serving := by rw [show t.service = s.service from (congrArg State.service h : t.body.service = _)]
  claims := (congrArg State.claims h : t.body.claims = _)
  quiescent := State.quiescent_congr (State.body_contexts h) (State.body_routes h)
  drain := (congrArg State.drain h : t.body.drain = _)
  records := by rw [State.body_records h]
  urgent := (congrArg State.urgent h : t.body.urgent = _)
  dirty := by rw [State.body_dirtyList h]
  high _ := (congrArg State.dirtyHigh h : t.body.dirtyHigh = _)
  low _ := (congrArg State.dirtyLow h : t.body.dirtyLow = _)
  spindle := (congrArg State.spindle h : t.body.spindle = _)
  demands := (congrArg State.demands h : t.body.demands = _)

theorem State.carries_of_body {c : Instr} (h : t.body = s.body) : s.Carries c t :=
  (State.Alike.of_body h).carries (congrArg (State.demandHolds · .fill) h : t.body.demandHolds .fill = _)

/-! ### Routed commands -/

/-- A routed route is an event: its parts 1 to 6, and its end (R53). -/
theorem State.routed_ends (q : Parked) (s : State) : ∃ u, s.routed q = u.finish ∧ ∀ strict, s.Works strict u :=
  ⟨((s.examineRoute q).decideRoute q).2.recordRoute q ((s.examineRoute q).decideRoute q).1, rfl, fun _ =>
    ((State.examineRoute_works q s).trans (State.decideSpans_works _ _ _ _)).trans (State.recordRoute_works _ _ _)⟩

theorem exec_route_carries {tag kind lba count : Nat} (h : exec (.route tag kind lba count) s = .next t) :
    s.Carries (.route tag kind lba count) t := by
  refine takeRequest_carries h fun ws u => ?_
  unfold State.takeRoute
  split
  · exact State.place_carries _ _ _ u
  · split
    · exact State.place_carries _ _ _ u
    · rename_i q _
      split
      · exact State.place_carries _ _ _ u
      · split
        · split
          · exact State.Alike.carries
              ⟨.rfl, rfl, fun _ _ => rfl, rfl, rfl, rfl, rfl, fun _ => rfl, fun _ => rfl, rfl, rfl⟩ rfl
          · exact State.place_carries _ _ _ u
        · obtain ⟨v, hv, hw⟩ := State.routed_ends q u
          rw [hv]
          exact State.Works.carries_plain hw

theorem exec_parkedRouteReadmit_carries (h : exec .parkedRouteReadmit s = .next t) :
    s.Carries .parkedRouteReadmit t := by
  simp only [exec, execParkedRouteReadmit] at h
  split at h
  · rename_i q _
    cases h
    obtain ⟨v, hv, hw⟩ := State.routed_ends q { s with parked := s.parked.erase q }
    rw [hv]
    exact .advance .front (State.Works.carries_plain fun strict => State.Works.trans .of (hw strict))
  · cases h
    exact .refl _ _

theorem exec_done_carries {tag outcome : Nat} (h : exec (.done tag outcome) s = .next t) :
    s.Carries (.done tag outcome) t := by
  refine takeRequest_carries h fun ws u => ?_
  unfold State.takeDone
  split
  · exact State.place_carries _ _ _ u
  · split
    · exact State.place_carries _ _ _ u
    · split
      · exact State.place_carries _ _ _ u
      · rename_i e _
        refine State.Works.carries_plain fun strict => (State.place_works .front (.doneAnswer .ok tag) u).trans ?_
        generalize u.place .front (.doneAnswer .ok tag) = v
        have hf : v.Works strict (if (outcome == 1) && e.kind == .write then v.failEntry e else v) := by
          split
          · exact State.failEntry_works _ v
          · exact .refl v
        generalize (if (outcome == 1) && e.kind == .write then v.failEntry e else v) = w at hf
        have hr : v.Works strict (State.retireEmpties e.extents
            { w with routes := w.routes.filter (fun x => x.tag ≠ e.tag) }) :=
          (hf.trans .of).trans (State.retireEmpties_works _ _)
        split
        · exact hr.trans (State.armAdvice_works _)
        · exact hr

/-! ### Reports, timeouts and starts -/

/-- The record of a FLUSH in flight is not stuck (R123, R138). -/
theorem State.flushFree_of_matched (hl : s.RecordsLawful) (hm : s.MovesMatched) (c : Fin 4) : s.FlushFree True c := by
  intro m hc _ r hr
  obtain ⟨x, hx, -, hstate⟩ := hm.flushes c m hc
  rw [hr] at hx
  cases hx
  exact (hl.records r (State.residentOf_mem hr).1).flushing hstate

theorem State.flushFree_false (c : Fin 4) : s.FlushFree False c := fun _ _ k => k.elim

theorem State.FlushFree.congr {strict : Prop} {c : Fin 4} (h : s.FlushFree strict c) (hc : t.contexts = s.contexts)
    (hr : t.records = s.records) : t.FlushFree strict c := by
  intro m hm hs r hres
  exact h m (hc ▸ hm) hs r ((State.residentOf_congr hr m.extent).symm.trans hres)

theorem State.MarksStand.works {u : State} (h : s.MarksStand t) (hw : t.Works True u) : s.MarksStand u := by
  intro r hr hs
  obtain ⟨y, hy, hye, hys, hym⟩ := (hw.records r hr).stuck trivial hs
  obtain ⟨z, hz, hze, hzm⟩ := h y hy hys
  exact ⟨z, hz, hze.trans hye, hzm.trans hym⟩

theorem State.MarksStand.refl (s : State) : s.MarksStand s := fun r hr _ => ⟨r, hr, rfl, rfl⟩

/-- A charged flush failure leaves every mark. -/
theorem State.chargeFlush_marksStand (c : Fin 4) (m : FlushMove) (s : State) : s.MarksStand (s.chargeFlush c m) := by
  simp only [State.chargeFlush]
  split
  · exact State.MarksStand.refl s
  · rename_i r hr
    split
    · exact (State.MarksStand.refl s).works (State.Works.trans (t := s.setContext c .idle) .of
        (State.endRecord_works _ (State.accounts_of_residentOf hr)))
    · rename_i hd
      have hst : s.MarksStand ((s.setContext c .idle).store .tail r.charged) := by
        intro x hx _
        rcases State.mem_store hx with rfl | ⟨hx, -⟩
        · refine ⟨r, (State.residentOf_mem hr).1, by simp [Resident.charged], ?_⟩
          rw [Resident.settled_of_dirty (r := r.charged) hd]
          rfl
        · exact ⟨x, hx, rfl, rfl⟩
      split
      · exact (hst.works .of).works (State.noticeStuck_works _ _)
      · exact hst.works .of

/-- What a report does leaves a drain going on. -/
theorem State.actOnReport_marksStand {c : Fin 4} {n : Nat} (h : s.FlushFree True c) :
    s.MarksStand (s.actOnReport c n) := by
  by_cases hc : ∃ m, s.contexts[c] = .flush m ∧ m.phase = .writing ∧ n = 1
  · obtain ⟨m, hm, hp, rfl⟩ := hc
    have hact : s.actOnReport c 1 = s.chargeFlush c m := by simp only [State.actOnReport, hm, hp]
    rw [hact]
    exact State.chargeFlush_marksStand c m s
  · exact (State.MarksStand.refl s).works (State.actOnReport_works h fun _ m hm hp hn => hc ⟨m, hm, hp, hn⟩)

/-- What a timeout does leaves a drain going on. -/
theorem State.actOnTimeout_marksStand (c : Fin 4) (s : State) : s.MarksStand (s.actOnTimeout c) := by
  by_cases hc : ∃ m, s.contexts[c] = .flush m ∧ m.phase = .writing
  · obtain ⟨m, hm, hp⟩ := hc
    have hact : s.actOnTimeout c =
        State.chargeFlush c m { s with stats := { s.stats with orderTimeouts := addSat s.stats.orderTimeouts 1 } } := by
      simp only [State.actOnTimeout, hm, hp]
    rw [hact]
    exact State.chargeFlush_marksStand c m _
  · exact (State.MarksStand.refl s).works (State.actOnTimeout_works fun _ m hm hp => hc ⟨m, hm, hp⟩)

theorem State.Works.drains_of {u : State} (h : s.Works False u) (hm : s.MarksStand u) : s.Drains u :=
  fun hd => .inl ⟨h.drain.trans hd, hm⟩

theorem State.fencePart_works {strict : Prop} (p : Port) (ticket : Nat) (s : State) :
    s.Works strict (s.fencePart p ticket) := by
  unfold State.fencePart
  split
  · exact State.liftFenceOf_works ticket s
  · exact .refl s

theorem State.reportArms_works {strict : Prop} (p : Port) (s : State) : s.Works strict (s.reportArms p) := by
  unfold State.reportArms
  split
  · exact State.armAdvice_works s
  · exact .refl s

theorem State.fencePart_body (p : Port) (ticket : Nat) (s : State) : (s.fencePart p ticket).body = s.body := by
  unfold State.fencePart
  split
  · exact State.liftFenceOf_body ticket s
  · rfl

theorem State.reportArms_body (p : Port) (s : State) : (s.reportArms p).body = s.body := by
  rw [State.reportArms_eq]
  rfl

theorem exec_report_carries {p : Port} {ticket context status : Nat}
    (h : exec (.report p ticket context status) s = .next t) : s.Carries (.report p ticket context status) t := by
  refine takeRequest_carries h fun ws u => ?_
  unfold State.takeReport
  split
  · exact State.place_carries _ _ _ u
  · split
    · split
      · dsimp only
        split
        · have hbody := (State.reportArms_body p _).trans ((State.fencePart_body p ticket _).trans
            (State.place_body p (.answer 0x0E .ok (word ticket :: ws.tail)) u))
          have hw : u.Works False (((u.answerReport p .ok ticket ws).fencePart p ticket).reportArms p) :=
            ((State.place_works p _ u).trans (State.fencePart_works p ticket (u.answerReport p .ok ticket ws))).trans
              (State.reportArms_works p _)
          have hact := hw.trans (State.actOnReport_works (c := ⟨context, by assumption⟩) (n := status)
            (State.flushFree_false _) fun k => k.elim)
          refine hact.carries fun hl hm => hact.drains_of ?_
          have hfree := (State.flushFree_of_matched hl hm ⟨context, by assumption⟩).congr (State.body_contexts hbody)
            (State.body_records hbody)
          intro r hr hs
          obtain ⟨y, hy, hye, hym⟩ := State.actOnReport_marksStand hfree r hr hs
          exact ⟨y, State.body_records hbody ▸ hy, hye, hym⟩
        · exact State.carries_of_body ((State.fencePart_body _ _ _).trans (State.place_body _ _ u))
      · exact State.place_carries _ _ _ u
    · exact State.place_carries _ _ _ u

theorem exec_orderTimerExpiry_carries {c : Fin 4} (h : exec (.orderTimerExpiry c) s = .next t) :
    s.Carries (.orderTimerExpiry c) t := by
  simp only [exec, execOrderTimerExpiry] at h
  split at h
  · cases h
    exact .refl _ _
  · cases h
    have hw : s.Works False (s.actOnTimeout c) := State.actOnTimeout_works fun k => k.elim
    exact hw.carries fun _ _ => hw.drains_of (State.actOnTimeout_marksStand c s)

theorem exec_startEvent_carries (h : exec .startEvent s = .next t) : s.Carries .startEvent t := by
  simp only [exec, execStartEvent] at h
  split at h
  · cases h
    exact .refl _ _
  · cases h
    exact State.Works.carries_plain fun _ => State.startMove_works _ s

/-! ### Link resets -/

/-- A port that leaves every entry leaves the pending ones pending (R89). -/
theorem State.Heralds.leaveAllClaims {v : State} (p : Port) (hc : v.claims = s.claims)
    (hd : ∀ r, t.demands.get r = true → s.demands.get r = true) (ht : t.claims = (v.leaveAllClaims p).claims) :
    s.Heralds t := by
  refine .of (fun i x q hx hq y hy => ?_) hd
  rw [ht, State.leaveAllClaims_get, hc, hx] at hy
  change x.leave p = some y at hy
  unfold ClaimEntry.leave at hy
  split at hy
  · unfold ClaimEntry.passOn at hy
    split at hy
    · cases hy
    · cases hy
      exact ⟨_, rfl⟩
  · cases hy
    exact ⟨q, hq⟩

theorem State.leaveAllClaims_none {p : Port} {i : Fin 8} (h : s.claims[i] = none) :
    (s.leaveAllClaims p).claims[i] = none := by
  rw [State.leaveAllClaims_get, h]
  rfl

theorem exec_frontLinkReset_carries (h : exec .frontLinkReset s = .next t) : s.Carries .frontLinkReset t := by
  cases h
  have hd (r : Resident) (hr : r ∈ s.records.map Resident.forgetFront) : r.drainMark = false := by
    obtain ⟨x, -, rfl⟩ := List.mem_map.1 hr
    rfl
  unfold State.frontReset
  generalize hv : State.leaveAllClaims .front { s.clearLink .front with
    routes := [], parked := [], drain := false, drainedOwed := none
    records := s.records.map Resident.forgetFront } = v
  have hw := State.retireEmpties_works (strict := False) (v.records.map (·.extent)) v
  refine ⟨fun h1 _ _ h4 => ?_, ?_, fun _ _ _ _ _ k => absurd rfl k⟩
  · refine (hw.concludable ⟨?_, ?_⟩).finish (hw.watermarksApart ?_)
    · rw [← hv]
      exact fun _ r hr => hd r hr
    · intro k
      rw [← hv] at k ⊢
      obtain ⟨k1, -, k3, k4⟩ := h4.unserved k
      exact ⟨fun i => State.leaveAllClaims_none (k1 i), rfl, k3, k4⟩
    · rw [← hv]
      exact h1.watermarksApart
  · refine State.Heralds.finish (State.Heralds.works ?_ hw)
    exact State.Heralds.leaveAllClaims .front (v := { s.clearLink .front with
      routes := [], parked := [], drain := false, drainedOwed := none
      records := s.records.map Resident.forgetFront }) rfl (fun r k => by rw [← hv] at k; exact k) (by rw [← hv])

/-- A link reset that aborts moves and takes its port out of every entry, in SERVING. -/
theorem State.carries_reset {c : Instr} {v w : State} (p : Port) (hv : s.service = .serving) (hw : v.Works True w)
    (hs : v.endings = s.endings) (hr : v.records = s.records) (ht : t.records = w.records)
    (hd : ∀ r, t.demands.get r = true → s.demands.get r = true)
    (he : (t.service, t.sizes, t.claims, t.drain) = (w.service, w.sizes, (w.leaveAllClaims p).claims, w.drain)) :
    s.Carries c t.finish := by
  have hends : w.endings = s.endings := hw.endings.trans hs
  have hservice : t.service = s.service := (congrArg (·.1) he).trans (congrArg (·.1.1) hends)
  have hsizes : t.sizes = s.sizes := (congrArg (·.2.1) he).trans (congrArg (·.1.2) hends)
  have hdrain : t.drain = s.drain := (congrArg (·.2.2.2) he).trans (congrArg (·.2.2.2.1) hends)
  have hacc : ∀ r ∈ t.records, s.Accounts True r := fun r hrec => by
    obtain ⟨k1, k2⟩ := hw.records r (ht ▸ hrec)
    exact ⟨fun j => hr ▸ k1 j, fun i j => hr ▸ k2 i j⟩
  refine ⟨fun h1 _ _ h4 => ?_, ?_, fun h1 _ _ _ _ _ => ?_⟩
  · refine State.Concludable.finish ⟨fun k r hrec => ?_, fun k => absurd (hservice.trans hv) k⟩ fun _ => ?_
    · by_contra hm
      obtain ⟨y, hy, -, hym⟩ := (hacc r hrec).mark (by simpa using hm)
      rw [h4.marks (hdrain ▸ k) y hy] at hym
      cases hym
    · have := h1.watermarksApart hv
      simpa only [State.dirtyLow, State.dirtyHigh, hsizes] using this
  · exact (State.Heralds.leaveAllClaims p (congrArg (·.2.1) hends) hd (congrArg (·.2.2.1) he)).finish
  · refine State.Drains.finish h1.extents fun hsd => .inl ⟨hdrain.trans hsd, fun r hrec hst => ?_⟩
    obtain ⟨y, hy, hye, -, hym⟩ := (hacc r hrec).stuck trivial hst
    exact ⟨y, hy, hye, hym⟩

/-- What is carried out outside SERVING. -/
theorem State.Concludable.concluded (h : s.Concludable) (hv : s.service ≠ .serving) : s.Concluded := by
  have := h.finish fun k => absurd k hv
  rwa [State.finish_unserved hv] at this

/-- A command that leaves no record, claim, drain, urgent mode or demand, outside SERVING. -/
theorem State.carries_of_blank {c : Instr} (hv : t.service ≠ .serving) (hc : ∀ i : Fin 8, t.claims[i] = none)
    (hd : t.drain = false) (hu : t.urgent = false) (hf : ∀ r, t.demands.get r = false) (hr : t.records = [])
    (hs : (s.Concluded → s.drain = false) ∨ c = .powerOn ∨ c = .restart) : s.Carries c t where
  concluded _ _ _ _ :=
    State.Concludable.concluded ⟨fun _ r k => (List.not_mem_nil (hr ▸ k)).elim, fun _ => ⟨hc, hd, hu, hf⟩⟩ hv
  heralds := .of (fun i x q _ _ y hy => by rw [hc] at hy; cases hy) fun r k => by rw [hf] at k; cases k
  drains _ _ h h1 h2 _ := by
    rcases hs with k | k | k
    · exact .of_idle (k h)
    · exact absurd k h1
    · exact absurd k h2

theorem State.reset_claims (i : Fin 8) : State.reset.claims[i] = none := Vector.getElem_replicate _

theorem exec_powerOn_carries (h : exec .powerOn s = .next t) : s.Carries .powerOn t := by
  cases h
  exact State.carries_of_blank nofun State.reset_claims rfl rfl (fun r => by cases r <;> rfl) rfl (.inr (.inl rfl))

theorem exec_restart_carries (h : exec .restart s = .next t) : s.Carries .restart t := by
  simp only [exec, execRestart] at h
  split at h
  · cases h
    exact State.carries_of_blank nofun State.reset_claims rfl rfl (fun r => by cases r <;> rfl) rfl (.inr (.inr rfl))
  · cases h
    exact .refl _ _

theorem State.clearLink_alike (p : Port) (s : State) : s.Alike (s.clearLink p) := by
  refine .of_body ?_
  cases p <;> rfl

theorem exec_flashLinkReset_carries (h : exec .flashLinkReset s = .next t) : s.Carries .flashLinkReset t := by
  cases h
  unfold State.flashReset
  split
  · rename_i hv
    have hw := (State.abortMovesOf_works (strict := True) .flash .freedSilently { s.clearLink .flash with
      flashOwed := [], contexts := s.contexts.map Context.dropMark }).trans (State.liftFences_works _)
    exact State.carries_reset .flash hv hw rfl rfl rfl (fun r k => congrArg (·.get r) hw.demands ▸ k) rfl
  · rename_i hv
    exact State.carries_of_blank nofun State.reset_claims rfl rfl (fun r => by cases r <;> rfl) rfl
      (.inl fun k => (k.unserved (by simp [hv])).2.1)
  · exact (State.clearLink_alike .flash s).carries rfl

theorem exec_diskLinkReset_carries (h : exec .diskLinkReset s = .next t) : s.Carries .diskLinkReset t := by
  cases h
  unfold State.diskReset
  have hunserved (hv : s.service ≠ .serving) : s.Carries .diskLinkReset
      { s.clearLink .disk with spindle := .down, bgWindow := .opened } :=
    ⟨fun _ _ _ k => State.Concludable.concluded ⟨k.marks, k.unserved⟩ hv, .of_same rfl rfl,
      fun _ _ _ _ _ _ => (State.clearLink_alike .disk s).drains⟩
  split
  · rename_i hv
    have hw := State.abortMovesOf_works (strict := True) .disk .freed { s.clearLink .disk with diskOwed := [] }
    exact State.carries_reset .disk hv hw rfl rfl rfl (fun r k => by cases r <;> cases k) rfl
  · rename_i hv
    exact hunserved (by simp [hv])
  · rename_i hv
    exact hunserved (by simp [hv])

end

end Sys2Proof.Machine
end

section
/-! PROOFS. What the settings, the queries, bring-up, the Claim Table's requests, the drain's and the spindle's carry to
their ends. -/

set_option Elab.async false

namespace Sys2Proof.Machine

section
variable {s t : State} {c d : Instr}

/-- An answer after a change that the end of an event does not see. -/
theorem State.Alike.carries_place {u : State} (p : Port) (r : Outbound) (h : s.Alike u)
    (hf : u.demandHolds .fill = s.demandHolds .fill) : s.Carries c (u.place p r) :=
  (h.trans (.place p r u)).carries ((State.place_fill p r u).trans hf)

/-! ### Settings -/

theorem State.withSettings_alike (g : Settings) (s : State) : s.Alike (s.withSettings g) :=
  ⟨.rfl, rfl, fun _ _ => rfl, rfl, rfl, rfl, rfl, fun _ => rfl, fun _ => rfl, rfl, rfl⟩

/-- A SET of a setting that no demand depends on. -/
theorem setting_carries {item v : Nat} {g : Settings → Settings}
    (hg : ∀ x, (g x).profile = x.profile ∧ (g x).fillWake = x.fillWake)
    (h : takeRequest .front d (fun ws u => (u.withSettings (g u.settings)).answerValue item v ws) s = .next t) :
    s.Carries c t := by
  refine takeRequest_carries h fun ws u => (State.withSettings_alike _ u).carries_place _ _ ?_
  obtain ⟨h1, h2⟩ := hg u.settings
  simp only [State.demandHolds, State.withSettings, h1, h2]

theorem exec_setBands_carries {t1 t2 t3 : Nat} (h : exec (.setBands t1 t2 t3) s = .next t) :
    s.Carries (.setBands t1 t2 t3) t := by
  refine takeRequest_carries h fun ws u => ?_
  simp only [State.takeBands]
  split
  · exact (State.withSettings_alike _ u).carries_place _ _ rfl
  · exact State.place_carries _ _ _ u

theorem exec_setWindow_carries {n base mask policy : Nat} {enable : Bool}
    (h : exec (.setWindow n base mask policy enable) s = .next t) :
    s.Carries (.setWindow n base mask policy enable) t := by
  refine takeRequest_carries h fun ws u => ?_
  unfold State.takeWindow
  split
  · exact State.place_carries _ _ _ u
  · split
    · exact State.Alike.carries_place _ _
        ⟨.rfl, rfl, fun _ _ => rfl, rfl, rfl, rfl, rfl, fun _ => rfl, fun _ => rfl, rfl, rfl⟩ rfl
    · exact State.place_carries _ _ _ u

/-- Other sizes with the same watermarks. -/
theorem State.withSizes_alike {z z' : Sizes} (hz : s.sizes = some z) (hh : z'.dirtyHigh = z.dirtyHigh)
    (hl : z'.dirtyLow = z.dirtyLow) : s.Alike (s.withSizes z') :=
  ⟨.rfl, rfl, fun _ _ => rfl, rfl, rfl, rfl, rfl, fun _ => by simp [State.dirtyHigh, State.withSizes, hz, hh],
    fun _ => by simp [State.dirtyLow, State.withSizes, hz, hl], rfl, rfl⟩

theorem exec_setPinLimit_carries {v : Nat} (h : exec (.setPinLimit v) s = .next t) : s.Carries (.setPinLimit v) t := by
  refine takeRequest_carries (show execSetPinLimit v s = _ from h) fun ws u => ?_
  cases hz : u.sizes with
  | none => exact State.place_carries _ _ _ u
  | some z =>
    exact (State.withSizes_alike (z' := { z with pinLimit := clamp 0 z.slots v }) hz rfl rfl).carries_place _ _ rfl

theorem exec_setAbsorbReserve_carries {v : Nat} (h : exec (.setAbsorbReserve v) s = .next t) :
    s.Carries (.setAbsorbReserve v) t := by
  refine takeRequest_carries (show execSetAbsorbReserve v s = _ from h) fun ws u => ?_
  cases hz : u.sizes with
  | none => exact State.place_carries _ _ _ u
  | some z =>
    exact (State.withSizes_alike (z' := { z with absorbReserve := clamp 0 (z.slots / 2) v }) hz rfl rfl).carries_place
      _ _ rfl

theorem exec_setAdviceDelay_carries {v : Nat} (h : exec (.setAdviceDelay v) s = .next t) :
    s.Carries (.setAdviceDelay v) t := by
  refine takeRequest_carries (show execSetAdviceDelay v s = _ from h) fun ws u => ?_
  have hbody : (u.withSettings { u.settings with adviceDelay := clamp 0 255 v }).retimeAdvice.body =
      (u.withSettings { u.settings with adviceDelay := clamp 0 255 v }).body := by
    unfold State.retimeAdvice
    split
    · rfl
    · split
      · rw [State.armAdvice_eq]
        rfl
      · rfl
  refine ((State.withSettings_alike _ u).trans (.of_body hbody)).carries_place _ _ ?_
  exact (congrArg (State.demandHolds · .fill) hbody : State.demandHolds (State.body _) .fill = _)

/-- A FILL demand's setting changed and tested again. -/
theorem fillSetting_carries {item v : Nat} {g : Settings} {ws : List Word} (u : State) :
    u.Carries c ((u.withSettings g).answerValue item v ws).retestFill :=
  ((State.withSettings_alike g u).trans (.place _ _ _)).carries_retestFill

theorem exec_setFillWake_carries {v : Nat} (h : exec (.setFillWake v) s = .next t) : s.Carries (.setFillWake v) t :=
  takeRequest_carries (show execSetFillWake v s = _ from h) fun _ u => fillSetting_carries u

theorem exec_setProfile_carries {v : Nat} (h : exec (.setProfile v) s = .next t) : s.Carries (.setProfile v) t := by
  refine takeRequest_carries (show execSetProfile v s = _ from h) fun ws u => ?_
  cases hp : profileOfCode v with
  | none => exact State.place_carries _ _ _ u
  | some p => exact fillSetting_carries u

/-! ### Watermarks -/

theorem State.Drains.of_same (hd : t.drain = s.drain) (hr : t.records = s.records) : s.Drains t :=
  fun k => .inl ⟨hd.trans k, fun r h _ => ⟨r, hr ▸ h, rfl, rfl⟩⟩

/-- Urgent mode compared with watermarks of which the lower is below the higher, and its demand (R136). -/
theorem State.Concluded.compareUrgent {z : Sizes} {u : State} (h : s.Concluded)
    (hu : u = { s with front := u.front, sizes := some z }) (hz : z.dirtyLow < z.dirtyHigh) :
    u.retestUrgent.Concluded := by
  obtain ⟨k1, k2, k3, -, -, k6, k7⟩ := h
  unfold State.retestUrgent
  by_cases hv : u.service = .serving
  · rw [if_pos (by simp [State.isServing, hv])]
    refine State.ConcludedBut.demandFor (s := u.compareUrgent)
      ⟨?_, ?_, ?_, fun _ k => ?_, fun _ k => ?_, fun _ r hr => ?_,
      fun k => absurd hv k⟩ hv
    · rw [hu]; exact k1
    · rw [hu]; exact k2
    · rw [hu]; exact k3
    · have hl : u.dirtyLow = z.dirtyLow := by rw [hu]; rfl
      have hh : u.dirtyHigh = z.dirtyHigh := by rw [hu]; rfl
      change u.dirtyLow < u.dirtyList.length
      rw [State.compareUrgent_urgent] at k
      cases hb : u.urgent <;>
        simp only [urgentAfter, hb, if_true, Bool.false_eq_true, if_false, decide_eq_true_eq] at k <;> omega
    · have hl : u.dirtyLow = z.dirtyLow := by rw [hu]; rfl
      have hh : u.dirtyHigh = z.dirtyHigh := by rw [hu]; rfl
      change u.dirtyList.length < u.dirtyHigh
      rw [State.compareUrgent_urgent] at k
      cases hb : u.urgent <;>
        simp only [urgentAfter, hb, if_true, Bool.false_eq_true, if_false, decide_eq_false_iff_not] at k <;> omega
    · have hs : s.service = .serving := by rw [hu] at hv; exact hv
      have := k6 hs r
      cases r with
      | dirtyCeiling => exact absurd (List.mem_singleton.2 rfl) hr
      | drain => rw [hu]; exact this
      | fill => rw [hu]; exact this
  · rw [if_neg (by simpa [State.isServing] using hv), hu]
    have hs : s.service ≠ .serving := by rw [hu] at hv; exact hv
    exact State.Concludable.concluded ⟨k3, k7⟩ hs

theorem State.Heralds.retestUrgent (h : s.Heralds t) : s.Heralds t.retestUrgent := by
  unfold State.retestUrgent
  split
  · exact State.Heralds.demandFor (t := t.compareUrgent)
      (h.mono rfl rfl (fun _ => List.Subset.refl _) fun _ k => .inr k) _
  · exact h

theorem State.Drains.retestUrgent (h : s.Drains t) : s.Drains t.retestUrgent := by
  unfold State.retestUrgent
  split
  · exact State.Drains.demandFor (t := t.compareUrgent) h _
  · exact h

/-- A SET of a watermark. -/
theorem State.withSizes_carries {z : Sizes} {r : Outbound} (u : State)
    (hz : u.SettingsInRange → z.dirtyLow < z.dirtyHigh) :
    u.Carries c ((u.withSizes z).place .front r).retestUrgent := by
  have hp : (u.withSizes z).place .front r =
      { u with front := ((u.withSizes z).place .front r).front, sizes := some z } := by
    unfold State.place
    split <;> rfl
  refine ⟨fun h _ _ k => k.compareUrgent hp (hz h), ?_, fun _ _ _ _ _ _ => ?_⟩
  · exact State.Heralds.retestUrgent (.of_same (by simp [State.withSizes]) (by simp [State.withSizes]))
  · exact State.Drains.retestUrgent (.of_same (by simp [State.withSizes]) (by simp [State.withSizes]))

theorem exec_setDirtyHigh_carries {v : Nat} (h : exec (.setDirtyHigh v) s = .next t) :
    s.Carries (.setDirtyHigh v) t := by
  refine takeRequest_carries (show execSetDirtyHigh v s = _ from h) fun ws u => ?_
  cases hz : u.sizes with
  | none => exact State.place_carries _ _ _ u
  | some z =>
    refine State.withSizes_carries u fun _ => ?_
    simp only [Sizes.withHigh, clamp]
    omega

theorem exec_setDirtyLow_carries {v : Nat} (h : exec (.setDirtyLow v) s = .next t) : s.Carries (.setDirtyLow v) t := by
  refine takeRequest_carries (show execSetDirtyLow v s = _ from h) fun ws u => ?_
  cases hz : u.sizes with
  | none => exact State.place_carries _ _ _ u
  | some z =>
    refine State.withSizes_carries u fun hr => ?_
    have := (hr.sizes z hz).dirtyHigh
    simp only [Sizes.withLow, clamp]
    omega

end

end Sys2Proof.Machine
end

section
/-! PROOFS. What bring-up, the queries, the Claim Table's requests, the drain's and the spindle's carry to their ends.
-/

set_option Elab.async false

namespace Sys2Proof.Machine

section
variable {s t : State} {c d : Instr}

/-! ### Links, bring-up, queries -/

theorem State.Carries.of_unserved (h : s.Works True t) (hv : t.service ≠ .serving) : s.Carries c t where
  concluded _ _ _ k := (h.concludable k.concludable).concluded hv
  heralds := (State.Heralds.refl s).works h
  drains _ _ _ _ _ _ := h.drains

theorem exec_inboundFrame_carries {p : Port} {halves : List Half} (h : exec (.inboundFrame p halves) s = .next t) :
    s.Carries (.inboundFrame p halves) t := by
  cases h
  refine State.carries_of_body ?_
  unfold State.receive
  split
  · cases p <;> rfl
  · rfl

theorem exec_malformedEntry_carries {p : Port} (h : exec (.malformedEntry p) s = .next t) :
    s.Carries (.malformedEntry p) t := by
  simp only [exec, execMalformedEntry] at h
  split at h
  · cases h
    refine .advance p (State.carries_of_body ((State.place_body _ _ _).trans ?_))
    cases p <;> rfl
  · cases h
    exact .refl _ _

theorem exec_geometry_carries {n : Nat} (h : exec (.geometry n) s = .next t) : s.Carries (.geometry n) t := by
  refine takeRequest_carries (show execGeometry n s = _ from h) fun ws u => ?_
  unfold State.takeGeometry
  split
  · exact State.answer_carries _ _ _ _ _ _ u
  · rename_i hv
    split
    · exact State.answer_carries _ _ _ _ _ _ u
    · have hu : u.service ≠ .serving := by
        have : u.service = .cold := by simpa using hv
        simp [this]
      refine State.Alike.carries_place (u := { u with
        sizes := some (Sizes.ofSlots (min n Config.maxSlots)), free := List.range (min n Config.maxSlots), cursor := 0,
        service := .adopting }) _ _ ?_ rfl
      exact ⟨⟨nofun, fun k => absurd k hu⟩, rfl, fun _ _ => rfl, rfl, rfl, rfl, rfl, fun k => absurd k hu,
        fun k => absurd k hu, rfl, rfl⟩

theorem exec_adopt_carries {e n : Nat} {v d l : SegSet} (h : exec (.adopt e n v d l) s = .next t) :
    s.Carries (.adopt e n v d l) t := by
  refine takeRequest_carries (show execAdopt e n v d l s = _ from h) fun ws u => ?_
  unfold State.takeAdopt
  split
  · exact State.answer_carries _ _ _ _ _ _ u
  · rename_i hv
    split
    · exact State.answer_carries _ _ _ _ _ _ u
    · split
      · exact State.answer_carries _ _ _ _ _ _ u
      · have hw : u.Works True ((u.takeSlot n).enter (u.adoptedRecord e n v d l)) :=
          State.Works.trans (t := u.takeSlot n) .of (State.enter_works (State.accounts_of_plain rfl fun _ => rfl))
        refine State.Carries.of_unserved (hw.trans (State.place_works _ _ _)) ?_
        have hs : u.service = .adopting := by simpa using hv
        simp only [State.answer, State.place_service]
        rw [hw.service, hs]
        exact nofun

theorem exec_unfence_carries {n : Nat} (h : exec (.unfence n) s = .next t) : s.Carries (.unfence n) t := by
  refine takeRequest_carries (show execUnfence n s = _ from h) fun ws u => ?_
  unfold State.takeUnfence
  split
  · exact State.answer_carries _ _ _ _ _ _ u
  · split
    · exact State.answer_carries _ _ _ _ _ _ u
    · refine State.carries_of_body (Eq.trans ?_ (State.place_body .flash (.answer 0x0F .ok (ws.tail ++ [])) u))
      unfold State.unfenceSlot
      split <;> rfl

theorem exec_querySummary_carries (h : exec .querySummary s = .next t) : s.Carries .querySummary t :=
  takeRequest_carries (show execQuerySummary s = _ from h) fun _ u => State.answer_carries _ _ _ _ _ _ u

theorem exec_stats_carries {clear : Bool} (h : exec (.stats clear) s = .next t) : s.Carries (.stats clear) t := by
  refine takeRequest_carries (show execStats clear s = _ from h) fun ws u => ?_
  dsimp only
  split
  · refine State.Alike.carries ((State.Alike.place .front (.answer 0x09 .ok (ws.tail ++ u.stats.words)) u).trans ?_) ?_
    · exact ⟨.rfl, rfl, fun _ _ => rfl, rfl, rfl, rfl, rfl, fun _ => rfl, fun _ => rfl, rfl, rfl⟩
    · exact State.place_fill _ _ u
  · exact State.answer_carries _ _ _ _ _ _ u

theorem exec_window_carries {n : Nat} (h : exec (.window n) s = .next t) : s.Carries (.window n) t := by
  refine takeRequest_carries (show execWindow n s = _ from h) fun ws u => ?_
  unfold State.takeBgWindow
  split
  · exact State.answer_carries _ _ _ _ _ _ u
  · exact State.Alike.carries_place _ _
      ⟨.rfl, rfl, fun _ _ => rfl, rfl, rfl, rfl, rfl, fun _ => rfl, fun _ => rfl, rfl, rfl⟩ rfl

theorem exec_adviceTimerExpiry_carries (h : exec .adviceTimerExpiry s = .next t) : s.Carries .adviceTimerExpiry t := by
  simp only [exec, execAdviceTimerExpiry] at h
  split at h
  · cases h
    exact .refl _ _
  · cases h
    have hlike (v : Bool) (u : State) : u.Alike { u with adviceSent := v, adviceTimer := none } :=
      ⟨.rfl, rfl, fun _ _ => rfl, rfl, rfl, rfl, rfl, fun _ => rfl, fun _ => rfl, rfl, rfl⟩
    unfold State.adviceExpiry
    split
    · unfold State.produceAdvice
      split
      · exact (hlike true s).carries_place _ _ rfl
      · exact State.Alike.carries ((hlike true s).trans
          ⟨.rfl, rfl, fun _ _ => rfl, rfl, rfl, rfl, rfl, fun _ => rfl, fun _ => rfl, rfl, rfl⟩) rfl
    · refine State.carries_of_body ?_
      rw [State.armAdvice_eq]
      rfl

/-! ### The Claim Table -/

theorem State.Carries.of_claims (hclaims : ∀ (i : Fin 8) x q, s.claims[i] = some x → x.standing = .pending q →
      ∀ y p, t.claims[i] = some y → y.standing = .owned p false → .claimGranted y.extent ∈ (t.link p).out)
    (hgranted : s.Concluded → ∀ (i : Fin 8) x q, t.claims[i] = some x → x.standing = .pending q →
      t.quiescent q x.extent = false)
    (h : { t with claims := s.claims }.body = s.body) (hv : s.Concluded → s.service = .serving) : s.Carries c t := by
  have ha := State.Alike.of_body h
  refine ⟨fun _ _ _ k => ?_, ⟨hclaims, fun r hr => .inl ?_⟩, fun _ _ _ _ _ _ => ha.drains⟩
  · obtain ⟨-, k2, k3, k4, k5, k6, k7⟩ := k.alike ha (congrArg (State.demandHolds · .fill) h :
      State.demandHolds (State.body _) .fill = _)
    exact ⟨hgranted k, k2, k3, k4, k5, k6, fun j => absurd (ha.serving.2 (hv k)) j⟩
  · have := ha.demands
    exact congrArg (·.get r) this ▸ hr

end

end Sys2Proof.Machine
end

section
/-! PROOFS. What CLAIM and RELEASE carry to their ends. -/

set_option Elab.async false

namespace Sys2Proof.Machine

section
variable {s t : State} {c : Instr}

/-- Entry `i`, where it is pending, is so for a port that its extent is not quiescent for. -/
def State.NotGrantable (s : State) (i : Fin 8) : Prop :=
  ∀ x q, s.claims[i] = some x → x.standing = .pending q → s.quiescent q x.extent = false

theorem State.body_claims (h : t.body = s.body) : t.claims = s.claims :=
  (congrArg State.claims h : t.body.claims = _)

theorem State.NotGrantable.congr {i : Fin 8} (h : s.NotGrantable i) (hc : t.claims[i] = s.claims[i])
    (hx : t.contexts = s.contexts) (hr : t.routes = s.routes) : t.NotGrantable i := by
  intro x q k kq
  rw [State.quiescent_congr hx hr]
  exact h x q (hc ▸ k) kq

/-- The answer to a request that replaces entry `i`. -/
theorem State.setClaim_place_carries {i : Fin 8} {y : ClaimEntry} {p : Port} {r : Outbound} (hv : s.service = .serving)
    (hpending : ∀ x q, s.claims[i] = some x → x.standing = .pending q → y.standing = .pending q)
    (hdone : s.Concluded → (s.setClaim i (some y)).NotGrantable i) :
    s.Carries c ((s.setClaim i (some y)).place p r) := by
  have hget (j : Fin 8) : ((s.setClaim i (some y)).place p r).claims[j] = if j = i then some y else s.claims[j] := by
    rw [State.place_claims, State.claims_setClaim]
  have hbody : { (s.setClaim i (some y)).place p r with claims := s.claims }.body = s.body := by
    have := State.place_body p r (s.setClaim i (some y))
    exact congrArg (fun u : State => { u with claims := s.claims }) this
  refine State.Carries.of_claims (fun j x q hx hq w v hw hs => ?_) (fun k j x q hx hq => ?_) hbody fun _ => hv
  · rw [hget] at hw
    split at hw
    · rename_i hj
      cases hw
      rw [hpending x q (hj ▸ hx) hq] at hs
      cases hs
    · rw [hx] at hw
      cases hw
      rw [hq] at hs
      cases hs
  · have hquiescent : ((s.setClaim i (some y)).place p r).quiescent q x.extent = s.quiescent q x.extent :=
      State.quiescent_congr (by simp [State.setClaim]) (by simp [State.setClaim]) _ _
    rw [hget] at hx
    rw [hquiescent]
    split at hx
    · exact hdone k x q ((State.claims_setClaim _ _ _ _).trans ((if_pos rfl).trans hx)) hq
    · exact k.granted j x q hx hq

theorem exec_claim_carries {p : Port} {e : Nat} (h : exec (.claim p e) s = .next t) : s.Carries (.claim p e) t := by
  refine takeRequest_carries (show execClaim p e s = _ from h) fun ws u => ?_
  unfold State.takeClaim
  split
  · exact State.answer_carries _ _ _ _ _ _ u
  rename_i hns
  have hv : u.service = .serving := by simpa [State.isServing] using hns
  split
  · exact State.answer_carries _ _ _ _ _ _ u
  cases hi : u.claimIndex e with
  | some i =>
    obtain ⟨x, hx, rfl⟩ := State.claimIndex_some hi
    rw [State.claimFor_entry p hi hx]
    by_cases hn : x.names p = true
    · rw [if_pos hn]
      exact State.answer_carries _ _ _ _ _ _ u
    · rw [if_neg hn]
      refine State.setClaim_place_carries hv (fun w q hw hq => ?_) fun k w q hw hq => ?_
      · rw [hx] at hw
        cases hw
        exact hq
      · rw [State.claims_setClaim, if_pos rfl] at hw
        cases hw
        exact k.granted i x q hx hq
  | none =>
    cases hf : u.freeClaim with
    | none =>
      rw [State.claimFor_full p hi hf]
      exact State.answer_carries _ _ _ _ _ _ u
    | some i =>
      have hfree : u.claims[i] = none := by simpa using List.find?_some hf
      rw [State.claimFor_free p hi hf]
      by_cases hq : u.quiescent p e = true
      · rw [if_pos hq]
        refine State.setClaim_place_carries hv (fun w q hw _ => by rw [hfree] at hw; cases hw) fun _ w q hw hq => ?_
        rw [State.claims_setClaim, if_pos rfl] at hw
        cases hw
        cases hq
      · rw [if_neg hq]
        refine State.setClaim_place_carries hv (fun w q hw _ => by rw [hfree] at hw; cases hw) fun _ w q hw hs => ?_
        rw [State.claims_setClaim, if_pos rfl] at hw
        cases hw
        cases hs
        exact (Bool.not_eq_true _).mp hq

/-! ### The hand-over -/

theorem State.Heralds.grantEntry (h : s.Heralds t) (j : Fin 8) : s.Heralds (t.grantEntry j) := by
  have he := State.Ends.grantEntry j t
  have hk := he.keeps
  refine ⟨fun i x q hx hq y p hy hp => ?_, fun r hr => ?_⟩
  · by_cases hij : i = j
    · subst hij
      obtain ⟨hnone, hsome⟩ := State.grantEntry_grants i t
      cases hz : t.claims[i] with
      | none => rw [hnone hz] at hy; cases hy
      | some z =>
        obtain ⟨howned, hpending⟩ := hsome z hz
        cases hs : z.standing with
        | owned w o =>
          rw [howned w o hs] at hy
          cases hy
          exact (hk.link p).out.subset (h.grants i x q hx hq _ p hz hp)
        | pending w =>
          cases hw : (t.grantEntry i).quiescent w z.extent with
          | false =>
            rw [(hpending w hs).1 hw] at hy
            cases hy
            cases hp
          | true =>
            rcases (hpending w hs).2 hw with ⟨k, kout⟩ | ⟨k, -⟩ <;> rw [k] at hy <;> cases hy <;> cases hp
            exact kout
    · rw [State.grantEntry_of_ne hij] at hy
      exact (hk.link p).out.subset (h.grants i x q hx hq y p hy hp)
  · have hd : (t.grantEntry j).demands = t.demands :=
      (congrArg State.demands (State.grantEntry_ungranted j t) : (State.ungranted _).demands = _)
    have ho : (t.grantEntry j).diskOwed = t.diskOwed :=
      (congrArg State.diskOwed (State.grantEntry_ungranted j t) : (State.ungranted _).diskOwed = _)
    rw [ho]
    exact (h.flags r (hd ▸ hr)).imp_right (Or.imp_left fun k => (hk.link .disk).out.subset k)

/-- An entry looked at for a grant is not left grantable. -/
theorem State.grantEntry_notGrantable (i : Fin 8) (s : State) : (s.grantEntry i).NotGrantable i := by
  obtain ⟨hnone, hsome⟩ := State.grantEntry_grants i s
  intro x q hx hq
  cases hz : s.claims[i] with
  | none => rw [hnone hz] at hx; cases hx
  | some z =>
    obtain ⟨howned, hpending⟩ := hsome z hz
    cases hs : z.standing with
    | owned w o =>
      rw [howned w o hs] at hx
      cases hx
      rw [hs] at hq
      cases hq
    | pending w =>
      cases hw : (s.grantEntry i).quiescent w z.extent with
      | false =>
        rw [(hpending w hs).1 hw] at hx
        cases hx
        cases hq
        exact hw
      | true => rcases (hpending w hs).2 hw with ⟨k, -⟩ | ⟨k, -⟩ <;> rw [k] at hx <;> cases hx <;> cases hq

/-- The lowest entry that names an extent is still so after a port has left it, where it is not freed. -/
theorem State.claimIndex_left {i : Fin 8} {e : Nat} {x y : ClaimEntry} (hi : s.claimIndex e = some i)
    (hx : s.claims[i] = some x) (hy : y.extent = x.extent) : (s.setClaim i (some y)).claimIndex e = some i := by
  have hsame (j : Fin 8) : ((s.setClaim i (some y)).claims[j].map (·.extent)) = s.claims[j].map (·.extent) := by
    rw [State.claims_setClaim]
    split
    · rename_i hj
      rw [hj, hx]
      exact congrArg some hy
    · rfl
  rw [← hi]
  simp only [State.claimIndex, hsame]

theorem ClaimEntry.leave_extent {p : Port} {x y : ClaimEntry} (h : x.leave p = some y) : y.extent = x.extent := by
  unfold ClaimEntry.leave at h
  split at h
  · unfold ClaimEntry.passOn at h
    split at h
    · cases h
    · cases h
      rfl
  · cases h
    rfl

theorem ClaimEntry.leave_pending {p q : Port} {x y : ClaimEntry} (h : x.leave p = some y)
    (hq : x.standing = .pending q) :
    ∃ w, y.standing = .pending w := by
  unfold ClaimEntry.leave at h
  split at h
  · unfold ClaimEntry.passOn at h
    split at h
    · cases h
    · cases h
      exact ⟨_, rfl⟩
  · cases h
    exact ⟨q, hq⟩

theorem State.grantNext_body (e : Nat) (s : State) : { s.grantNext e with claims := s.claims }.body = s.body := by
  unfold State.grantNext
  split
  · rfl
  · exact congrArg (fun u : State => { u with claims := s.claims }.body) (State.grantEntry_ungranted _ s)

theorem State.Heralds.grantNext (h : s.Heralds t) (e : Nat) : s.Heralds (t.grantNext e) := by
  unfold State.grantNext
  split
  · exact h
  · exact h.grantEntry _

/-- After the hand-over no entry is left grantable that was not so before, the handed-over one included. -/
theorem State.grantNext_notGrantable {e : Nat} (h : ∀ j, s.claimIndex e ≠ some j → s.NotGrantable j) (j : Fin 8) :
    (s.grantNext e).NotGrantable j := by
  unfold State.grantNext
  split
  · rename_i hi
    exact h j (by simp [hi])
  · rename_i i hi
    by_cases hj : j = i
    · subst hj
      exact State.grantEntry_notGrantable j s
    · have he := State.Ends.grantEntry i s
      exact (h j (by simpa [hi] using fun k => hj k.symm)).congr (State.grantEntry_of_ne hj s) he.contexts he.routes

theorem exec_release_carries {p : Port} {e : Nat} (h : exec (.release p e) s = .next t) :
    s.Carries (.release p e) t := by
  refine takeRequest_carries (show execRelease p e s = _ from h) fun ws u => ?_
  unfold State.takeRelease
  split
  · exact State.answer_carries _ _ _ _ _ _ u
  rename_i hns
  have hv : u.service = .serving := by simpa [State.isServing] using hns
  split
  · exact State.answer_carries _ _ _ _ _ _ u
  by_cases hnamed : ∃ i x, u.claimIndex e = some i ∧ u.claims[i] = some x ∧ x.names p = true
  case neg =>
    have hfor : u.releaseFor p e = (.notOwner, u) := by
      unfold State.releaseFor
      cases hi : u.claimIndex e with
      | none => rfl
      | some i =>
        obtain ⟨x, hx, -⟩ := State.claimIndex_some hi
        have hn : x.names p = false := by
          by_contra k
          exact hnamed ⟨i, x, hi, hx, by simpa using k⟩
        simp only [hx, hn]
        rfl
    rw [hfor]
    exact State.answer_carries _ _ _ _ _ _ u
  obtain ⟨i, x, hi, hx, hn⟩ := hnamed
  rw [State.releaseFor_entry hi hx ((x.names_iff p).1 hn)]
  dsimp only
  rw [if_pos rfl]
  generalize hw : (u.setClaim i (x.leave p)).answer p 0x04 .ok ws [] = w
  have hclaims (j : Fin 8) : w.claims[j] = if j = i then x.leave p else u.claims[j] := by
    rw [← hw, State.answer, State.place_claims, State.claims_setClaim]
  have hcontexts : w.contexts = u.contexts := by
    rw [← hw]
    simp [State.answer, State.setClaim]
  have hroutes : w.routes = u.routes := by
    rw [← hw]
    simp [State.answer, State.setClaim]
  have hbody : { w with claims := u.claims }.body = u.body := by
    rw [← hw]
    exact congrArg (fun v : State => { v with claims := u.claims }) (State.place_body _ _ (u.setClaim i (x.leave p)))
  have hheralds : u.Heralds w := by
    refine .of (fun j y q hy hq z hz => ?_) fun r hr => ?_
    · rw [hclaims] at hz
      split at hz
      · rename_i hj
        rw [hj, hx] at hy
        cases hy
        exact ClaimEntry.leave_pending hz hq
      · rw [hy] at hz
        cases hz
        exact ⟨q, hq⟩
    · rw [← hw] at hr
      simpa [State.answer, State.setClaim] using hr
  refine State.Carries.of_claims ((hheralds.grantNext e).grants) (fun k j => ?_) ?_ fun _ => hv
  · refine State.grantNext_notGrantable (fun j hj => ?_) j
    by_cases hji : j = i
    · intro y q hy hq
      rw [hclaims, if_pos hji] at hy
      have hindex : w.claimIndex e = some i := by
        rw [← State.claimIndex_left hi hx (ClaimEntry.leave_extent hy), ← hw, ← hy]
        simp only [State.claimIndex, State.answer, State.place_claims]
      exact absurd (hji ▸ hindex) hj
    · refine State.NotGrantable.congr (s := u) (k.granted j) ?_ hcontexts hroutes
      rw [hclaims, if_neg hji]
  · exact (congrArg (fun v : State => { v with claims := u.claims }) (State.grantNext_body e w)).trans hbody

end

end Sys2Proof.Machine
end

section
/-! PROOFS. What the examinations carry to their ends (QUERY, the age sweep), and RETRY_STUCK and FLUSH_ALL. -/

set_option Elab.async false

namespace Sys2Proof.Machine

section
variable {s t : State} {c : Instr}

/-! ### Examinations -/

theorem Resident.settled_flags {r : Resident} (h : r.dirty = 0#32 → r.drainMark = false ∧ r.stuck = false) :
    r.settled.flags = r.flags := by
  unfold Resident.settled
  split
  · rename_i hd
    obtain ⟨h1, h2⟩ := h hd
    simp [Resident.flags, h1, h2]
  · rfl

/-- The end of an event does not see that a lawful record is examined, where the lists are filed. -/
theorem State.examineResident_alike (w : Nat) {r : Resident} (hl : s.RecordsLawful) (hf : s.ListsFiled)
    (hr : r ∈ s.records) : s.Alike (s.examineResident w r) := by
  have hu := State.examineResident_unexamined w r s
  have hrec : (s.examineResident w r).records =
      s.records.map fun x => if x.extent = r.extent then (s.caughtUpRecord w r).settled else x := by
    rw [State.examineResident_eq, State.adjustPromo_records]
    rfl
  have hquiescent : ∀ p e, (s.examineResident w r).quiescent p e = s.quiescent p e :=
    State.quiescent_congr (congrArg State.contexts hu : (State.unexamined _).contexts = _)
      (congrArg State.routes hu : (State.unexamined _).routes = _)
  refine ⟨?_, (congrArg State.claims hu : (State.unexamined _).claims = _), hquiescent,
    (congrArg State.drain hu : (State.unexamined _).drain = _), ?_,
    (congrArg State.urgent hu : (State.unexamined _).urgent = _), congrArg List.length ?_,
    fun _ => (congrArg State.dirtyHigh hu : (State.unexamined _).dirtyHigh = _),
    fun _ => (congrArg State.dirtyLow hu : (State.unexamined _).dirtyLow = _),
    (congrArg State.spindle hu : (State.unexamined _).spindle = _),
    (congrArg State.demands hu : (State.unexamined _).demands = _)⟩
  · rw [show (s.examineResident w r).service = s.service from (congrArg State.service hu :
      (State.unexamined _).service = _)]
  · rw [hrec, List.map_map]
    refine List.map_congr_left fun x hx => ?_
    show Resident.flags (if x.extent = r.extent then (s.caughtUpRecord w r).settled else x) = x.flags
    by_cases he : x.extent = r.extent
    · rw [if_pos he]
      have hxr : some x = some r := by
        rw [← State.residentOf_of_mem hl.extents hx, ← State.residentOf_of_mem hl.extents hr, he]
      cases hxr
      rw [Resident.settled_flags (r := s.caughtUpRecord w r) fun hd => ?_]
      · rfl
      · obtain ⟨h1, -, h2⟩ := (hl.records r hr).settled hd
        exact ⟨h1, h2⟩
    · rw [if_neg he]
  · rw [State.examineResident_dirtyList]
    split
    · rename_i hd
      refine without_of_notMem _ _ fun hm => ?_
      exact hl.dirtyList _ hm r (State.residentOf_of_mem hl.extents hr) hd
    · rename_i hd
      exact if_pos ((hf.dirty _).2 ⟨r, hr, rfl, hd⟩)

theorem State.examineWatched_alike (w : Nat) (x : WatchEntry) (s : State) : s.Alike (s.examineWatched w x) := by
  rw [State.examineWatched, State.adjustPromo_eq]
  exact ⟨.rfl, rfl, fun _ _ => rfl, rfl, rfl, rfl, rfl, fun _ => rfl, fun _ => rfl, rfl, rfl⟩

theorem State.examine_alike (w e : Nat) (hl : s.RecordsLawful) (hf : s.ListsFiled) : s.Alike (s.examine w e) := by
  unfold State.examine
  split
  · rename_i r hr
    exact State.examineResident_alike w hl hf (State.residentOf_mem hr).1
  · split
    · exact State.examineWatched_alike w _ s
    · exact .refl s

theorem exec_query_carries {e : Nat} (h : exec (.query e) s = .next t) : s.Carries (.query e) t := by
  refine takeRequest_carries (show execQuery e s = _ from h) fun ws u => ?_
  unfold State.takeQuery
  split
  · exact State.answer_carries _ _ _ _ _ _ u
  dsimp only
  generalize hx : (if u.isServing then u.examine 0 e else u) = x
  have hw : u.Works True x := by
    rw [← hx]
    split
    · exact State.examine_works 0 e u
    · exact .refl u
  have hplace := hw.trans (State.place_works .front (.answer 0x08 .ok (ws.tail ++ x.queryWords e)) x)
  refine ⟨fun _ h2 h3 k => ?_, ((State.Heralds.refl u).works hplace).retestFill,
    fun _ _ _ _ _ _ => hplace.drains.retestFill⟩
  have ha : u.Alike x := by
    rw [← hx]
    split
    · exact State.examine_alike 0 e h2 h3
    · exact .refl u
  exact (k.alike_fill (ha.trans (.place _ _ x))).retestFill

/-! ### The age sweep -/

theorem State.sweepPlace_works {strict : Prop} (p : Nat) (s : State) : s.Works strict (s.sweepPlace p) := by
  unfold State.sweepPlace
  split
  · split
    · rename_i r hr
      exact State.examineResident_works 0 (State.residentIn_mem hr)
    · exact .refl s
  · split
    · exact State.examineWatched_works 0 _ s
    · exact .refl s

theorem State.sweepPlace_alike (p : Nat) (hl : s.RecordsLawful) (hf : s.ListsFiled) : s.Alike (s.sweepPlace p) := by
  unfold State.sweepPlace
  split
  · split
    · rename_i r hr
      exact State.examineResident_alike 0 hl hf (State.residentIn_mem hr)
    · exact .refl s
  · split
    · exact State.examineWatched_alike 0 _ s
    · exact .refl s

theorem State.sweep_works {strict : Prop} (n : Nat) (s : State) : s.Works strict (State.sweep n s) := by
  induction n generalizing s with
  | zero => exact .refl s
  | succ n ih => exact ((State.sweepPlace_works s.cursor s).trans .of).trans (ih s.visitNext)

theorem State.visitNext_alike (hl : s.RecordsLawful) (hf : s.ListsFiled) : s.Alike s.visitNext :=
  (State.sweepPlace_alike s.cursor hl hf).trans
    ⟨.rfl, rfl, fun _ _ => rfl, rfl, rfl, rfl, rfl, fun _ => rfl, fun _ => rfl, rfl, rfl⟩

/-- A visit keeps the laws of the records and the lists. -/
theorem State.visitNext_upholds (hl : s.RecordsLawful) (hf : s.ListsFiled) (hr : s.settings.InRange) :
    s.visitNext.RecordsLawful ∧ s.visitNext.ListsFiled ∧ s.visitNext.settings.InRange := by
  have hu := (State.Turns.sweep 1 s hl.extents).upholdsMap
  exact ⟨hu.records hr hl, hu.lists hf, hu.settings hr⟩

theorem State.sweep_alike (n : Nat) (hl : s.RecordsLawful) (hf : s.ListsFiled) (hr : s.settings.InRange) :
    s.Alike (State.sweep n s) := by
  induction n generalizing s with
  | zero => exact .refl s
  | succ n ih =>
    obtain ⟨hl', hf', hr'⟩ := State.visitNext_upholds hl hf hr
    exact (State.visitNext_alike hl hf).trans (ih hl' hf' hr')

theorem exec_epochTimerExpiry_carries (h : exec .epochTimerExpiry s = .next t) : s.Carries .epochTimerExpiry t := by
  simp only [exec, execEpochTimerExpiry] at h
  split at h
  · cases h
    exact .refl _ _
  · have ht : s.epochExpiry = t := Host.Outcome.next.inj h
    rw [← ht, State.epochExpiry]
    generalize hu : ({ s with epoch := (s.epoch + 1) % Config.wrap16, epochTimer := some s.settings.epochLen } :
      State) = u
    have hsu : s.Alike u := by
      rw [← hu]
      exact ⟨.rfl, rfl, fun _ _ => rfl, rfl, rfl, rfl, rfl, fun _ => rfl, fun _ => rfl, rfl, rfl⟩
    have hw : s.Works True (State.sweep Config.sweepStride u) :=
      State.Works.trans (t := u) (by rw [← hu]; exact .of) (State.sweep_works _ u)
    refine ⟨fun h1 h2 h3 k => ?_, ((State.Heralds.refl s).works hw).retestFill,
      fun _ _ _ _ _ _ => hw.drains.retestFill⟩
    have hl : u.RecordsLawful := by
      rw [← hu]
      exact ⟨h2.records, h2.watch, Nat.mod_lt _ (by decide), h2.extents, h2.dirtyList⟩
    have hf : u.ListsFiled := by
      rw [← hu]
      exact ⟨h3.extents, h3.dirtyOnce, h3.dirty, h3.cleanOnce, h3.clean⟩
    have hr : u.settings.InRange := by
      rw [← hu]
      exact h1.settings
    exact (k.alike_fill (hsu.trans (State.sweep_alike _ hl hf hr))).retestFill

/-! ### RETRY_STUCK -/

theorem exec_retryStuck_carries (h : exec .retryStuck s = .next t) : s.Carries .retryStuck t := by
  refine takeRequest_carries (show execRetryStuck s = _ from h) fun ws u => ?_
  unfold State.takeRetryStuck
  split
  · exact State.answer_carries _ _ _ _ _ _ u
  rename_i hns
  have hv : u.service = .serving := by simpa [State.isServing] using hns
  generalize hw : ({ u with records := u.records.map Resident.retried } : State) = w
  have ha := State.Alike.place .front (.answer 0x06 .ok (ws.tail ++ [word (u.records.countP fun r => r.stuck)])) w
  have hmem {r : Resident} (hr : r ∈ w.records) : ∃ x ∈ u.records, x.retried = r := by
    rw [← hw] at hr
    exact List.mem_map.1 hr
  refine ⟨fun _ _ _ k => ?_, .of_same ?_ ?_, fun _ _ _ _ _ _ hd => .inl ⟨?_, fun r hr hs => ?_⟩⟩
  · refine State.Concluded.alike ?_ ha (State.place_fill _ _ w)
    refine ⟨?_, fun hd => ?_, fun hd r hr => ?_, ?_, ?_, ?_, ?_⟩
    · rw [← hw]; exact k.granted
    · obtain ⟨r, hr, hm, -⟩ := k.drain (by rw [← hw] at hd; exact hd)
      exact ⟨r.retried, by rw [← hw]; exact List.mem_map.2 ⟨r, hr, rfl⟩, hm, rfl⟩
    · obtain ⟨x, hx, rfl⟩ := hmem hr
      exact k.marks (by rw [← hw] at hd; exact hd) x hx
    · rw [← hw]; exact k.urgent
    · rw [← hw]; exact k.calm
    · rw [← hw]; exact k.demands
    · rw [← hw]; exact k.unserved
  · rw [State.answer, State.place_claims, ← hw]
  · rw [State.answer, State.place_demands, ← hw]
  · rw [State.answer, State.place_drain, ← hw]
    exact hd
  · rw [State.answer, State.place_records] at hr
    obtain ⟨x, hx, rfl⟩ := hmem hr
    cases hs

/-! ### FLUSH_ALL -/

theorem exec_flushAll_carries (h : exec .flushAll s = .next t) : s.Carries .flushAll t := by
  refine takeRequest_carries (show execFlushAll s = _ from h) fun ws u => ?_
  unfold State.takeFlushAll
  split
  · exact State.answer_carries _ _ _ _ _ _ u
  rename_i hns
  have hv : u.service = .serving := by simpa [State.isServing] using hns
  split
  · exact State.answer_carries _ _ _ _ _ _ u
  rename_i hidle
  have hnd : u.drain = false := by
    simp only [Bool.or_eq_true, not_or, Bool.not_eq_true] at hidle
    exact hidle.1
  dsimp only
  generalize hw : ({ u.markDirty.answer .front 0x05 .ok ws [word u.dirtyResidents] with drain := true } : State) = w
  have hdrain : w.drain = true := by rw [← hw]
  have hu := State.endDrain_undrained w
  have hclaims : w.endDrain.claims = u.claims := by
    rw [show w.endDrain.claims = w.claims from (congrArg State.claims hu : (State.undrained _).claims = _), ← hw]
    exact State.place_claims _ _ _
  have hdemands : w.endDrain.demands = u.demands := by
    rw [show w.endDrain.demands = w.demands from (congrArg State.demands hu : (State.undrained _).demands = _), ← hw]
    exact State.place_demands _ _ _
  have hquiescent : ∀ p e, w.endDrain.quiescent p e = u.quiescent p e := by
    refine State.quiescent_congr ?_ ?_
    · rw [show w.endDrain.contexts = w.contexts from (congrArg State.contexts hu : (State.undrained _).contexts = _),
        ← hw]
      exact State.place_contexts _ _ _
    · rw [show w.endDrain.routes = w.routes from (congrArg State.routes hu : (State.undrained _).routes = _), ← hw]
      exact State.place_routes _ _ _
  have hservice : w.endDrain.service = u.service := by
    rw [show w.endDrain.service = w.service from (congrArg State.service hu : (State.undrained _).service = _), ← hw]
    exact State.place_service _ _ _
  refine ⟨fun _ _ _ k => ?_, (State.Heralds.of_same hclaims hdemands).demandFor _, fun _ _ _ _ _ _ => .of_idle hnd⟩
  have hurgent : w.endDrain.urgent = u.urgent := by
    rw [show w.endDrain.urgent = w.urgent from (congrArg State.urgent hu : (State.undrained _).urgent = _), ← hw]
    exact State.place_urgent _ _ _
  have hdirty : w.endDrain.dirtyList = u.dirtyList := by
    rw [show w.endDrain.dirtyList = w.dirtyList from (congrArg State.dirtyList hu :
      (State.undrained _).dirtyList = _), ← hw]
    exact State.place_dirtyList _ _ _
  have hsizes : w.endDrain.sizes = u.sizes := by
    rw [show w.endDrain.sizes = w.sizes from (congrArg State.sizes hu : (State.undrained _).sizes = _), ← hw]
    exact State.place_sizes _ _ _
  have hspindle : w.endDrain.spindle = u.spindle := by
    rw [show w.endDrain.spindle = w.spindle from (congrArg State.spindle hu : (State.undrained _).spindle = _), ← hw]
    exact State.place_spindle _ _ _
  have hfill : w.endDrain.demandHolds .fill = u.demandHolds .fill := by
    rw [show w.endDrain.demandHolds .fill = w.demandHolds .fill from
      (congrArg (State.demandHolds · .fill) hu : (State.undrained _).demandHolds .fill = _), ← hw]
    exact State.place_fill _ _ _
  refine State.ConcludedBut.demandFor ⟨?_, fun hd => ?_, fun hd => ?_, fun _ => ?_, fun _ => ?_, fun _ r hr => ?_,
    fun j => absurd (hservice.trans hv) j⟩ (hservice.trans hv)
  · rw [hclaims]
    simp only [hquiescent]
    exact k.granted
  · rw [State.endDrain_stands (.inr hd)]
    rw [State.endDrain_drain, hdrain, Bool.true_and, List.any_eq_true] at hd
    obtain ⟨r, hr, hru⟩ := hd
    exact ⟨r, hr, by simpa [Resident.unflushed] using hru⟩
  · obtain ⟨hrec, -⟩ := State.endDrain_ended hdrain hd
    rw [hrec]
    intro r hr
    obtain ⟨x, -, rfl⟩ := List.mem_map.1 hr
    rfl
  · rw [hurgent, hdirty, show w.endDrain.dirtyLow = u.dirtyLow by simp only [State.dirtyLow, hsizes]]
    exact k.urgent hv
  · rw [hurgent, hdirty, show w.endDrain.dirtyHigh = u.dirtyHigh by simp only [State.dirtyHigh, hsizes]]
    exact k.calm hv
  · have := k.demands hv r
    cases r with
    | dirtyCeiling =>
      rw [show w.endDrain.demandHolds .dirtyCeiling = u.demandHolds .dirtyCeiling from hurgent, hdemands, hspindle]
      exact this
    | drain => exact absurd (List.mem_singleton.2 rfl) hr
    | fill =>
      rw [hfill, hdemands, hspindle]
      exact this

end

end Sys2Proof.Machine
end

section
/-! PROOFS. What the beginning of service and SPINDLE carry to their ends. -/

set_option Elab.async false

namespace Sys2Proof.Machine

section
variable {s t : State} {c : Instr}

/-! ### The beginning of service -/

theorem State.beginUp_eq (s : State) :
    s.beginUp = { s with adviceSent := false, adviceTimer := s.beginUp.adviceTimer } := by
  unfold State.beginUp
  rw [State.armAdvice_eq]

/-- Urgent mode agrees with the watermarks after a comparison, where the lower is below the higher (R136). -/
theorem State.compareUrgent_agrees (h : s.dirtyLow < s.dirtyHigh) :
    (s.compareUrgent.urgent = true → s.dirtyLow < s.dirtyList.length) ∧
      (s.compareUrgent.urgent = false → s.dirtyList.length < s.dirtyHigh) := by
  rw [State.compareUrgent_urgent]
  constructor
  · intro k
    cases hb : s.urgent <;>
      simp only [urgentAfter, hb, if_true, Bool.false_eq_true, if_false, decide_eq_true_eq] at k <;> omega
  · intro k
    cases hb : s.urgent <;>
      simp only [urgentAfter, hb, if_true, Bool.false_eq_true, if_false, decide_eq_false_iff_not] at k <;> omega

theorem exec_adoptEnd_carries (h : exec .adoptEnd s = .next t) : s.Carries .adoptEnd t := by
  refine takeRequest_carries (show execAdoptEnd s = _ from h) fun ws u => ?_
  unfold State.takeAdoptEnd
  split
  · exact State.answer_carries _ _ _ _ _ _ u
  rename_i hv
  have hadopting : u.service = .adopting := by simpa using hv
  have hnot : u.service ≠ .serving := by simp [hadopting]
  generalize hw : (State.answer .flash 0x0D .ok ws [word u.records.length] { u with service := .serving }) = w
  have hwork : w.claims = u.claims ∧ w.demands = u.demands ∧ w.records = u.records ∧ w.drain = u.drain ∧
      w.sizes = u.sizes ∧ w.service = .serving := by
    rw [← hw]
    simp [State.answer]
  obtain ⟨hclaims, hdemands, hrecords, hdrain, hsizes, hserving⟩ := hwork
  generalize hx : ({ w with epochTimer := some w.settings.epochLen } : State).compareUrgent = x
  generalize hy : (if x.spindle = .up then x.beginUp else x) = y
  have hbegin : w.beginService = y.demandAll := by
    rw [← hy, ← hx]
    rfl
  have hyx : y = { x with adviceSent := y.adviceSent, adviceTimer := y.adviceTimer } := by
    rw [← hy]
    split
    · rw [State.beginUp_eq]
    · rfl
  have hyw : y.claims = w.claims ∧ y.demands = w.demands ∧ y.records = w.records ∧ y.drain = w.drain ∧
      y.sizes = w.sizes ∧ y.service = w.service ∧ y.dirtyList = w.dirtyList ∧ y.urgent = w.compareUrgent.urgent := by
    rw [hyx, ← hx]
    exact ⟨rfl, rfl, rfl, rfl, rfl, rfl, rfl, rfl⟩
  obtain ⟨kclaims, kdemands, krecords, kdrain, ksizes, kserving, kdirty, kurgent⟩ := hyw
  rw [hbegin]
  refine ⟨fun h1 _ _ k => ?_, (State.Heralds.of_same (kclaims.trans hclaims) (kdemands.trans hdemands)).demandAll,
    fun _ _ k _ _ _ => .of_idle (k.unserved hnot).2.1⟩
  obtain ⟨hnone, hidle, -, -⟩ := k.unserved hnot
  have hapart : w.dirtyLow < w.dirtyHigh := by
    cases hz : u.sizes with
    | none => exact absurd hz (h1.sized (by simp [hadopting]))
    | some z =>
      have := (h1.sizes z hz).dirtyLow
      simpa [State.dirtyLow, State.dirtyHigh, hsizes, hz] using this
  obtain ⟨hurgent, hcalm⟩ := State.compareUrgent_agrees hapart
  have hd : y.drain = false := (kdrain.trans hdrain).trans hidle
  refine State.ConcludedBut.demandAll ⟨fun i z q hz => ?_, fun j => ?_, fun _ r hr => ?_, fun _ j => ?_, fun _ j => ?_,
    fun _ r hr => absurd (by cases r <;> simp) hr, fun j => absurd (kserving.trans hserving) j⟩
      (kserving.trans hserving)
  · rw [kclaims, hclaims, hnone] at hz
    cases hz
  · rw [hd] at j
    cases j
  · exact k.marks hidle r (hrecords ▸ krecords ▸ hr)
  · rw [kdirty, show y.dirtyLow = w.dirtyLow by simp only [State.dirtyLow, ksizes]]
    exact hurgent (kurgent ▸ j)
  · rw [kdirty, show y.dirtyHigh = w.dirtyHigh by simp only [State.dirtyHigh, ksizes]]
    exact hcalm (kurgent ▸ j)

/-! ### SPINDLE -/

/-- The UP period's turn changes the advice and drops owed demands and advices. -/
theorem State.turnSpindle_eq (old : Spindle) (s : State) :
    s.turnSpindle old = { s with
      adviceSent := (s.turnSpindle old).adviceSent, adviceTimer := (s.turnSpindle old).adviceTimer
      diskOwed := (s.turnSpindle old).diskOwed } := by
  unfold State.turnSpindle
  split
  · split
    · rfl
    · rw [State.beginUp_eq]
      rfl
  · split
    · rfl
    · rfl

/-- A SPINDLE report in SERVING before its demands. -/
def State.turned (old : Spindle) (s : State) : State :=
  if (s.turnSpindle old).spindle = .down then (s.turnSpindle old).reconsider else s.turnSpindle old

theorem State.turned_eq (old : Spindle) (s : State) :
    s.turned old = { s with
      adviceSent := (s.turned old).adviceSent, adviceTimer := (s.turned old).adviceTimer
      diskOwed := (s.turned old).diskOwed, demands := (s.turned old).demands } := by
  unfold State.turned
  split
  · rw [State.reconsider, State.turnSpindle_eq]
  · rw [State.turnSpindle_eq]

/-- A flag that a turn leaves yes was so, or its demand is owed (R146). -/
theorem State.turned_flags {old : Spindle} {s : State} {r : Reason} (h : (s.turned old).demands.get r = true) :
    s.demands.get r = true ∨ .demand r ∈ (s.turned old).diskOwed := by
  unfold State.turned at h ⊢
  split
  · rename_i hd
    rw [if_pos hd] at h
    right
    cases r <;> exact of_decide_eq_true h
  · rename_i hd
    rw [if_neg hd, State.turnSpindle_eq] at h
    exact .inl h

theorem exec_spindle_carries {n : Nat} (h : exec (.spindle n) s = .next t) : s.Carries (.spindle n) t := by
  refine takeRequest_carries (show execSpindle n s = _ from h) fun ws u => ?_
  unfold State.takeSpindle
  split
  · exact State.answer_carries _ _ _ _ _ _ u
  rename_i x _
  dsimp only
  generalize hw : (State.answer .disk 0x10 .ok ws [word x.value] { u with spindle := x }) = w
  have hlike : ({ u with spindle := x } : State).Alike w := by
    rw [← hw]
    exact .place _ _ _
  have hrecords : w.records = u.records := by
    rw [← hw]
    exact State.place_records _ _ _
  by_cases hs : u.isServing = true
  case neg =>
    rw [if_neg hs]
    have hnot : u.service ≠ .serving := by simpa [State.isServing] using hs
    refine ⟨fun _ _ _ k => ?_, .of_same hlike.claims hlike.demands, fun _ _ _ _ _ _ => .of_same hlike.drain hrecords⟩
    have hk : ({ u with spindle := x } : State).Concluded := State.Concludable.concluded ⟨k.marks, k.unserved⟩ hnot
    have hwnot : w.service ≠ .serving := fun j => hnot (hlike.serving.1 j)
    exact ((hk.but [.fill]).alike hlike (l' := [.fill]) fun r hr => ⟨hr, hlike.holds (by simpa using hr)⟩
      ).unserved_concluded hwnot
  rw [if_pos hs]
  have hv : u.service = .serving := by simpa [State.isServing] using hs
  have hwv : w.service = .serving := hlike.serving.2 hv
  have hfollow : w.followSpindle u.spindle = (w.turned u.spindle).demandAll := rfl
  rw [hfollow]
  have hflags {r : Reason} := State.turned_flags (old := u.spindle) (s := w) (r := r)
  have heq := State.turned_eq u.spindle w
  generalize w.turned u.spindle = y at hflags heq
  have hclaims : y.claims = w.claims := by rw [heq]
  have hyrec : y.records = w.records := by rw [heq]
  have hydrain : y.drain = w.drain := by rw [heq]
  refine ⟨fun _ _ _ k => ?_, State.Heralds.demandAll ⟨fun i z q hz hq v p hv' hp => ?_, fun r hr => ?_⟩,
    fun _ _ _ _ _ _ => ?_⟩
  · have hk : ({ u with spindle := x } : State).ConcludedBut [.dirtyCeiling, .drain, .fill] :=
      ⟨k.granted, k.drain, k.marks, k.urgent, k.calm, fun _ r hr => absurd (by cases r <;> simp) hr, k.unserved⟩
    have hkw := hk.alike hlike (l' := [.dirtyCeiling, .drain, .fill]) fun r hr => absurd (by cases r <;> simp) hr
    have hyv : y.service = .serving := by rw [heq]; exact hwv
    refine State.ConcludedBut.demandAll ⟨?_, ?_, ?_, ?_, ?_, fun _ r hr => absurd (by cases r <;> simp) hr,
      fun j => absurd hyv j⟩ hyv
    · rw [heq]; exact hkw.granted
    · rw [heq]; exact hkw.drain
    · rw [heq]; exact hkw.marks
    · rw [heq]; exact hkw.urgent
    · rw [heq]; exact hkw.calm
  · rw [hclaims, hlike.claims] at hv'
    rw [show u.claims[i] = some z from hz] at hv'
    cases hv'
    rw [hq] at hp
    cases hp
  · rcases hflags hr with j | j
    · exact .inl (by rw [hlike.demands] at j; exact j)
    · exact .inr (.inr j)
  · exact (((State.Drains.of_same (hydrain.trans hlike.drain) (hyrec.trans hrecords)).demandFor _).demandFor
      _).demandFor _

end

end Sys2Proof.Machine
end

section
/-! PROOFS. What RECORD_READ carries to its end: the records that are stuck when a drain has ended stay so while the
completions of further moves take their turns in the same read. -/

set_option Elab.async false

namespace Sys2Proof.Machine

/-! ### Stuck records -/

/-- The extents of the stuck records, in slot order. -/
def State.stuckExtents (s : State) : List Nat := (s.records.filter (·.stuck)).map (·.extent)

/-- A stuck record has something dirty and something valid, and no two records are of one extent. -/
structure State.StuckFull (s : State) : Prop where
  extents : (s.records.map (·.extent)).Nodup
  full : ∀ r ∈ s.records, r.stuck = true → r.dirty ≠ 0#32 ∧ r.valid ≠ 0#32

/-- Besides, no FLUSH in flight is of a stuck record. -/
structure State.StuckLaw (s : State) : Prop extends s.StuckFull where
  free : ∀ (c : Fin 4) m, s.contexts[c] = .flush m → m.extent ∉ s.stuckExtents

section
variable {s t u : State} {c : Fin 4}

theorem State.mem_stuckExtents {e : Nat} : e ∈ s.stuckExtents ↔ ∃ r ∈ s.records, r.stuck = true ∧ r.extent = e := by
  simp only [State.stuckExtents, List.mem_map, List.mem_filter, and_assoc]

theorem State.StuckFull.congr (h : s.StuckFull) (hr : t.records = s.records) : t.StuckFull :=
  ⟨hr ▸ h.extents, hr ▸ h.full⟩

theorem State.stuckExtents_congr (hr : t.records = s.records) : t.stuckExtents = s.stuckExtents := by
  rw [State.stuckExtents, hr, State.stuckExtents]

/-- Every lawful state whose moves are matched obeys the law. -/
theorem State.RecordsLawful.stuckLaw (hl : s.RecordsLawful) (hm : s.MovesMatched) : s.StuckLaw where
  extents := hl.extents
  full r hr hs := by
    have hlaw := hl.records r hr
    have hd : r.dirty ≠ 0#32 := fun k => by
      rw [(hlaw.settled k).2.2] at hs
      cases hs
    refine ⟨hd, fun hv => hd ?_⟩
    have := hlaw.dirtyValid
    rwa [Resident.DirtyValid, hv, segLess, BitVec.not_zero, BitVec.and_allOnes] at this
  free c m hc he := by
    obtain ⟨r, hr, hs, hre⟩ := State.mem_stuckExtents.1 he
    have := State.flushFree_of_matched hl hm c m hc trivial r (hre ▸ State.residentOf_of_mem hl.extents hr)
    rw [this] at hs
    cases hs

theorem State.StuckLaw.flushFree (h : s.StuckLaw) (c : Fin 4) : s.FlushFree True c := by
  intro m hc _ r hr
  obtain ⟨hmem, he⟩ := State.residentOf_mem hr
  by_contra hs
  exact h.free c m hc (State.mem_stuckExtents.2 ⟨r, hmem, by simpa using hs, he⟩)

theorem Resident.settled_stuck_eq {r : Resident} (h : r.stuck = true → r.dirty ≠ 0#32) : r.settled.stuck = r.stuck := by
  unfold Resident.settled
  split
  · rename_i hd
    cases hs : r.stuck with
    | false => rfl
    | true => exact absurd hd (h hs)
  · rfl

/-- A record stored as stuck as it was leaves the stuck records. -/
theorem State.store_stuck (h : s.StuckFull) (a : ListEnd) {r old : Resident} (ho : s.residentOf r.extent = some old)
    (hs : r.stuck = old.stuck) (hf : r.stuck = true → r.dirty ≠ 0#32 ∧ r.valid ≠ 0#32) :
    (s.store a r).StuckFull ∧ (s.store a r).stuckExtents = s.stuckExtents := by
  have hset : r.settled.stuck = r.stuck := Resident.settled_stuck_eq fun k => (hf k).1
  refine ⟨⟨by rw [State.store_extents]; exact h.extents, fun x hx k => ?_⟩, ?_⟩
  · rcases State.mem_store hx with rfl | ⟨hx, -⟩
    · rw [hset] at k
      rw [Resident.settled_of_dirty (hf k).1]
      exact hf k
    · exact h.full x hx k
  · unfold State.stuckExtents
    rw [State.store_records, List.filter_map, List.map_map]
    have hext (x : Resident) : (if x.extent = r.extent then r.settled else x).extent = x.extent := by
      split
      · rename_i he
        rw [he]
        simp
      · rfl
    simp only [Function.comp_def, hext]
    congr 1
    refine List.filter_congr fun x hx => ?_
    by_cases he : x.extent = r.extent
    · rw [if_pos he, hset, hs]
      have : some x = some old := by rw [← State.residentOf_of_mem h.extents hx, he, ho]
      cases this
      rfl
    · rw [if_neg he]

/-- A removed record is empty, so not stuck. -/
theorem State.retireIfEmpty_stuck (h : s.StuckFull) (f : SlotFate) (e : Nat) :
    (s.retireIfEmpty f e).StuckFull ∧ (s.retireIfEmpty f e).stuckExtents = s.stuckExtents := by
  rcases State.retireIfEmpty_cases f e s with ⟨-, k⟩ | ⟨x, hx, hempty, k⟩
  · rw [k]
    exact ⟨h, rfl⟩
  · rw [k]
    have hrec : (s.remove f x).records = s.records.filter fun y => y.extent ≠ x.extent := State.remove_records f x s
    obtain ⟨hmem, hxe⟩ := State.residentOf_mem hx
    have hns : x.stuck = false := by
      by_contra hs
      have hv := (h.full x hmem (by simpa using hs)).2
      simp only [State.retires, hx, Resident.isEmpty, Bool.and_eq_true, beq_iff_eq] at hempty
      exact hv hempty.1.1.1
    refine ⟨⟨?_, fun y hy => ?_⟩, ?_⟩
    · rw [hrec]
      exact h.extents.sublist (List.filter_sublist.map _)
    · rw [hrec] at hy
      exact h.full y (List.mem_filter.1 hy).1
    · unfold State.stuckExtents
      rw [hrec, List.filter_filter]
      congr 1
      refine List.filter_congr fun y hy => ?_
      by_cases he : y.extent = x.extent
      · have : some y = some x := by
          rw [← State.residentOf_of_mem h.extents hy, ← State.residentOf_of_mem h.extents hmem, he]
        cases this
        rw [hns]
        rfl
      · simp [he]

theorem State.completeFill_stuck (h : s.StuckFull) (c : Fin 4) (m : FillMove) :
    (s.completeFill c m).StuckFull ∧ (s.completeFill c m).stuckExtents = s.stuckExtents := by
  cases hr : s.residentOf m.extent with
  | none =>
    have hrec : (s.completeFill c m).records = s.records := by
      have hr' : (s.filled c).residentOf m.extent = none := hr
      show State.records (match (s.filled c).residentOf m.extent with
        | none => s.filled c
        | some r => (s.filled c).endRecord .freed { r with valid := r.valid ||| m.validate }) = _
      rw [hr']
      rfl
    exact ⟨h.congr hrec, State.stuckExtents_congr hrec⟩
  | some r =>
    rw [State.completeFill_eq c hr]
    obtain ⟨hmem, he⟩ := State.residentOf_mem hr
    obtain ⟨h1, h2⟩ := State.store_stuck (s := s.filled c)
      (r := { r with valid := r.valid ||| m.validate, state := .resident }) (old := r) (h.congr rfl) .tail
      (he.symm ▸ hr : s.residentOf r.extent = _) rfl fun hs =>
        ⟨(h.full r hmem hs).1, fun k => (h.full r hmem hs).2 (BitVec.or_eq_zero_iff.1 k).1⟩
    obtain ⟨h3, h4⟩ := State.retireIfEmpty_stuck h1 .freed r.extent
    exact ⟨h3, h4.trans h2⟩

theorem State.completeFlush_stuck (h : s.StuckFull) (c : Fin 4) {m : FlushMove}
    (hf : ∀ r, s.residentOf m.extent = some r → r.stuck = false) :
    (s.completeFlush c m).StuckFull ∧ (s.completeFlush c m).stuckExtents = s.stuckExtents := by
  rcases State.completeFlush_cases c m s with k | ⟨r, hr, k⟩ <;> rw [k]
  · exact ⟨h.congr rfl, rfl⟩
  · have hns := hf r hr
    have hst := State.store_stuck (s := s.flushed c) (r := r.cleanedBy (m.cleaned r.dirty)) (old := r) (h.congr rfl)
      .tail
      ((State.residentOf_extent hr).symm ▸ hr : s.residentOf r.extent = _) rfl fun hs => by
        rw [show (r.cleanedBy (m.cleaned r.dirty)).stuck = r.stuck from rfl, hns] at hs
        cases hs
    generalize (s.flushed c).store .tail (r.cleanedBy (m.cleaned r.dirty)) = v at hst
    have hmark : State.records (if m.cleaned r.dirty = 0#32 then v else v.produceMark c m.slot (m.cleaned r.dirty)) =
        v.records := by
      split
      · rfl
      · exact State.produceMark_records _ _ _ v
    obtain ⟨h3, h4⟩ := State.retireIfEmpty_stuck (hst.1.congr hmark) .freed m.extent
    exact ⟨h3, h4.trans ((State.stuckExtents_congr hmark).trans hst.2)⟩

/-- The completion of a move whose order's set is empty keeps the law and the stuck records. -/
theorem State.StuckLaw.placeOrder (h : s.StuckLaw) (he : s.orderEmpty c = true) :
    (s.placeOrder c).StuckLaw ∧ (s.placeOrder c).stuckExtents = s.stuckExtents := by
  have hcomp := State.placeOrder_completes he
  have hstuck : (s.placeOrder c).StuckFull ∧ (s.placeOrder c).stuckExtents = s.stuckExtents := by
    cases hc : s.contexts[c] with
    | idle => simp [State.orderEmpty, hc] at he
    | marking n a => simp [State.orderEmpty, hc] at he
    | fill m =>
      rw [State.orderEmpty_fill hc, beq_iff_eq] at he
      rw [State.placeOrder_completeFill hc he]
      exact State.completeFill_stuck h.toStuckFull c m
    | flush m =>
      rw [State.orderEmpty_flush hc, beq_iff_eq] at he
      rw [State.placeOrder_completeFlush hc he]
      exact State.completeFlush_stuck h.toStuckFull c (h.flushFree c m hc trivial)
  refine ⟨⟨hstuck.1, fun d m hd => ?_⟩, hstuck.2⟩
  rw [hstuck.2]
  by_cases hdc : d = c
  · have hown := hcomp.own
    subst hdc
    rw [hd] at hown
    cases hown
  · exact h.free d m (hcomp.others d hdc ▸ hd)

/-- The end of an event keeps the law and the stuck records. -/
theorem State.StuckLaw.finish (h : s.StuckLaw) : s.finish.StuckLaw ∧ s.finish.stuckExtents = s.stuckExtents := by
  have he := State.Ends.finish s
  have hrec : ∃ g : Resident → Resident, s.finish.records = s.records.map g ∧
      ∀ x, (g x).extent = x.extent ∧ (g x).stuck = x.stuck ∧ (g x).dirty = x.dirty ∧ (g x).valid = x.valid := by
    rcases he.records with k | ⟨k, -⟩
    · exact ⟨id, by simpa using k, fun _ => ⟨rfl, rfl, rfl, rfl⟩⟩
    · exact ⟨Resident.unmarked, k, fun _ => ⟨rfl, rfl, rfl, rfl⟩⟩
  obtain ⟨g, hg, hsame⟩ := hrec
  have hextent : (fun r : Resident => (g r).extent) = (·.extent) := funext fun x => (hsame x).1
  have hisStuck : (fun r : Resident => (g r).stuck) = (·.stuck) := funext fun x => (hsame x).2.1
  have hstuck : s.finish.stuckExtents = s.stuckExtents := by
    simp only [State.stuckExtents, hg, List.filter_map, List.map_map, Function.comp_def, hextent, hisStuck]
  refine ⟨⟨⟨?_, fun r hr hs => ?_⟩, fun d m hd => ?_⟩, hstuck⟩
  · simpa only [hg, List.map_map, Function.comp_def, hextent] using h.extents
  · rw [hg] at hr
    obtain ⟨x, hx, rfl⟩ := List.mem_map.1 hr
    obtain ⟨-, h2, h3, h4⟩ := hsame x
    rw [h3, h4]
    exact h.full x hx (h2 ▸ hs)
  · rw [hstuck]
    exact h.free d m (he.contexts ▸ hd)

/-! ### A drain that has ended -/

/-- The count of DRAINED depends on the extents of the stuck records alone. -/
theorem State.countP_stuckMarked (s t : State) : t.records.countP s.stuckMarked =
    t.stuckExtents.countP fun e => s.records.any fun x => x.extent == e && x.drainMark := by
  rw [State.stuckExtents, List.countP_map, List.countP_filter]
  refine List.countP_congr fun r _ => ?_
  simp only [State.stuckMarked, Function.comp_def, Bool.and_comm]

/-- What leaves the stuck records leaves a drain going on, or its end to be read. -/
theorem State.Drains.works (h : s.Drains t) (hw : t.Works True u) (he : u.stuckExtents = t.stuckExtents) :
    s.Drains u := by
  intro hd
  rcases h hd with ⟨hon, hm⟩ | ⟨hoff, hshown⟩
  · exact .inl ⟨hw.drain.trans hon, hm.works hw⟩
  · refine .inr ⟨hw.drain.trans hoff, ?_⟩
    unfold State.ShowsDrained at hshown ⊢
    rw [State.countP_stuckMarked s u, he, ← State.countP_stuckMarked, hw.drainedOwed]
    exact hshown.imp_left fun k => (hw.out .front).subset k

end

end Sys2Proof.Machine
end

section
/-! PROOFS. What RECORD_READ carries to its end: the owed record that takes the freed place, and the completions that
give up their turns to the next. -/

set_option Elab.async false

namespace Sys2Proof.Machine

section
variable {s t u : State} {c : Instr}

/-! ### A further step that the end of an event does not see -/

theorem State.Alike.stuckMarked (h : t.Alike u) (s : State) :
    u.records.countP s.stuckMarked = t.records.countP s.stuckMarked := by
  let f (x : Nat × Bool × Bool) : Bool := x.2.2 && s.records.any fun y => y.extent == x.1 && y.drainMark
  have hf : s.stuckMarked = f ∘ Resident.flags := rfl
  rw [hf, ← List.countP_map, h.records, List.countP_map]

/-- The conditions on a further step: what is placed stays placed, DRAINED owed stays owed, and a demand owed for a flag
that was no at first is placed or stays owed. -/
structure State.Shows (s t u : State) : Prop where
  out : ∀ p, (t.link p).out ⊆ (u.link p).out
  drainedOwed : u.drainedOwed = t.drainedOwed
  demands : ∀ r, t.demands.get r = true →
    s.demands.get r = true ∨ (.demand r ∈ t.diskOwed → .spinUpDemand r ∈ u.disk.out ∨ .demand r ∈ u.diskOwed)

theorem State.Carries.chain (h : s.Carries c t) (ha : t.Alike u) (hf : u.demandHolds .fill = t.demandHolds .fill)
    (hs : s.Shows t u) : s.Carries c u where
  concluded h1 h2 h3 h4 := (h.concluded h1 h2 h3 h4).alike ha hf
  heralds := by
    refine ⟨fun i x q hx hq y p hy hp => hs.out p (h.heralds.grants i x q hx hq y p (ha.claims ▸ hy) hp),
      fun r hr => ?_⟩
    rw [ha.demands] at hr
    rcases h.heralds.flags r hr with k | k | k
    · exact .inl k
    · exact .inr (.inl (hs.out .disk k))
    · exact (hs.demands r hr).imp_right fun j => j k
  drains h1 h2 h3 h4 h5 h6 hd := by
    rcases h.drains h1 h2 h3 h4 h5 h6 hd with ⟨hon, hm⟩ | ⟨hoff, hshown⟩
    · refine .inl ⟨ha.drain.trans hon, fun r hr hst => ?_⟩
      obtain ⟨y, hy, hyr⟩ := ha.mem_records hr
      obtain ⟨z, hz, hze, hzm⟩ := hm y hy ((congrArg (·.2.2) hyr).trans hst)
      exact ⟨z, hz, hze.trans (congrArg (·.1) hyr), hzm.trans (congrArg (·.2.1) hyr)⟩
    · refine .inr ⟨ha.drain.trans hoff, ?_⟩
      unfold State.ShowsDrained
      rw [ha.stuckMarked s, hs.drainedOwed]
      exact hshown.imp_left fun k => hs.out .front k

/-! ### Turns of owed records -/

/-- What holds of a state in a read before an owed record takes its turn. -/
structure State.Reading (c : Instr) (s t : State) : Prop extends State.Carries c s t where
  apart : s.SettingsInRange → t.WatermarksApart
  law : s.RecordsLawful → s.MovesMatched → t.StuckLaw

/-- An owed record that is taken off its list without being placed. -/
theorem State.Reading.pop {f : List FlashOwed} {d : List DiskOwed} (h : State.Reading c s t)
    (hd : ∀ r, .demand r ∈ t.diskOwed → .demand r ∈ d) :
    State.Reading c s { t with flashOwed := f, diskOwed := d } where
  toCarries := h.chain ⟨.rfl, rfl, fun _ _ => rfl, rfl, rfl, rfl, rfl, fun _ => rfl, fun _ => rfl, rfl, rfl⟩ rfl
    ⟨fun _ => List.Subset.refl _, rfl, fun r _ => .inr fun k => .inr (hd r k)⟩
  apart := h.apart
  law h1 h2 := by
    obtain ⟨⟨k1, k2⟩, k3⟩ := h.law h1 h2
    exact ⟨⟨k1, k2⟩, k3⟩

/-- The completion of a move whose order's set is empty, and the end of its event. -/
theorem State.Reading.completes {d : Fin 4} (h : State.Reading c s t) (he : t.orderEmpty d = true) :
    State.Reading c s (t.placeOrder d).finish := by
  have hw : t.Works False (t.placeOrder d) := State.placeOrder_works (State.flushFree_false d)
  have hk := (State.Ends.finish (t.placeOrder d)).keeps
  refine ⟨⟨fun h1 h2 h3 h4 => ?_, (h.heralds.works hw).finish, fun h1 h2 h3 h4 h5 h6 => ?_⟩, fun h1 hv => ?_,
    fun h1 h2 => ?_⟩
  · exact (hw.concludable (h.concluded h1 h2 h3 h4).concludable).finish (hw.watermarksApart (h.apart h1))
  · have hlaw := h.law h1 h2
    have hstrict : t.Works True (t.placeOrder d) := State.placeOrder_works (hlaw.flushFree d)
    exact ((h.drains h1 h2 h3 h4 h5 h6).works hstrict (hlaw.placeOrder he).2).finish h1.extents
  · have := hw.watermarksApart (h.apart h1) (hk.service ▸ hv)
    simpa only [State.dirtyLow, State.dirtyHigh, hk.sizes] using this
  · exact ((h.law h1 h2).placeOrder he).1.finish.1

/-! ### Orders and marks placed -/

/-- A context replaced by one with the same move in flight leaves every extent as quiescent as it was. -/
theorem State.setContext_quiescent {d : Fin 4} {x : Context} (hx : x.extentInMove = s.contexts[d].extentInMove)
    (hc : t.contexts = s.contexts.set d x) (hr : t.routes = s.routes) (p : Port) (e : Nat) :
    t.quiescent p e = s.quiescent p e := by
  have hget (i : Fin 4) : t.contexts[i].extentInMove = s.contexts[i].extentInMove := by
    rw [hc, set_getElem_fin]
    split
    · rename_i hi
      rw [hi, hx]
    · rfl
  simp only [State.quiescent, State.inMove, State.held, hget, hr]

/-- The end of an event does not see that a context is replaced by one with the same move in flight. -/
theorem State.setContext_alike {d : Fin 4} {x : Context} {n : Nat} {a : Option Nat}
    (hx : x.extentInMove = s.contexts[d].extentInMove) :
    s.Alike { s.setContext d x with tickets := n, adviceTimer := a } :=
  ⟨.rfl, rfl, State.setContext_quiescent hx rfl rfl, rfl, rfl, rfl, rfl, fun _ => rfl, fun _ => rfl, rfl, rfl⟩

/-- The placing of a record and the change of a context with the same move in flight. -/
theorem State.Carries.placeIn {d : Fin 4} {x : Context} {p : Port} {r : Outbound} {n : Nat} {a : Option Nat}
    (h : s.Carries c t) (hx : x.extentInMove = t.contexts[d].extentInMove) :
    s.Carries c { (t.place p r).setContext d x with tickets := n, adviceTimer := a } := by
  have hx' : x.extentInMove = (t.place p r).contexts[d].extentInMove := by rw [hx, State.place_contexts]
  refine h.chain ((State.Alike.place p r t).trans (State.setContext_alike hx')) (State.place_fill p r t)
    ⟨fun q => ?_, State.place_drainedOwed _ _ _, fun q _ => .inr fun k => .inr ?_⟩
  · exact ((State.place_keeps p r t).link q).out.subset
  · exact (State.place_diskOwed t p r).symm ▸ k

theorem State.Carries.issue {d : Fin 4} {x : Context} {p : Port} {r : Outbound} (h : s.Carries c t)
    (hx : x.extentInMove = t.contexts[d].extentInMove) : s.Carries c (t.issue p r d x) := by
  unfold State.issue
  dsimp only
  split
  · rw [State.armAdvice_eq]
    exact h.placeIn hx
  · exact h.placeIn hx

/-- The placing of an order whose set is not empty. -/
theorem State.Carries.placeOrder {d : Fin 4} (h : s.Carries c t) (he : t.orderEmpty d = false) :
    s.Carries c (t.placeOrder d) := by
  cases hc : t.contexts[d] with
  | idle =>
    simp only [State.placeOrder, hc]
    exact h
  | marking n a =>
    simp only [State.placeOrder, hc]
    exact h
  | fill m =>
    rw [State.orderEmpty_fill hc, beq_eq_false_iff_ne] at he
    rw [State.placeOrder_fill hc he]
    exact h.issue (by rw [hc]; rfl)
  | flush m =>
    rw [State.orderEmpty_flush hc, beq_eq_false_iff_ne] at he
    rw [State.placeOrder_flush hc he]
    refine h.issue ?_
    rw [hc]
    unfold FlushMove.afterPlacing
    split <;> rfl

theorem State.Carries.place (h : s.Carries c t) (p : Port) (r : Outbound) : s.Carries c (t.place p r) :=
  h.chain (.place p r t) (State.place_fill p r t) ⟨fun q => ((State.place_keeps p r t).link q).out.subset,
    State.place_drainedOwed _ _ _, fun _ _ => .inr fun k => .inr ((State.place_diskOwed t p r).symm ▸ k)⟩

/-! ### The flash port -/

theorem State.placeFlashOwed_carries (n : Nat) (h : State.Reading c s t) : s.Carries c (State.placeFlashOwed n t) := by
  induction n generalizing t with
  | zero => exact h.toCarries
  | succ n ih =>
    cases ho : t.flashOwed with
    | nil =>
      rw [State.placeFlashOwed_nil ho]
      exact h.toCarries
    | cons o os =>
      have hpop : State.Reading c s { t with flashOwed := os } := h.pop fun _ k => k
      cases o with
      | retire k =>
        rw [State.placeFlashOwed_retire ho]
        exact hpop.place _ _
      | mark d =>
        cases hd : t.contexts[d] with
        | marking k a =>
          rw [State.placeFlashOwed_mark ho hd]
          exact hpop.placeIn (x := .idle) (show _ = t.contexts[d].extentInMove by rw [hd]; rfl)
        | idle =>
          rw [State.placeFlashOwed_unmarked ho (by simp [hd])]
          exact ih hpop
        | fill m =>
          rw [State.placeFlashOwed_unmarked ho (by simp [hd])]
          exact ih hpop
        | flush m =>
          rw [State.placeFlashOwed_unmarked ho (by simp [hd])]
          exact ih hpop
      | order d =>
        cases he : State.orderEmpty { t with flashOwed := os } d with
        | false =>
          rw [State.placeFlashOwed_order ho he]
          exact hpop.placeOrder he
        | true =>
          rw [State.placeFlashOwed_completes ho he]
          split
          · exact ih (hpop.completes he)
          · exact (hpop.completes he).toCarries

/-! ### The disk port -/

/-- An owed demand is placed where there is room, which may be missing only before the flags rise. -/
theorem State.Carries.placeDemand {r : Reason} {os : List DiskOwed} (h : s.Carries c t)
    (ho : t.diskOwed = .demand r :: os)
    (hr : t.hasRoom .disk 1 = true ∨ ∀ q, t.demands.get q = true → s.demands.get q = true) :
    s.Carries c (State.placeDemand r { t with diskOwed := os }) := by
  have hpop : t.Alike { t with diskOwed := os } :=
    ⟨.rfl, rfl, fun _ _ => rfl, rfl, rfl, rfl, rfl, fun _ => rfl, fun _ => rfl, rfl, rfl⟩
  have hcount : (State.place .disk (.spinUpDemand r) { t with diskOwed := os }).Alike
      (State.placeDemand r { t with diskOwed := os }) :=
    ⟨.rfl, rfl, fun _ _ => rfl, rfl, rfl, rfl, rfl, fun _ => rfl, fun _ => rfl, rfl, rfl⟩
  refine h.chain ((hpop.trans (.place _ _ _)).trans hcount) (State.place_fill _ _ { t with diskOwed := os })
    ⟨fun q => ((State.place_keeps .disk (.spinUpDemand r) { t with diskOwed := os }).link q).out.subset,
      State.place_drainedOwed { t with diskOwed := os } _ _, fun q hq => ?_⟩
  rcases hr with hr | hr
  · refine .inr fun k => ?_
    rw [ho, List.mem_cons] at k
    rcases k with k | k
    · cases k
      left
      show _ ∈ ((State.place .disk (.spinUpDemand r) { t with diskOwed := os }).link .disk).out
      rw [State.link_place_same (p := .disk) (s := { t with diskOwed := os }) _ hr]
      simp
    · right
      show _ ∈ (State.place .disk (.spinUpDemand r) { t with diskOwed := os }).diskOwed
      rw [State.place_diskOwed]
      exact k
  · exact .inl (hr q hq)

theorem State.placeDiskOwed_carries (n : Nat) (h : State.Reading c s t)
    (hr : t.hasRoom .disk 1 = true ∨ ∀ q, t.demands.get q = true → s.demands.get q = true) :
    s.Carries c (State.placeDiskOwed n t) := by
  induction n generalizing t with
  | zero => exact h.toCarries
  | succ n ih =>
    cases ho : t.diskOwed with
    | nil =>
      have : State.placeDiskOwed (n + 1) t = t := by simp only [State.placeDiskOwed, ho]
      rw [this]
      exact h.toCarries
    | cons o os =>
      have hpop (hno : ∀ q, o ≠ .demand q) : State.Reading c s { t with diskOwed := os } := h.pop fun q k => by
        rw [ho, List.mem_cons] at k
        exact k.resolve_left fun j => hno q j.symm
      cases o with
      | demand r =>
        rw [State.placeDiskOwed_demand ho]
        exact h.placeDemand ho hr
      | advice =>
        rw [State.placeDiskOwed_advice ho]
        exact (hpop nofun).place _ _
      | order d =>
        cases he : State.orderEmpty { t with diskOwed := os } d with
        | false =>
          rw [State.placeDiskOwed_order ho he]
          exact (hpop nofun).placeOrder he
        | true =>
          rw [State.placeDiskOwed_completes ho he]
          split
          · rename_i hroom
            exact ih ((hpop nofun).completes he) (.inl hroom)
          · exact ((hpop nofun).completes he).toCarries

/-! ### The front port and the grants -/

theorem State.setOwed_alike (e : Nat) (f : OwedNotice → OwedNotice) (s : State) : s.Alike (s.setOwed e f) := by
  refine ⟨.rfl, rfl, fun _ _ => rfl, rfl, ?_, rfl, rfl, fun _ => rfl, fun _ => rfl, rfl, rfl⟩
  show (s.records.map _).map _ = _
  rw [List.map_map]
  refine List.map_congr_left fun x _ => ?_
  simp only [Function.comp_def]
  split <;> rfl

theorem State.placeNotice_alike (r : Resident) (s : State) :
    s.Alike (s.placeNotice r) ∧ (s.placeNotice r).demandHolds .fill = s.demandHolds .fill := by
  unfold State.placeNotice
  split
  · exact ⟨.refl s, rfl⟩
  · exact ⟨(State.Alike.place _ _ s).trans (State.setOwed_alike _ _ _), State.place_fill _ _ s⟩
  · exact ⟨(State.Alike.place _ _ s).trans (State.setOwed_alike _ _ _), State.place_fill _ _ s⟩

theorem State.placeFrontOwed_alike (s : State) :
    s.Alike s.placeFrontOwed ∧ s.placeFrontOwed.demandHolds .fill = s.demandHolds .fill := by
  unfold State.placeFrontOwed
  split
  · exact ⟨(State.Alike.place _ _ s).trans
      ⟨.rfl, rfl, fun _ _ => rfl, rfl, rfl, rfl, rfl, fun _ => rfl, fun _ => rfl, rfl, rfl⟩, State.place_fill _ _ s⟩
  · split
    · exact State.placeNotice_alike _ s
    · exact ⟨.refl s, rfl⟩

theorem State.readOut_body (p : Port) (s : State) : (s.readOut p).body = s.body := by
  cases p <;> rfl

/-- An owed grant's entry is owned before and after it is placed (R87). -/
theorem State.placeGrant_carries {p : Port} {i : Fin 8} (hb : t.body = s.body) (hg : t.owedGrant p = some i) :
    s.Carries c (t.placeGrant p i) := by
  have hclaims := State.body_claims hb
  have hown : t.claims[i].map (·.standing) = some (.owned p true) := by simpa using List.find?_some hg
  unfold State.placeGrant
  cases hc : t.claims[i] with
  | none =>
    rw [hc] at hown
    cases hown
  | some y =>
    dsimp only
    rw [hc, Option.map_some, Option.some.injEq] at hown
    have hget (j : Fin 8) : ((t.place p (.claimGranted y.extent)).setClaim i
        (some { y with standing := .owned p false })).claims[j] =
          if j = i then some { y with standing := .owned p false } else s.claims[j] := by
      rw [State.claims_setClaim, State.place_claims, hclaims]
    have hbody : { (t.place p (.claimGranted y.extent)).setClaim i (some { y with standing := .owned p false }) with
        claims := s.claims }.body = s.body := by
      have h1 := (State.place_body p (.claimGranted y.extent) t).trans hb
      have h2 := congrArg (fun v : State => { v with claims := s.claims }) h1
      exact h2
    refine State.Carries.of_claims (fun j x q hx hq w v hw hs => ?_) (fun k j x q hx hq => ?_) hbody fun k => ?_
    · rw [hget] at hw
      split at hw
      · rename_i hj
        rw [hj, ← hclaims, hc] at hx
        cases hx
        rw [hown] at hq
        cases hq
      · rw [hx] at hw
        cases hw
        rw [hq] at hs
        cases hs
    · rw [hget] at hx
      split at hx
      · cases hx
        cases hq
      · have hquiescent : ∀ q e, ((t.place p (.claimGranted y.extent)).setClaim i
            (some { y with standing := .owned p false })).quiescent q e = s.quiescent q e :=
          State.quiescent_congr (congrArg State.contexts hbody : (State.body _).contexts = _)
            (congrArg State.routes hbody : (State.body _).routes = _)
        rw [hquiescent]
        exact k.granted j x q hx hq
    · by_contra hv
      have := (k.unserved hv).1 i
      rw [← hclaims, hc] at this
      cases this

theorem exec_recordRead_carries {p : Port} (h : exec (.recordRead p) s = .next t) : s.Carries (.recordRead p) t := by
  have ht : s.recordRead p = t := Host.Outcome.next.inj h
  rw [← ht]
  have hb := State.readOut_body p s
  have hreading : State.Reading (.recordRead p) s (s.readOut p) := by
    refine ⟨State.carries_of_body hb, fun h1 => ?_, fun h1 h2 => ?_⟩
    · exact (by cases p <;> exact h1.watermarksApart)
    · obtain ⟨⟨k1, k2⟩, k3⟩ := h1.stuckLaw h2
      cases p <;> exact ⟨⟨k1, k2⟩, k3⟩
  unfold State.recordRead
  split
  · exact hreading.toCarries
  · cases hg : (s.readOut p).owedGrant p with
    | some i =>
      rw [State.placeOwed_grant hg]
      exact State.placeGrant_carries hb hg
    | none =>
      cases p with
      | front =>
        rw [State.placeOwed_front hg]
        obtain ⟨h1, h2⟩ := State.placeFrontOwed_alike (s.readOut .front)
        exact ((State.Alike.of_body hb).trans h1).carries (h2.trans rfl)
      | flash =>
        rw [State.placeOwed_flash hg]
        exact State.placeFlashOwed_carries _ hreading
      | disk =>
        rw [State.placeOwed_disk hg]
        exact State.placeDiskOwed_carries _ hreading (.inr fun _ k => k)

end

end Sys2Proof.Machine
end

section
/-! PROOFS. The end of an event, and what every step leaves carried out: every command carries it to its end. -/

set_option Elab.async false

namespace Sys2Proof.Machine

/-- Every command keeps carried out what an event ends with, and leaves its grants, its demands and its drain's end to
be read. -/
theorem exec_carries {s t : State} {c : Instr} (h : exec c s = .next t) : s.Carries c t := by
  cases c with
  | powerOn => exact exec_powerOn_carries h
  | inboundFrame _ _ => exact exec_inboundFrame_carries h
  | recordRead _ => exact exec_recordRead_carries h
  | malformedEntry _ => exact exec_malformedEntry_carries h
  | route _ _ _ _ => exact exec_route_carries h
  | parkedRouteReadmit => exact exec_parkedRouteReadmit_carries h
  | done _ _ => exact exec_done_carries h
  | claim _ _ => exact exec_claim_carries h
  | release _ _ => exact exec_release_carries h
  | flushAll => exact exec_flushAll_carries h
  | retryStuck => exact exec_retryStuck_carries h
  | setEpochLen v =>
    exact setting_carries (g := fun x => { x with epochLen := clamp 0 1023 v }) (fun _ => ⟨rfl, rfl⟩)
      (show execSetEpochLen v s = _ from h)
  | setDecay v =>
    exact setting_carries (g := fun x => { x with decay := clamp 1 8 v }) (fun _ => ⟨rfl, rfl⟩)
      (show execSetDecay v s = _ from h)
  | setBands _ _ _ => exact exec_setBands_carries h
  | setSettle v =>
    exact setting_carries (g := fun x => { x with settle := clamp 1 15 v }) (fun _ => ⟨rfl, rfl⟩)
      (show execSetSettle v s = _ from h)
  | setPromoteBand v =>
    exact setting_carries (g := fun x => { x with promoteBand := Band.ofRank (clamp 1 3 v) }) (fun _ => ⟨rfl, rfl⟩)
      (show execSetPromoteBand v s = _ from h)
  | setWRread v =>
    exact setting_carries (g := fun x => { x with wRread := clamp 0 255 v }) (fun _ => ⟨rfl, rfl⟩)
      (show execSetWRread v s = _ from h)
  | setWRwrite v =>
    exact setting_carries (g := fun x => { x with wRwrite := clamp 0 255 v }) (fun _ => ⟨rfl, rfl⟩)
      (show execSetWRwrite v s = _ from h)
  | setWSread v =>
    exact setting_carries (g := fun x => { x with wSread := clamp 0 255 v }) (fun _ => ⟨rfl, rfl⟩)
      (show execSetWSread v s = _ from h)
  | setWSwrite v =>
    exact setting_carries (g := fun x => { x with wSwrite := clamp 0 255 v }) (fun _ => ⟨rfl, rfl⟩)
      (show execSetWSwrite v s = _ from h)
  | setWakeBonus v =>
    exact setting_carries (g := fun x => { x with wakeBonus := clamp 0 255 v }) (fun _ => ⟨rfl, rfl⟩)
      (show execSetWakeBonus v s = _ from h)
  | setSeqRun v =>
    exact setting_carries (g := fun x => { x with seqRun := clamp 64 65535 v }) (fun _ => ⟨rfl, rfl⟩)
      (show execSetSeqRun v s = _ from h)
  | setWindow _ _ _ _ _ => exact exec_setWindow_carries h
  | setPinLimit _ => exact exec_setPinLimit_carries h
  | setAbsorbReserve _ => exact exec_setAbsorbReserve_carries h
  | setDirtyHigh _ => exact exec_setDirtyHigh_carries h
  | setDirtyLow _ => exact exec_setDirtyLow_carries h
  | setOrderTimeout v =>
    exact setting_carries (g := fun x => { x with orderTimeout := clamp 1 255 v }) (fun _ => ⟨rfl, rfl⟩)
      (show execSetOrderTimeout v s = _ from h)
  | setAdviceDelay _ => exact exec_setAdviceDelay_carries h
  | setFillWake _ => exact exec_setFillWake_carries h
  | setProfile _ => exact exec_setProfile_carries h
  | query _ => exact exec_query_carries h
  | querySummary => exact exec_querySummary_carries h
  | stats _ => exact exec_stats_carries h
  | restart => exact exec_restart_carries h
  | geometry _ => exact exec_geometry_carries h
  | adopt _ _ _ _ _ => exact exec_adopt_carries h
  | adoptEnd => exact exec_adoptEnd_carries h
  | report _ _ _ _ => exact exec_report_carries h
  | unfence _ => exact exec_unfence_carries h
  | spindle _ => exact exec_spindle_carries h
  | window _ => exact exec_window_carries h
  | frontLinkReset => exact exec_frontLinkReset_carries h
  | flashLinkReset => exact exec_flashLinkReset_carries h
  | diskLinkReset => exact exec_diskLinkReset_carries h
  | epochTimerExpiry => exact exec_epochTimerExpiry_carries h
  | orderTimerExpiry _ => exact exec_orderTimerExpiry_carries h
  | adviceTimerExpiry => exact exec_adviceTimerExpiry_carries h
  | startEvent => exact exec_startEvent_carries h

end Sys2Proof.Machine

open Sys2Proof Sys2Proof.Machine in
/-- Settles O28: the parts of an event's end one by one; and an invariant of each command, that what its event ends with
is carried out and that its grants, its demands and its drain's end can be read. -/
theorem anEventEndsWithGrantsTheDrainAndUrgentMode : Obligations.AnEventEndsWithGrantsTheDrainAndUrgentMode := by
  refine ⟨fun s h => State.finish_unserved h, fun s hv => ?_, urgentAfter_iff, ?_, ?_⟩
  · intro t granted notices stuck room
    have he := State.Ends.finish s
    have hgranted (p : Port) : granted p = s.granted p := rfl
    refine ⟨fun i c hc => ?_, fun i hi => (State.finish_grants hv i).1 hi, State.finish_drain hv, fun hd ht => ?_,
      fun hd => ?_, State.finish_front_out hv, State.finish_flash_out hv, State.finish_urgent hv, State.finish_flags hv,
      State.finish_demands hv, he.segmentsOf, he.contexts, he.routes, he.free, he.fences, he.watch, he.clean,
      he.dirtyList, he.promo, he.keeps.parked, he.tickets, he.adviceTimer, he.flashOwed, he.lastKind,
      State.finish_link, fun p => (he.keeps.link p).out⟩
    · obtain ⟨howned, hpending⟩ := (State.finish_grants hv i).2 c hc
      refine ⟨fun q hq k => ?_, fun q hq k => ?_, howned⟩
      · rw [← State.quiescent_congr he.contexts he.routes] at k
        rcases (hpending q hq).2 k with ⟨h1, -⟩ | ⟨h1, -⟩
        · exact ⟨_, h1⟩
        · exact ⟨_, h1⟩
      · rw [← State.quiescent_congr he.contexts he.routes] at k
        rw [(hpending q hq).1 k, ← hq]
    · obtain ⟨h1, h2, h3⟩ := State.finish_drain_ended hv hd ht
      simp only [State.grantAll_front_room] at h2 h3
      have hroom : room = true ↔ s.front.out.length + (s.granted .front).length < 16 := decide_eq_true_iff
      refine ⟨fun r hr => ?_, ?_, ?_⟩
      · rw [h1] at hr
        obtain ⟨x, -, rfl⟩ := List.mem_map.1 hr
        rfl
      · by_cases hr : s.front.out.length + (s.granted .front).length < 16
        · rw [if_pos hr] at h3
          exact .inr (show _ ∈ (s.finish.link .front).out by rw [h3]; simp [stuck, State.stuckCount])
        · rw [if_neg hr] at h2
          exact .inl h2
      · simp only [hroom]
        exact h2
    · obtain ⟨h1, h2, -⟩ := State.finish_drain_stands hv hd
      exact ⟨h1, h2⟩
  · intro s t h1 h2 h3 h4 hstep
    rcases step_cases hstep with rfl | ⟨c, cs, -, hexec⟩
    · exact h4
    · exact (exec_carries hexec).concluded ⟨h1.settings, h1.sizes, h1.sized, h1.windows⟩
        ⟨h2.records, h2.watch, h2.epoch, h2.extents, h2.dirtyList⟩
        ⟨h3.extents, h3.dirtyOnce, h3.dirty, h3.cleanOnce, h3.clean⟩
        ⟨h4.granted, h4.drain, h4.marks, h4.urgent, h4.calm, h4.demands, h4.unserved⟩
  · intro s t c hs hl hexec
    obtain ⟨-, hheralds, hdrains⟩ := exec_carries hexec
    refine ⟨fun i x y q hx hq hy hp => hheralds.grants i x q hx hq y _ hy hp, fun hm hd htd h1 h2 h3 => ?_,
      fun r hr ht => ?_⟩
    · rcases hdrains hl hm hs h1 h2 h3 hd with ⟨k, -⟩ | ⟨-, k⟩
      · rw [htd] at k
        cases k
      · exact k
    · exact (hheralds.flags r ht).resolve_left fun k => by rw [hr] at k; cases k
end
